-- ==== Sys2Proof/Word.lean ====
section
/-! DEFINITION. The words the manual treats as bits, and the fixed index ranges of R3, R4 and the owning chapters. -/

namespace Sys2Proof

/-- One byte (R7). -/
abbrev Byte := BitVec 8
/-- A 32-bit host register value (R7, R438). -/
abbrev Word := BitVec 32
/-- A 64-bit queue word (chapter 7). -/
abbrev QWord := BitVec 64

/-- Mailbox MB0 to MB7 (R4). -/
abbrev Mailbox := Fin 8
/-- Line engine E0 to E15 (R3). -/
abbrev Engine := Fin 16
/-- Coach c = 16 n + k (R3). -/
abbrev Coach := Fin 256
/-- Slot position j of a coach (R3). -/
abbrev SlotPos := Fin 40
/-- Hitch H0 to H7 (R3). -/
abbrev Hitch := Fin 8
/-- Client lane CL000 to CL127 (R4). -/
abbrev Lane := Fin 128
/-- Tributary queue Q0000 to Q4095 (R4). -/
abbrev Queue := Fin 4096
/-- Bias output b = 6 n + i (R68). -/
abbrev BiasOut := Fin 96
/-- Twin index w (R341). -/
abbrev Twin := Fin 128
/-- Management core MC0 to MC3 (R4). -/
abbrev CoreId := Fin 4
/-- Timing reference index (R395). -/
abbrev Ref := Fin 28
/-- Die-to-die link or memory channel L0 to L9 (R433). -/
abbrev LinkId := Fin 10

end Sys2Proof
end

