-- ==== Sys2Proof/Outside.lean ====
section
/-! DEFINITION. What a command carries from outside the block: who accesses a register, and the facts that measurement, the
far end or the traffic itself supplies with an event. -/

namespace Sys2Proof

/-- Who makes a register access: the host over PCIe, the host over SMP, or firmware on MC0 to MC3. -/
inductive Accessor | pcie | smp | firmware
  deriving DecidableEq, Repr

/-- A 32-bit register write: accessor, byte enables, value (R438). -/
structure RegWrite where
  who : Accessor
  enables : BitVec 4
  value : Word
  deriving DecidableEq, Repr

/-- A register read: accessor and byte enables; a narrower read than 32 bits enables fewer (R438). -/
structure RegRead where
  who : Accessor
  enables : BitVec 4
  deriving DecidableEq, Repr

/-- Where a register write goes: BAR0, the MSI-X table and pending-bit array of BAR2, or the Message Control word of the MSI-X capability in
configuration space (R436). -/
inductive RegSpace | bar0 | bar2 | msixControl
  deriving DecidableEq, Repr

/-- How an I2C transfer to a laser source ends (R464): completed with the bytes read; its address not acknowledged; data byte `i`
not acknowledged; SCL held low beyond the limit, or SDA low after the recovery. -/
inductive BusOutcome
  | completed (data : List Byte) | addressNack | dataNack (i : Fin 128) | stuck
  deriving DecidableEq, Repr

/-- What an uncorrectable word of the line datapath held (R424): a lane key slot (coach, receive, slot 1); the i-th word that a transmit or a receive
queue stores in the region; the i-th word of the leg with this lead slot in a frame on its way out; a segment in the siding; a copy in the yard; an
entry of connection memory or of the receive map as the next frame uses it; a job context slot. -/
inductive BadPlace
  | keySlot (c : Fin 256) (rx one : Bool)
  | txWord (q : Fin 4096) (i : Nat)
  | rxWord (q : Fin 4096) (i : Nat)
  | sent (c : Fin 256) (leg i : Nat)
  | siding (c : Fin 256) (g : Fin 4)
  | yard (w : Fin 128) (pathB : Bool) (seq : BitVec 32)
  | txEntry (c : Fin 256) (j : Fin 40)
  | rxEntry (c : Fin 256) (j : Fin 40)
  | context (i : Fin 8)
  deriving DecidableEq, Repr

/-- An uncorrectable word (R424, R425, R431): region, consumer code, core, DMA channel or link, word address, syndrome; whether
an earlier fetch trap is still active, whether the word lies in the journal, whether a narrow write was a DMA channel's, whether the
DMA channel is the host's, the channel's descriptor position and the byte offset of the failing word (R426); what of the machine the word
held, if the consumer is the line datapath. -/
structure BadRead where
  region : Fin 7
  consumer : Fin 8
  source : Fin 16
  addr : BitVec 40
  syndrome : BitVec 8
  returned : BitVec 16
  journal : Bool
  rejected : Bool
  byDma : Bool
  hostChannel : Bool
  descriptor : Nat
  offset : Nat
  place : Option BadPlace
  deriving DecidableEq, Repr

/-- What decides a release by moderation (R475): MOD_TIMER has run out, the core stands in its clocked wait. -/
structure ReleaseFacts where
  timerOut : Bool
  coreWaits : Bool
  deriving DecidableEq, Repr
/-- The 30,720 LLRs of a codeword as bit planes: bit i of plane p_b is bit b of LLR i, a 6-bit two's complement value in units of 0.25 (R106). -/
structure Llrs where
  p0 : BitVec 30720
  p1 : BitVec 30720
  p2 : BitVec 30720
  p3 : BitVec 30720
  p4 : BitVec 30720
  p5 : BitVec 30720
  deriving DecidableEq, Repr

/-- A codeword as the receiver hands it over: whether any part of it was lost, its LLRs, and the hard decisions after each bead, which the manual leaves
to the decoder (R106 to R108, R125). -/
structure CodewordFacts where
  erased : Bool
  llrs : Llrs
  hard : List (BitVec 30720)
  deriving DecidableEq, Repr

/-- The equalised slicer input of a lane over the last 2¹⁶ symbols: mean and standard deviation of each of the four levels, in 2⁻¹⁶ of the nominal
level spacing (R270). -/
structure EyeFacts where
  m0 : Int
  m1 : Int
  m2 : Int
  m3 : Int
  s0 : Nat
  s1 : Nat
  s2 : Nat
  s3 : Nat
  deriving DecidableEq, Repr

/-- A received SLP cell: its 260 bytes, and whether it lies in an uncorrectable codeword (R261, R265). -/
structure CellFacts where
  bytes : List Byte
  uncorrectable : Bool
  deriving DecidableEq, Repr

/-- A received Ethernet frame (R252, R253): a frame from destination address to FCS and whether its FCS is good; a PAUSE frame; a
priority flow control frame with its class-enable vector and quanta. -/
inductive EthFacts
  | frame (bytes : List Byte) (fcsOk : Bool)
  | pause (quanta : BitVec 16)
  | pfc (classes : BitVec 8) (quanta : List (BitVec 16))
  deriving DecidableEq, Repr

/-- One of an engine's 64 Ixtas branches (R379): tone and class A to D. -/
structure Branch where
  tone : Fin 16
  cls : Fin 4
  deriving DecidableEq, Repr

/-- A decoded Ixtas packet (R370): header and payload, the CRC that follows them, and the C/N0 measured on the tone in 0.5 dB-Hz. -/
structure PacketFacts where
  bytes : List Byte
  crc : BitVec 16
  cn0 : Byte
  deriving DecidableEq, Repr

/-- What decides a key-agreement message beside its bytes (R322, R323): the fingerprint of the sender's certificates, whether they
chain to the Jixidric root, whether both signatures verify. -/
structure KaFacts where
  fingerprint : BitVec 384
  chains : Bool
  signed : Bool
  deriving DecidableEq, Repr

end Sys2Proof
end

