-- ==== Sys2Proof/Syntax.lean ====
section
/-! DEFINITION. The commands: one constructor per row of the opcode table, in the table's order. A Virman command (its opcode, TAG and
body) stands in the window of the mailbox the constructor names; the constructor is the device serving it. An event carries the
facts that come from outside the block. -/

namespace Sys2Proof

inductive Instr where
  /-- HELLO (R451). Virman HELLO negotiates the interface major and minor version for one mailbox and reports identity and ordering code. -/
  | hello (mb : Mailbox)
  /-- LASER_CONFIG (R461). Sets the speed, stretch limit and source addresses of one laser-source pass-through port. -/
  | laserConfig (mb : Mailbox)
  /-- LASER_XFER (R463). Runs one I2C write and/or read transaction to an engine's laser source and reports the outcome. -/
  | laserXfer (mb : Mailbox) (bus : BusOutcome)
  /-- FW_STAGE (R36). Loads one chunk of a firmware image into the staging area, under the offset and length rules. -/
  | fwStage (mb : Mailbox)
  /-- FW_ACTIVATE (R35). Checks the staged image and, if it is accepted, posts OK and starts a firmware restart with cause 3. -/
  | fwActivate (mb : Mailbox)
  /-- ENG_TX_CONFIG (R76). Sets the enable, rate class, mute, gains, pre-compensation and laser threshold of one engine's transmit side. -/
  | engTxConfig (mb : Mailbox)
  /-- COACH_CONFIG (R78). Sets the slots, profile, version, power and pilot seeds of one coach, applied at a frame boundary or at the next armed swap. -/
  | coachConfig (mb : Mailbox)
  /-- COACH_EVAL (R549). Evaluates a COACH_CONFIG request without effect and returns the outcome that COACH_CONFIG would give. -/
  | coachEval (mb : Mailbox)
  /-- HITCH_CONFIG (R64). Sets the transmit and receive enables and the link model of a hitch. -/
  | hitchConfig (mb : Mailbox)
  /-- TX_PREEMPH (R80). Sets the pre-emphasis mode, taps and skew of one DAC or all four. -/
  | txPreemph (mb : Mailbox)
  /-- BIAS_CONFIG (R81). Sets the mode, setpoint and dither of one bias output or all six. -/
  | biasConfig (mb : Mailbox)
  /-- ENG_TX_STATUS (R82). Returns the transmit state, levels, bias states, counters and causes of one engine, optionally clearing the causes. -/
  | engTxStatus (mb : Mailbox)
  /-- ENG_RX_CONFIG (R111). Sets the receive enable, gain, LOS threshold, recovered-clock coach and warm hold of one engine. -/
  | engRxConfig (mb : Mailbox)
  /-- COACH_RX_CONFIG (R112). Sets the receive enable, slots, profile, version, pilot seeds and LOC threshold of one coach. -/
  | coachRxConfig (mb : Mailbox)
  /-- RX_EQ_CONFIG (R113). Sets the CD window, equaliser speed and nonlinear model of one coach. -/
  | rxEqConfig (mb : Mailbox)
  /-- RX_REACQUIRE (R114). Sends the named coaches back to WAIT_LIGHT, storing their state or discarding it with COLD. -/
  | rxReacquire (mb : Mailbox)
  /-- ENG_RX_STATUS (R115). Returns the receive state, levels, hitch receive state and causes of one engine. -/
  | engRxStatus (mb : Mailbox)
  /-- COACH_RX_STATUS (R116). Returns the receive state, quality measurements and causes of one coach. -/
  | coachRxStatus (mb : Mailbox)
  /-- POOL_CONFIG (R144). Sets the minimum point, surge mode and thresholds, and hopeless limit of the Abacus, applied from the next epoch. -/
  | poolConfig (mb : Mailbox)
  /-- POOL_COACH_CONFIG (R145). Sets the bead cap of one coach. -/
  | poolCoachConfig (mb : Mailbox)
  /-- POOL_STATUS (R146). Returns the point, surge state, budget, demand window and causes of the pool. -/
  | poolStatus (mb : Mailbox)
  /-- POOL_COACH_STATUS (R147). Returns the counts, interval figures and causes of one coach in the pool. -/
  | poolCoachStatus (mb : Mailbox)
  /-- FRAME_CONFIG (R186). Sets the transmit and expected trace tags and trace checking of one coach. -/
  | frameConfig (mb : Mailbox)
  /-- FRAME_STATUS (R187). Returns the alignment state, received header fields, raw indications, counts and causes of one coach. -/
  | frameStatus (mb : Mailbox)
  /-- DEFECT_CONFIG (R211). Sets the integration times, degradation thresholds and TIM action of an entity. -/
  | defectConfig (mb : Mailbox)
  /-- DEFECT_STATUS (R212). Returns the raw, declared and reported defects, consequent actions and causes of an entity. -/
  | defectStatus (mb : Mailbox)
  /-- PM_CONFIG (R213). Sets the start of the 24-hour bin. -/
  | pmConfig (mb : Mailbox)
  /-- PM_READ (R214). Returns one performance bin of an entity. -/
  | pmRead (mb : Mailbox)
  /-- PM_CLEAR (R215). Restarts the selected current bins of an entity from zero and flags them SUSPECT. -/
  | pmClear (mb : Mailbox)
  /-- QUEUE_CONFIG (R241). Sets the egress, depot pages, watermarks, spill and flow control of one queue direction. -/
  | queueConfig (mb : Mailbox)
  /-- QUEUE_STATUS (R242). Returns the occupancy, service rate, counts and causes of one queue direction. -/
  | queueStatus (mb : Mailbox)
  /-- SLOT_WRITE (R243). Writes entries of a standby transmit or receive page, refused while a swap is armed. -/
  | slotWrite (mb : Mailbox)
  /-- SLOT_READ (R243). Returns entries of an active or standby page. -/
  | slotRead (mb : Mailbox)
  /-- SLOT_COPY (R243). Copies an active page to its standby page. -/
  | slotCopy (mb : Mailbox)
  /-- SLOT_ARM (R227). Checks the standby transmit pages and arms a transmit page swap timed by a reference coach's frame count. -/
  | slotArm (mb : Mailbox)
  /-- RX_SLOT_ARM (R231). Arms a receive page swap for the masked coaches at the named received frame counts. -/
  | rxSlotArm (mb : Mailbox)
  /-- SLOT_CANCEL (R229). Withdraws an armed transmit or receive swap unless it is announcing or already reached. -/
  | slotCancel (mb : Mailbox)
  /-- SLOT_SWAP_STATUS (R245). Returns the swap instants, swap frames and progress of one engine. -/
  | slotSwapStatus (mb : Mailbox)
  /-- QUEUE_FLUSH (R244). Removes the complete delineation units (transmit) or all words (receive) held by a queue. -/
  | queueFlush (mb : Mailbox)
  /-- SPILL_CONFIG (R244). Sets the HBM spill region and the global spill enable, subject to the fill condition. -/
  | spillConfig (mb : Mailbox)
  /-- CLI_PORT_CONFIG (R275). Forms, changes, enables or removes one Ethernet port or SLP link. -/
  | cliPortConfig (mb : Mailbox)
  /-- CLI_LANE_CONFIG (R276). Sets adaptation, transmit FFE and polarity of one lane, and can order a retrain or clear exclusions. -/
  | cliLaneConfig (mb : Mailbox)
  /-- CLI_LANE_STATUS (R277). Returns the state, rate, eye score, counts and causes of one lane and its group. -/
  | cliLaneStatus (mb : Mailbox)
  /-- CLI_LANE_TEST (R278). Sets the loop and PRBS generator and checker of one lane. -/
  | cliLaneTest (mb : Mailbox)
  /-- CLI_RECCLK (R278). Names the lanes that feed the eight recovered client clocks. -/
  | cliRecclk (mb : Mailbox)
  /-- CIPHER_CONFIG (R285). Sets the cipher mode, usage limit and warnings of one coach direction, subject to the cipher brake. -/
  | cipherConfig (mb : Mailbox)
  /-- CIPHER_KEY_LOAD (R287). Loads a key by handle into a coach direction's key slot with its START_FC. -/
  | cipherKeyLoad (mb : Mailbox)
  /-- CIPHER_STATUS (R310). Returns the key slots, invocation counters, counts and causes of one coach. -/
  | cipherStatus (mb : Mailbox)
  /-- CIPHER_JOB (R311). Runs one part of a host job in the cipher job engine. -/
  | cipherJob (mb : Mailbox)
  /-- CIPHER_CTX (R312). Releases a held context slot or discards an outstanding context serial. -/
  | cipherCtx (mb : Mailbox)
  /-- SEC_CERT_READ (R339). Returns bytes of an identity certificate or of the chain. -/
  | secCertRead (mb : Mailbox)
  /-- SEC_ATTEST (R317). Returns one part of a signed attestation report carrying the host's nonce. -/
  | secAttest (mb : Mailbox)
  /-- KEY_GENERATE (R320). Creates a key in the vault and returns its handle. -/
  | keyGenerate (mb : Mailbox)
  /-- KEY_IMPORT (R320). Unwraps a blob under a KEK handle into a new vault entry. -/
  | keyImport (mb : Mailbox)
  /-- KEY_EXPORT (R320). Wraps an exportable key under a KEK handle. -/
  | keyExport (mb : Mailbox)
  /-- KEY_DESTROY (R320). Erases a vault entry and advances its generation. -/
  | keyDestroy (mb : Mailbox)
  /-- KEK_ESTABLISH (R320). Derives a host-owned KEK from the host's ML-KEM ciphertext and ECDH key. -/
  | kekEstablish (mb : Mailbox)
  /-- KEY_POLICY (R321). Sets the key source, pinning and rotation timers of one coach. -/
  | keyPolicy (mb : Mailbox)
  /-- KA_START (R326). Starts a key agreement on a coach. -/
  | kaStart (mb : Mailbox)
  /-- KA_STATUS (R339). Returns the key-agreement state, result and causes of one coach. -/
  | kaStatus (mb : Mailbox)
  /-- ZEROIZE (R328). Erases lane slots, context slots, the vault and the device wrapping key, leaving the identity keys. -/
  | zeroize (mb : Mailbox)
  /-- TAG_WRITE (R329). Programs one 64-byte line of the user tag area. -/
  | tagWrite (mb : Mailbox)
  /-- TAG_LOCK (R329). Permanently locks one user tag line. -/
  | tagLock (mb : Mailbox)
  /-- SVN_COMMIT (R316). Raises the SVN floor to the SVN of the running image. -/
  | svnCommit (mb : Mailbox)
  /-- TWIN_CONFIG (R362). Binds, enables and parameterises one twin tributary and reserves its yard slots. -/
  | twinConfig (mb : Mailbox)
  /-- TWIN_STATUS (R363). Returns the path states, alignment, counts and causes of one twin tributary. -/
  | twinStatus (mb : Mailbox)
  /-- TWIN_COMMAND_FORCE (R355). Moves twin preference to a named in-service path. -/
  | twinCommandForce (mb : Mailbox)
  /-- TWIN_COMMAND_RESTART (R344). Restarts the twin block numbering of a twin tributary. -/
  | twinCommandRestart (mb : Mailbox)
  /-- YARD_CONFIG (R347). Sets the HBM yard region. -/
  | yardConfig (mb : Mailbox)
  /-- IXTAS_ENG_CONFIG (R389). Sets the Ixtas enables, depth, gain, detection and sync word of one engine. -/
  | ixtasEngConfig (mb : Mailbox)
  /-- IXTAS_COACH_CONFIG (R390). Sets the Ixtas classes, HELLO period, versions and trace text of one coach. -/
  | ixtasCoachConfig (mb : Mailbox)
  /-- IXTAS_ENG_STATUS (R391). Returns the Ixtas gain, depth, airtime, counts and causes of one engine. -/
  | ixtasEngStatus (mb : Mailbox)
  /-- IXTAS_PARTNER_STATUS (R392). Returns the partner, versions, class, trace and causes of one coach. -/
  | ixtasPartnerStatus (mb : Mailbox)
  /-- IXTAS_SEND (R393). Queues one host message for Ixtas transmission. -/
  | ixtasSend (mb : Mailbox)
  /-- IXTAS_RECV (R393). Takes the oldest host message from the Ixtas host receive queue. -/
  | ixtasRecv (mb : Mailbox)
  /-- WAKE_SEND (R381). Sends the wake pattern on one tone of an engine. -/
  | wakeSend (mb : Mailbox)
  /-- TIME_REF_CONFIG (R416). Sets the enable, rank, nominal frequency and qualification limits of one reference. -/
  | timeRefConfig (mb : Mailbox)
  /-- TIME_CONFIG (R416). Sets the loop bandwidth, PPS, holdover, disagreement and output clock settings. -/
  | timeConfig (mb : Mailbox)
  /-- TIME_SELECT (R401). Selects a qualified reference as ACTIVE_REF. -/
  | timeSelect (mb : Mailbox)
  /-- TIME_STATUS (R416). Returns the timing state, frequencies, per-reference status and causes. -/
  | timeStatus (mb : Mailbox)
  /-- TIME_ADJUST (R412). Slews, steps or sets DEVTIME, at once or at the next PPSIN edge. -/
  | timeAdjust (mb : Mailbox)
  /-- TIME_STEER (R409). Writes LOOP_OPEN and a steering target. -/
  | timeSteer (mb : Mailbox)
  /-- MEM_FILL (R423). Starts the fill engine on a range of HBM gibibytes. -/
  | memFill (mb : Mailbox)
  /-- MEM_STATUS (R435). Returns fill progress, fill map, scrub passes and halted DMA channels. -/
  | memStatus (mb : Mailbox)
  /-- SCRUB_CONFIG (R428). Sets the SRAM and HBM patrol scrub periods. -/
  | scrubConfig (mb : Mailbox)
  /-- MEM_DIAG (R430). Performs a split write, raw read or checked read on a test word. -/
  | memDiag (mb : Mailbox)
  /-- DMA_RESUME (R426). Restarts a halted DMA channel at the failing word or the next descriptor. -/
  | dmaResume (mb : Mailbox)
  /-- SNAP_READ (R505). Returns part of a snapshot page from the published bank with SNAP_SEQ. -/
  | snapRead (mb : Mailbox)
  /-- SNAP_QUEUE_READ (R494). Returns the snapshot queue counts of a range of queues. -/
  | snapQueueRead (mb : Mailbox)
  /-- CTR_SELECT (R485). Sets the event and entity selects of block counters and restarts them at zero. -/
  | ctrSelect (mb : Mailbox)
  /-- CAL_CONFIG (R505). Sets automatic calibration, its tally and temperature threshold for one engine or all. -/
  | calConfig (mb : Mailbox)
  /-- CAL_RUN (R502). Triggers a calibration run of one engine. -/
  | calRun (mb : Mailbox)
  /-- CAL_STATUS (R505). Returns the calibration state, last cause, temperatures and causes of one engine. -/
  | calStatus (mb : Mailbox)
  /-- CAL_READ (R504). Returns the calibration record of one engine. -/
  | calRead (mb : Mailbox)
  /-- CAL_RESTORE (R504). Writes a calibration record back to its engine and applies it. -/
  | calRestore (mb : Mailbox)
  /-- PWR_STATE (R514). Requests a staged entry to SLEEP, DEEP SLEEP or OFF. -/
  | pwrState (mb : Mailbox)
  /-- PWR_DOMAIN (R512). Switches an engine or client tile power domain on or off. -/
  | pwrDomain (mb : Mailbox)
  /-- PWR_CONFIG (R529). Sets ALLOW_IDLE, SURGE_ENABLE, MGT_MAX and REGRANT_CREDIT. -/
  | pwrConfig (mb : Mailbox)
  /-- PWR_STATUS (R529). Returns the power, DVFS, surge and domain registers and power causes. -/
  | pwrStatus (mb : Mailbox)
  /-- REGISTER_WRITE (R438). A host or firmware write to a register that has no behaviour of its own, under the width, reserved-field and powered-down rules. -/
  | registerWrite (space : RegSpace) (offset : Word) (w : RegWrite)
  /-- DEVTIME_LO_READ (R27). A read of DEVTIME_LO latches DEVTIME_HI and DEVTIME_FRAC from the same tick. -/
  | devtimeLoRead (r : RegRead)
  /-- FW_RESTART (R30). A write of 1 to FW_RESTART starts a firmware restart with cause 4, if allowed. -/
  | fwRestart (w : RegWrite)
  /-- MB_DOORBELL (R442). A doorbell write hands the mailbox request to the device, or sets DOORBELL_ERR if the mailbox is not idle. -/
  | mbDoorbell (mb : Mailbox) (w : RegWrite)
  /-- MB_RELEASE (R442). A release write by the claiming port returns a DONE mailbox to IDLE. -/
  | mbRelease (mb : Mailbox) (w : RegWrite)
  /-- MAILBOX_WINDOW_WRITE (R442). A write to a mailbox window is stored, or discarded with WRITE_ERR when the mailbox is not writable. -/
  | mailboxWindowWrite (mb : Mailbox) (who : Accessor) (bytes : List (Fin 4096 × Byte))
  /-- BRAKE_LOCK (R330). Setting a lock bit makes that brake's registers read-only until device reset. -/
  | brakeLock (w : RegWrite)
  /-- ENG_BRAKE (R60). Writes the launch cap and Ixtas airtime and depth brakes of an engine, with clamping and immediate enforcement. -/
  | engBrake (n : Engine) (w : RegWrite)
  /-- BIAS_WINDOW (R333). Writes a bias output's voltage window, discarded or clamped by the two-step rule, and moves outputs outside it to the nearer edge. -/
  | biasWindow (b : BiasOut) (w : RegWrite)
  /-- BIAS_SLEW (R70). Writes a bias output's slew cap, restarting an entry sweep in progress. -/
  | biasSlew (b : BiasOut) (w : RegWrite)
  /-- KEY_CEILING (R335). Writes the key usage ceiling, which bounds the effective limit of every key. -/
  | keyCeiling (w : RegWrite)
  /-- SLOT_BRAKE (R228). Writes the minimum interval between swap instants. -/
  | slotBrake (w : RegWrite)
  /-- FREEZE_CTRL (R337). Writing HOST_FREEZE engages or lifts the host freeze. -/
  | freezeCtrl (w : RegWrite)
  /-- SECURE_MASK (R334). Marks queues secure; a tributary that violates the cipher-brake check is then held and SECURE_CONFLICT raised. -/
  | secureMask (k : Fin 128) (w : RegWrite)
  /-- TIME_CTRL (R405). Writing LOOP_OPEN opens or closes the timing loop and moves the timing state. -/
  | timeCtrl (w : RegWrite)
  /-- STEER_FREQ (R409). Writes the steering target, clamped with STEER_ERR beyond ±50 ppm. -/
  | steerFreq (w : RegWrite)
  /-- STEER_SLEW (R410). Writes the host-only steering slew limit and optionally locks it. -/
  | steerSlew (w : RegWrite)
  /-- EC_CLAIM (R471). A core's read of EC_CLAIM pushes the highest eligible event onto its stack and clears its pending bit. -/
  | ecClaim (x : CoreId)
  /-- EC_COMPLETE (R472). A core's write of the top source number pops its priority stack. -/
  | ecComplete (x : CoreId) (value : Word)
  /-- EC_SETPEND (R468). A core sets a source's pending bit by writing its number. -/
  | ecSetpend (x : CoreId) (value : Word)
  /-- EC_PEND (R468). The host sets pending bits by writing 1 to them. -/
  | ecPend (k : Fin 64) (w : RegWrite)
  /-- EC_PEND_CLR (R467). Writing 1 clears pending bits unless a raise arrives in the same cycle. -/
  | ecPendClr (k : Fin 64) (w : RegWrite) (raisedNow : Word)
  /-- EC_HOST_CLAIM (R477). A host read returns and clears the highest-priority pending source of a vector. -/
  | ecHostClaim (r : RegRead) (v : Fin 64)
  /-- EC_HOST_UNACK (R477). The host acknowledges vectors, allowing them to be sent again. -/
  | ecHostUnack (hi : Bool) (w : RegWrite)
  /-- EC_SRC_CFG (R466). Writes a source's priority, target, fallback, sleep route, vector and enable; a target change moves a pending event. -/
  | ecSrcCfg (src : Fin 2048) (w : RegWrite)
  /-- MI_FLIP_CTRL (R430). Writing ARM arms a one-shot flip mask on a region, or is ignored in SERVICE. -/
  | miFlipCtrl (w : RegWrite)
  /-- FIRST_INFO (R431). Clearing FIRST.VALID empties FIRST and moves SECOND into it. -/
  | firstInfo (g : Fin 2) (w : RegWrite)
  /-- OVERFLOW_READ (R431). A read of OVERFLOW returns and clears the count and LAST_ADDR. -/
  | overflowRead (r : RegRead) (g : Fin 2)
  /-- MI_CE_SRAM (R432). A read returns and clears the group 0 corrected-read count. -/
  | miCeSram (r : RegRead)
  /-- MI_CE_HBM (R432). A read returns and clears the group 1 corrected-read count. -/
  | miCeHbm (r : RegRead)
  /-- LINK_RETRIES (R433). A read returns and clears a link's retry count. -/
  | linkRetries (r : RegRead) (l : LinkId)
  /-- LINK_EXHAUST (R433). A read returns and clears a link's retry exhaustion count. -/
  | linkExhaust (r : RegRead) (l : LinkId)
  /-- TALLY_COUNT (R498). A read of TALLY_COUNT latches SUM and SUMSQ of the tally. -/
  | tallyCount (r : RegRead) (t : Fin 32)
  /-- TRACK_RESET (R498). Resets the selected trackers between two conversions. -/
  | trackReset (w : RegWrite)
  /-- TALLY_CLEAR (R498). Clears the selected tallies between two conversions. -/
  | tallyClear (w : RegWrite)
  /-- TEL_URGENT (R499). GO requests one urgent conversion, run only if the converter is idle, otherwise dropped. -/
  | telUrgent (w : RegWrite) (sample : BitVec 16)
  /-- TEL_STATUS (R500). A read returns the sequencer row and clears URGENT_DROPS. -/
  | telStatus (r : RegRead)
  /-- TEL_CTRL (R496). Writes RUN and SEQ_LEN of the telemetry sequencer. -/
  | telCtrl (w : RegWrite)
  /-- SEQUENCER_ROW (R496). Writes a sequencer table row; a row in execution completes with its old contents. -/
  | sequencerRow (n : Fin 128) (rowB : Bool) (w : RegWrite)
  /-- SNAP_TAKE (R487). Writing TAKE triggers a snapshot at the next qualifying tick. -/
  | snapTake (w : RegWrite)
  /-- SNAP_FREEZE (R486). Writing FREEZE stops or resumes all counting at a scheduled tick. -/
  | snapFreeze (w : RegWrite)
  /-- SNAP_USER (R493). The host enables or disables direct BAR0 reads of snapshot pages; firmware writes are discarded. -/
  | snapUser (k : Fin 4) (w : RegWrite)
  /-- TRIP_LATCHED_CLEAR (R526). The host clears TRIP_LATCHED, releasing ALARM_N. -/
  | tripLatchedClear (w : RegWrite)
  /-- SMP_WRITE (R458). An SMP write transaction sets the pointer and writes 32-bit groups to BAR0 registers. -/
  | smpWrite (offset : Word) (bytes : List Byte)
  /-- SMP_POINTER (R458). An SMP pointer transaction sets the register pointer. -/
  | smpPointer (offset : Word)
  /-- SMP_READ (R458). An SMP read after a repeated START returns 32-bit values from the pointer. -/
  | smpRead (count : Fin 256)
  /-- POWER_ON_RESET (R530). The first rise of VAON or exit from OFF resets the device and restarts DEVTIME. -/
  | powerOnReset (strap : BitVec 3) (zeroizeLow : Bool)
  /-- DEVICE_RESET (R530). RESET_N or PWR_GOOD low for 1 µs resets the device except the kept items. -/
  | deviceReset (strap : BitVec 3) (zeroizeLow : Bool)
  /-- PERST_N (R531). PERST_N low holds the PCIe endpoint in reset and takes the link down. -/
  | perstN (high : Bool)
  /-- PCIE_RESET (R449). A function-level reset, hot reset or link-down releases PCIe-claimed mailboxes and clears EC_HOST_UNACK. -/
  | pcieReset
  /-- TXMUTE_N_LOW (R62). A falling edge on TXMUTE_N closes every engine's mute gate within 1 µs. -/
  | txmuteNLow
  /-- TXMUTE_N_HIGH (R63). TXMUTE_N rising clears that mute source. -/
  | txmuteNHigh
  /-- UNMUTED (R63). 10 µs after the last mute source clears, the gate reopens and the engine returns to its state. -/
  | unmuted (n : Engine)
  /-- ZEROIZE_N (R327). ZEROIZE_N low for 1 µs empties key slots and erases the vault and identity keys. -/
  | zeroizeN (low : Bool)
  /-- SNAP_PIN (R487). A rising edge on SNAP triggers a snapshot. -/
  | snapPin
  /-- PPSIN_EDGE (R413). A PPSIN edge is timestamped and serves any pending AT_PPS adjustment. -/
  | ppsinEdge
  /-- TESTMODE (R429). A change of the TESTMODE pin changes DEV_MODE and may disarm a flip. -/
  | testmode (high : Bool)
  /-- WAKE_PIN (R513). A rise of WAKE is a wake event in SLEEP, DEEP SLEEP and OFF. -/
  | wakePin
  /-- SMP_MATCH (R513). The clockless matcher acknowledging the device address is a wake source. -/
  | smpMatch
  /-- LIGHT (R513). Receive light above threshold for 100 µs on a masked engine is a wake source. -/
  | light (n : Engine)
  /-- CLIENT_SIGNAL (R513). Signal on a receive pair of a lane enabled at entry is a wake source in SLEEP. -/
  | clientSignal (l : Lane)
  /-- WAKE_TIMER (R513). Expiry of WAKE_TIMER seconds of CK_AON time is a wake source. -/
  | wakeTimer
  /-- THERMAL_TRIP (R526). A monitor at 105 °C mutes all engines and forces a hardware entry to SLEEP. -/
  | thermalTrip (m : Fin 16)
  /-- THERMAL_WARN (R526). A monitor reaching 95 °C from below raises THERMAL_WARN. -/
  | thermalWarn (m : Fin 16)
  /-- SURGE_HOT (R525). A monitor reaching 100 °C makes the governor revoke surge. -/
  | surgeHot (m : Fin 16)
  /-- LASER_LOW (R553). The laser input below threshold for 10 ms sets the laser-low condition, closing the gate and setting LO_LOW. -/
  | laserLow (n : Engine)
  /-- LASER_RESTORED (R553). The laser input above threshold plus 1 dB for 10 ms clears the laser-low condition. -/
  | laserRestored (n : Engine)
  /-- LOS_SET (R102). Receive power below the LOS threshold for 10 µs sets raw LOS on an engine. -/
  | losSet (n : Engine)
  /-- LOS_CLEAR (R102). Receive power above threshold plus 1 dB for 100 µs clears raw LOS. -/
  | losClear (n : Engine)
  /-- FLIT_RECEIVED (R17). A received flit is accepted in sequence or discarded with a NAK. -/
  | flitReceived (l : Fin 6) (toHub : Bool) (bytes : List Byte)
  /-- FLIT_ACK_TIMEOUT (R17). No acknowledgement 2 µs after a flit makes the sender resend from it. -/
  | flitAckTimeout (l : Fin 6) (toHub : Bool) (seq : Fin 4096)
  /-- RETRY_EXHAUSTION (R17). A sequence number sent 8 times drops the replay buffer and starts a retrain. -/
  | retryExhaustion (l : LinkId) (toHub : Bool) (lost : List BadRead)
  /-- LINK_RETRAIN_DONE (R17). A retrain completes; a third consecutive failure takes the link down. -/
  | linkRetrainDone (l : LinkId) (ok : Bool)
  /-- MEMORY_BLOCK_RECEIVED (R18). A memory-channel block is checked by CRC and retried or treated as uncorrectable. -/
  | memoryBlockReceived (hb : Fin 4) (toHub : Bool) (seq : Fin 4096) (words : List (BitVec 72)) (crc : Word)
  /-- RETRY_WARN (R433). A 1 s window with more than one retry per 10⁶ flits raises RETRY_WARN. -/
  | retryWarn (l : LinkId)
  /-- BIAS_SWEEP_END (R69). A bias entry sweep ends and the output slews to the null or quadrature point found. -/
  | biasSweepEnd (b : BiasOut) (points : List (Fin 16384))
  /-- BIAS_LOCKED (R69). A bias output's error within the lock threshold for 100 ms makes it LOCKED. -/
  | biasLocked (b : BiasOut)
  /-- BIAS_FAIL (R72). Acquisition time reaching 500 ms moves the engine to BIAS_FAIL. -/
  | biasFail (n : Engine)
  /-- BIAS_UNLOCK (R71). A locked output whose error leaves the threshold for 100 ms returns to LOCKING. -/
  | biasUnlock (b : BiasOut)
  /-- FIRST_FRAME_BOUNDARY (R552). A newly lit coach starts its frame 0 within 10 µs of its commit or of its engine entering RUNNING. -/
  | firstFrameBoundary (c : Coach)
  /-- TX_FRAME (R158). At each frame boundary the transmit side chooses the key, builds the header and encodes the frame. -/
  | txFrame (c : Coach)
  /-- LEG_CUT (R221). At a leg's cut instant it takes COUNT words from its queue head and writes the justification word. -/
  | legCut (c : Coach) (leg : SlotPos)
  /-- ACQ_START (R100). With light, LO and gain settled a coach leaves WAIT_LIGHT for WARM or ACQ_CD. -/
  | acqStart (c : Coach)
  /-- CD_SEARCH_COMPLETE (R91). The CD search ends and the best candidate is applied. -/
  | cdSearchComplete (c : Coach) (best second : Int)
  /-- POL_CONVERGED (R100). The polarisation equaliser converges and the coach enters ACQ_CARRIER. -/
  | polConverged (c : Coach)
  /-- CARRIER_LOCK (R100). Clock, pilots and phase locked move the coach to CW_HUNT and clear raw LOC. -/
  | carrierLock (c : Coach)
  /-- WARM_LOCK (R100). Pilots matched and phase locked within the warm bound move a WARM coach to CW_HUNT. -/
  | warmLock (c : Coach)
  /-- ACQ_RETRY (R100). A stage bound exceeded applies the second-best CD candidate or restarts the search. -/
  | acqRetry (c : Coach)
  /-- WARM_FAIL (R100). The warm bound exceeded sends the coach to ACQ_CD. -/
  | warmFail (c : Coach)
  /-- CW_LOCK (R100). Codeword boundaries found make the coach LOCKED and start delivery to the Abacus. -/
  | cwLock (c : Coach)
  /-- CW_FAIL (R100). No codeword boundary within the codeword bound raises CW_FAIL. -/
  | cwFail (c : Coach)
  /-- LOC_SET (R101). Raw LOC sets on a locked coach, which returns to WAIT_LIGHT storing its state. -/
  | locSet (c : Coach)
  /-- FRAME_HUNT_TIMEOUT (R170). Alignment in HUNT for 2 ms sends a LOCKED coach back to CW_HUNT. -/
  | frameHuntTimeout (c : Coach)
  /-- CYCLE_SLIP (R98). A quadrant jump is counted and flags its codeword SLIP. -/
  | cycleSlip (c : Coach)
  /-- CHG_APPLIED (R109). The receiver applies a new H from the announced codeword and marks it H_CHANGE. -/
  | chgApplied (c : Coach)
  /-- CODEWORD_ARRIVAL (R125). A codeword's last LLR arrives at the Abacus and its base beads run. -/
  | codewordArrival (c : Coach) (cw : CodewordFacts)
  /-- BASE_COMPLETE (R128). A codeword that fails base is judged hopeless, capped, or added to the extension set. -/
  | baseComplete (c : Coach) (seq : Word)
  /-- EPOCH_START (R130). At each epoch boundary the pool orders the extension set and grants tranches from the budget. -/
  | epochStart
  /-- EXTENSION_ROUND (R130). When every tranche of a round has run, the next round is granted to still-failing codewords. -/
  | extensionRound (late : Bool)
  /-- EPOCH_END (R131). At epoch end uncleared codewords are uncorrectable, starved ones counted, and D evaluated. -/
  | epochEnd
  /-- SURGE_WITHDRAW (R136). D at 0 for SURGE_HOLD ms withdraws the surge request. -/
  | surgeWithdraw
  /-- CODEWORD_RELEASE (R133). Each codeword is released to framing exactly DECODE_LATENCY after arrival. -/
  | codewordRelease (c : Coach)
  /-- POOL_INTERVAL (R140). At each 1 ms interval the pool computes BER, Q, mean beads and histogram per coach. -/
  | poolInterval
  /-- SURGE_GRANT (R524). The governor grants surge when all conditions hold and raises VPOOL. -/
  | surgeGrant
  /-- VID_SETTLE (R523). 25 µs after a raised voltage command the clock is raised. -/
  | vidSettle
  /-- POWER_ESTIMATE (R524). Every 100 µs the power estimate is formed and surge credit updated. -/
  | powerEstimate (now atP3 : Nat) (below97 : Bool)
  /-- EXHAUSTED (R525). Surge credit reaching zero revokes surge. -/
  | exhausted
  /-- CANDIDATE_TEST (R168). Each codeword's leading bits are tested as a header and the alignment state moves. -/
  | candidateTest (c : Coach)
  /-- HB_MISS (R176). The header heartbeat timer expires without a present heartbeat. -/
  | hbMiss (c : Coach)
  /-- SEGMENT_VERDICT (R295). A segment's verdict is reached and it is released or replaced by a failed-segment marker. -/
  | segmentVerdict (c : Coach) (g : Fin 4)
  /-- LEG_FRAME_DEMAP (R232). A received leg frame's justification word is checked and its data words taken. -/
  | legFrameDemap (c : Coach) (leg : SlotPos)
  /-- REASM_GAP (R233). A run beyond the expected offset waiting REASM_WAIT releases the missing words as fill. -/
  | reasmGap (q : Queue)
  /-- QUEUE_WORD_ARRIVAL (R237). A delineation unit arrives at a transmit queue, entering depot or spill or being discarded. -/
  | queueWordArrival (q : Queue) (unit : List QWord)
  /-- PAUSE_REPEAT (R238). PAUSE or PFC frames repeat every PAUSE_QUANTA × 256 bit times while back-pressure holds. -/
  | pauseRepeat (q : Queue)
  /-- TWIN_COPY_ARRIVAL (R351). A twin copy arrives at the merge and is dropped, rebased or held with its due instant. -/
  | twinCopyArrival (w : Twin) (path : Fin 2) (skip : Nat)
  /-- TWIN_DUE (R351). At the due instant the merge delivers the preferred valid copy, the other, or fill. -/
  | twinDue (w : Twin)
  /-- TWIN_HEARTBEAT_SEND (R375). A coach with twin legs sends its short heartbeat at its tone's 5 ms slot. -/
  | twinHeartbeatSend (c : Coach)
  /-- TWIN_HEARTBEAT_RECEIVE (R375). A received heartbeat matching the expected word counts as present. -/
  | twinHeartbeatReceive (c : Coach) (word : Word)
  /-- IXTAS_HB_MISS (R354). 7.5 ms and then each 5 ms without a twin heartbeat count a miss. -/
  | ixtasHbMiss (c : Coach)
  /-- DEFECT_SAMPLE (R195). At each millisecond tick every raw defect is sampled and integrated. -/
  | defectSample
  /-- SECOND_CLASSIFY (R203). At each second boundary the second is classified and availability updated. -/
  | secondClassify
  /-- BIN_ROLLOVER (R206). At each 15-minute or 24-hour boundary the current bin moves to previous. -/
  | binRollover
  /-- COMMA_BLOCK (R266). A received comma advances or loses comma lock on an SLP lane. -/
  | commaBlock (l : Lane) (block : BitVec 132) (skewed : Bool)
  /-- TRAINING_FRAME (R268). Valid training words from the partner advance the lane negotiation state. -/
  | trainingFrame (l : Lane) (block : BitVec 132)
  /-- NEG_RETRY (R268). 20 ms in TRAIN_LOW or SETTLE without progress restarts training. -/
  | negRetry (l : Lane)
  /-- RATE_FALLBACK (R268). 50 ms in ADAPT excludes the selected rate and restarts training. -/
  | rateFallback (l : Lane)
  /-- EYE_SCORE (R270). Every 10 µs the lane eye score is computed and EYE_WARN may be raised. -/
  | eyeScore (l : Lane) (eye : EyeFacts)
  /-- RS_CODEWORD (R259). A received lane RS codeword is decoded and errors counted. -/
  | rsCodeword (l : Lane) (corrected : Option Nat)
  /-- CELL_RECEIVED (R261). A received SLP cell is checked and queued, applied as credit or SENT, or discarded. -/
  | cellReceived (l : Lane) (cell : CellFacts)
  /-- CELL_SEND (R263). A DATA cell is sent once 32 words are queued and credit allows. -/
  | cellSend (q : Queue)
  /-- SENT_CELL (R264). Each end sends SENT entries for channels with traffic at least every 1 ms. -/
  | sentCell (l : Lane)
  /-- AIS_CELL (R263). Every 10 µs a channel under AIS or CSF sends one AIS or CSF cell. -/
  | aisCell (q : Queue)
  /-- ETH_FRAME_RX (R252). A received Ethernet frame is checked and written to the queue as a delineation unit. -/
  | ethFrameRx (l : Lane) (frame : EthFacts)
  /-- ETH_FRAME_TX (R253). A frame whose whole unit is in the receive queue is sent store-and-forward. -/
  | ethFrameTx (q : Queue)
  /-- PRE_DETECT (R379). A preamble detection occupies the primary or challenger context of a branch. -/
  | preDetect (n : Engine) (b : Branch) (corr : Byte)
  /-- PRE_EXPIRED (R380). A sync window expires without a sync match. -/
  | preExpired (n : Engine) (b : Branch) (challenger : Bool)
  /-- SYNC_MATCH (R380). A sync match starts a reception or lets the challenger displace the primary. -/
  | syncMatch (n : Engine) (b : Branch) (challenger : Bool) (word : Word) (quality : Byte)
  /-- HDR_REJECT (R379). The decoded header fails its checks and the reception ends. -/
  | hdrReject (n : Engine) (b : Branch) (header : BitVec 64)
  /-- RX_OK (R380). The packet CRC is judged and a passing packet for this device is delivered. -/
  | rxOk (n : Engine) (b : Branch) (p : PacketFacts)
  /-- FRAG_TIMEOUT (R373). A message incomplete 10 s after its first fragment is discarded. -/
  | fragTimeout (n : Engine) (source ident : BitVec 16)
  /-- IXTAS_PACKET_START (R376). A queued packet starts on its tone once tone, tone count and airtime allow. -/
  | ixtasPacketStart (n : Engine) (tone : Fin 16)
  /-- HELLO_PERIOD (R383). Firmware sends a HELLO every HELLO_PERIOD. -/
  | helloPeriod (c : Coach)
  /-- HELLO_PACKET (R384). A received HELLO negotiates versions and class. -/
  | helloPacket (c : Coach)
  /-- CAPABILITY (R383). A received CAPABILITY fills receive configuration, far-end identity and expected heartbeat word. -/
  | capability (c : Coach)
  /-- TRACE (R385). A received TRACE sets the trace tags and may raise TRACE_MISMATCH. -/
  | trace (c : Coach)
  /-- CAP_REQUEST (R383). A received CAP_REQUEST makes firmware send CAPABILITY. -/
  | capRequest (c : Coach)
  /-- HOST_MSG (R386). A received host message enters the host receive queue and raises HOST_MSG. -/
  | hostMsg (c : Coach)
  /-- PARTNER_LOST (R383). A partner not heard for 3 HELLO periods is lost. -/
  | partnerLost (c : Coach)
  /-- WAKE_SEEN (R381). Four matching wake-pattern repetitions raise WAKE_SEEN. -/
  | wakeSeen (n : Engine) (tone : Fin 16) (words : Vector (BitVec 64) 4)
  /-- KA_INIT (R323). A received KA_INIT makes the responder send KA_RESP, or resolves crossed initiations. -/
  | kaInit (c : Coach) (f : KaFacts)
  /-- KA_RESP (R323). A verified KA_RESP makes the initiator derive keys and send KA_CONFIRM. -/
  | kaResp (c : Coach) (f : KaFacts)
  /-- KA_CONFIRM (R324). A verified KA_CONFIRM makes the responder load keys and send KA_SETTLE. -/
  | kaConfirm (c : Coach) (f : KaFacts)
  /-- KA_SETTLE (R324). A verified KA_SETTLE makes the initiator load its keys; KA_DONE is raised. -/
  | kaSettle (c : Coach) (f : KaFacts)
  /-- KA_CONFIRM_REPEAT (R325). No KA_SETTLE within four KA_CONFIRM airtimes repeats KA_CONFIRM. -/
  | kaConfirmRepeat (c : Coach)
  /-- KA_TIMEOUT (R325). An attempt still incomplete at KA_TIMEOUT fails with KA_FAIL. -/
  | kaTimeout (c : Coach)
  /-- KA_RETRY (R325). KA_RETRY after a failure starts a new attempt. -/
  | kaRetry (c : Coach)
  /-- ROTATE_PERIOD (R326). ROTATE_PERIOD after a key came into use starts a new agreement. -/
  | rotatePeriod (c : Coach)
  /-- REF_LOST (R398). A reference with no edge for 2 µs, or invalid, becomes LOST. `sel`, here and below: the mailbox of a TIME_SELECT that
  commits on the same CK_TIME cycle (R403). -/
  | refLost (r : Ref) (sel : Option Mailbox)
  /-- REF_OFFSET_MEASURE (R398). Every 100 ms the offset is measured and the hard and soft limits checked. -/
  | refOffsetMeasure (r : Ref) (offset : Int) (sel : Option Mailbox)
  /-- DRIFT_ESTIMATE (R400). Each second the drift estimate is taken and may disqualify the reference. -/
  | driftEstimate (r : Ref) (offset : Int) (sel : Option Mailbox)
  /-- REF_QUALIFIED (R399). A reference good for REQUAL_TIME becomes QUALIFIED. -/
  | refQualified (r : Ref)
  /-- REF_DISAGREE (R404). Equal-rank references differing for 10 s disagree and are arbitrated. -/
  | refDisagree (a b : Ref) (sel : Option Mailbox)
  /-- TIMING_LOCKED (R405). Phase within ±50 ns for 2 s moves ACQUIRE to LOCKED. -/
  | timingLocked
  /-- HOLDOVER_SAMPLE (R408). Each second in LOCKED the mean applied frequency is stored. -/
  | holdoverSample
  /-- STEER_STALE (R409). No target for STEER_TIMEOUT in STEERED raises STEER_STALE. -/
  | steerStale
  /-- PPS_LOST (R413). 2.5 s without a PPSIN edge clears PPS_VALID. -/
  | ppsLost
  /-- AT_PPS_TIMEOUT (R412). No PPSIN edge within 2 s ends an AT_PPS adjustment with TIMEOUT. -/
  | atPpsTimeout
  /-- UNCORRECTABLE_READ (R424). An uncorrectable word is handled per its consumer and logged. -/
  | uncorrectableRead (r : BadRead)
  /-- CORRECTED_READ (R420). A corrected word is delivered corrected, written back and counted. -/
  | correctedRead (hbm : Bool)
  /-- CE_RATE (R432). More than CE_THRESHOLD corrected reads in a second raise CE_RATE. -/
  | ceRate (hbm : Bool)
  /-- SCRUB_PASS (R428). A completed patrol pass raises SCRUB_PASS. -/
  | scrubPass (hbm : Bool)
  /-- FILL_DONE (R423). A fill completes, setting fill-map bits. -/
  | fillDone (failed : BitVec 64)
  /-- CAL_TEMPERATURE_EVAL (R502). Every 100 ms the tally window mean may trigger a TEMPERATURE run. -/
  | calTemperatureEval
  /-- CAL_START (R503). A pending run starts when its tile is free and acquisition waits are over. -/
  | calStart (n : Engine)
  /-- CAL_DONE (R501). A calibration run completes and records TEMP_LAST. -/
  | calDone (n : Engine)
  /-- TEL_ROW (R496). After its DELAY a sequencer row makes its conversions into its tally and tracker. -/
  | telRow (samples : List (BitVec 16))
  /-- SNAPSHOT_TICK (R487). At the snapshot tick every domain latches its counters. -/
  | snapshotTick (periodic : Bool)
  /-- SNAPSHOT_PUBLISH (R488). The copied snapshot is published and SNAP_SEQ increments. -/
  | snapshotPublish
  /-- MODERATION_RELEASE (R475). A target is released by idle, urgency, count or MOD_TIMER expiry. -/
  | moderationRelease (t : Fin 5) (f : ReleaseFacts)
  /-- IDLE_ENTRY (R511). All cores in power-down wait with ALLOW_IDLE stop CK_MGT. -/
  | idleEntry
  /-- IDLE_EXIT (R511). A wake-routed event or doorbell restarts CK_MGT within 10 µs. -/
  | idleExit
  /-- ABORT_POINT (R514). At the end of each entry stage a refusal or wake abandons the entry, else the next stage starts. -/
  | abortPoint (refuser : Option (Fin 256))
  /-- RETURN_TO_RUN (R521). After a wake, clocks, HBM and firmware are restored and the state returns to RUN. -/
  | returnToRun (elapsedNs : Nat)
  /-- DOMAIN_CHANGE (R512). A power-domain switch completes and DOMAIN_CHANGE is raised. -/
  | domainChange
  /-- WATCHDOG (R30). No firmware heartbeat for 250 ms starts a restart with cause 1. -/
  | watchdog
  /-- BOOT_STAGE (R440). Boot advances BOOT_STATUS.STAGE to the next stage or reports BOOT_ERR. -/
  | bootStage (err : Fin 5)
  /-- REATTACHMENT (R32). Verified firmware signals reattachment, the freeze lifts and pending mailboxes are answered. -/
  | reattachment (verified rejected : Bool)
  /-- RESTART_FAILED (R34). No reattachment 3 s after a restart begins sets FW_STATUS FAILED. -/
  | restartFailed (rejected : Bool)
  /-- PCS_ALIGNMENT (R251). An Ethernet port gains or loses PCS alignment and block lock, or high-BER or received Local Fault changes, which sets its up state and its tributary's raw CSF. -/
  | pcsAlignment (l : Lane) (aligned localFault : Bool)
  /-- REF_ACTIVITY_BACK (R399). Edges and validity return on a LOST reference, which moves it to WAIT with its history restarted. -/
  | refActivityBack (r : Ref)
  /-- GAIN_LIMIT (R84). The receive gain needed leaves 0 to 40.0 dB, so the gain stays at the nearer end and GAIN_LIMIT is raised. -/
  | gainLimit (n : Engine) (high : Bool)
  /-- OFFSET_WARN (R87). The measured offsets of two adjacent lit coaches come to differ by more than the class limit, which raises OFFSET_WARN. -/
  | offsetWarn (c : Coach) (delta : Nat)
  /-- HITCH_WALKOFF (R95). The measured walk-off between a hitch's two streams crosses ±1,024 ns, suspending or resuming joint compensation and raising HITCH_RX_CHANGE. -/
  | hitchWalkoff (h : Hitch) (ns : Int)
  /-- LOCK_LOOP_EDGE (R70). A bias lock loop whose error would carry the output past a window edge holds it at that edge in state WINDOW_LIMIT and raises the cause. -/
  | lockLoopEdge (b : BiasOut) (high : Bool)
  deriving DecidableEq, Repr

end Sys2Proof
end

