-- ==== Sys2Proof/Config.lean ====
section
/-! DEFINITION. What one device or one implementation fixes, and the free values: constants with no body, so no proof can
see what they are. -/

namespace Sys2Proof.Config

/-- True on a JXS5120-A32, false on a JXS5120-A64 (R1, R440 ID_PART.VARIANT "per device"). -/
opaque isA32 : Bool
/-- ID_PART.STEPPING (R440). -/
opaque stepping : BitVec 8
/-- BOOT_ROM_VERSION (R440). -/
opaque bootRomVersion : BitVec 8
/-- The 16-byte serial number, byte 0 least significant (R440). -/
opaque serial : BitVec 128
/-- SVN floor held in one-time-programmable memory when the device was last supplied (R316). -/
opaque svnFloor : BitVec 8
/-- Identity keys already erased when the device was supplied (R327, R338 "per device"). -/
opaque identityErased : Bool
/-- User tag area bytes as supplied (R329). -/
opaque tagByte : Nat → BitVec 8
/-- Tag lines locked as supplied (R338 "per device"). -/
opaque tagLocks : BitVec 64
/-- Writes already made to each tag line as supplied (R329). -/
opaque tagWrites : Nat → BitVec 10
/-- Certificate bytes of SEC_CERT_READ: certificate number, offset (R314, R339). -/
opaque certByte : Nat → Nat → BitVec 8
/-- Where the DER-encoded ML-DSA-87 public key lies in the ML-DSA-87 certificate, which holds it, and its length (R314, R315). -/
opaque publicKeyStart : Nat
opaque publicKeyLength : Nat
/-- The manufacture date, read-only; no register or command of the manual returns it (R314). -/
opaque manufactureDate : BitVec 32
/-- Length of each certificate (R339 TOTAL). -/
opaque certLength : Nat → BitVec 16
/-- Version and SVN of the image in the firmware bank as supplied, and its digest (R316, R450). -/
opaque fwVersion : BitVec 32
opaque fwSvn : BitVec 8
opaque fwDigest : BitVec 384

/-- Both signatures of a firmware image verify (R316). The image format is not in the manual. -/
opaque imageSigned : List (BitVec 8) → Bool
/-- Version and SVN an image carries (R316, R36). -/
opaque imageVersion : List (BitVec 8) → BitVec 32
opaque imageSvn : List (BitVec 8) → BitVec 8

/-- The ECDSA P-384 and ML-DSA-87 signatures of the device's identity keys (R314, R317, R323). -/
opaque ecdsaSign : List (BitVec 8) → Nat → BitVec 8
opaque mldsaSign : List (BitVec 8) → Nat → BitVec 8
/-- The bytes of a KEK (R320), derived as R323 derives line keys; the manual states no salt and no context for it. Arguments: label,
request, byte. -/
opaque deriveKey : List (BitVec 8) → List (BitVec 8) → Nat → BitVec 8
/-- Key agreement public values and nonces the device draws (R323): draw number, byte. -/
opaque kaByte : Nat → Nat → BitVec 8
/-- The shared secret Z of an agreement (R323), which KA_INIT and the unsigned KA_RESP determine: byte i of 80. -/
opaque kaSecret : List (BitVec 8) → List (BitVec 8) → Nat → BitVec 8

/-- Free values, drawn with the counter `free` of the state: n-th draw. -/
opaque free64 : Nat → BitVec 64
/-- Free 32-byte keys drawn by the random bit generator (R318): n-th draw. -/
opaque free256 : Nat → BitVec 256
/-- The value an undefined window byte reads as (R444): response number, offset. -/
opaque windowByte : Nat → Nat → BitVec 8
/-- Arbitrary contents of a memory that nothing has written since they were last lost (R421, R422): 16 × the number of losses + MEM_DIAG target, word. -/
opaque memoryWord : Nat → Nat → BitVec 72
/-- Whether the log10 of a ratio n/d whose part above the lower whole number of units is one half or more is rounded down (R140, R147). -/
opaque logRoundsDown : Nat → Nat → Bool
/-- Whether Q_DB of a bit error ratio n/d whose part above the lower whole number is one half or more is rounded up (R140), and what it reads where the ratio is 1/2 or more and has no Q. -/
opaque qRoundsUp : Nat → Nat → Bool
opaque qNone : Nat → Nat → BitVec 16
/-- A reported mean or ratio a/b that is no whole number is rounded up: the manual states no rounding. -/
opaque roundsUp : Int → Nat → Bool
/-- Coefficients stored at manufacture for a DAC (R57): engine, DAC, tap. -/
opaque factoryTap : Nat → Nat → BitVec 16
/-- Calibration results the statistics of the signals give (R501): draw number, byte of the record. -/
opaque calByte : Nat → Nat → BitVec 8

/-- The transmit chain's samples in a CK_TIME cycle (512 of each of the four DACs), which depend on the signals and their past: what a coach adds after
its symbols are shaped, placed at f_k and scaled by COACH_POWER (R54 steps 1 to 3): draw number, coach, COACH_POWER, number of the sample; what the steps
5 to 9 of R54 make of the samples before: draw number, engine, step, the step's settings, those samples, number of the sample. The manual gives no
arithmetic of these steps. -/
opaque coachSample : Nat → Nat → Int → Nat → BitVec 16
opaque stepSample : Nat → Nat → Nat → List Int → List Int → Nat → BitVec 16
/-- The Ixtas dither of step 10 in a cycle, which follows the tones on air: draw number, engine. -/
opaque dither : Nat → Nat → BitVec 16
/-- The ADC's samples (R115): draw number, engine, number of the sample. -/
opaque adcSample : Nat → Nat → Nat → BitVec 8
/-- The distribution matcher (R53), whose output depends only on H, the constellation and the information bits: H in 1/64 bit, CONSTELLATION,
the information bits that it maps, number of the quadrature component; and the sign of a component where H below 2 leaves fewer bits than signs. -/
opaque amplitude : Nat → Nat → List Bool → Nat → BitVec 2
opaque lowSign : Nat → Nat → Bool
/-- The response of a DAC in boost mode (R57): engine, DAC, boost in 0.1 dB, tap; the manual gives the boost at 200 GHz and no taps. -/
opaque boostTap : Nat → Nat → Nat → Nat → BitVec 16
/-- Byte i of the MAC address of the port with first lane l (PAUSE frames, R238). -/
opaque macByte : Nat → Nat → BitVec 8
/-- The bits that lane l receives in one block time, and those that an Ethernet lane transmits (IEEE 802.3): draw number, lane (R251, R273). -/
opaque laneReceives : Nat → Nat → BitVec 132
opaque ethernetBits : Nat → Nat → BitVec 132
/-- The receive gain needed, in 0.1 dB (R84): draw number, engine. -/
opaque gainNeeded : Nat → Nat → BitVec 16
/-- By how many mV the lock point of a bias output has drifted (R69): draw number, output; one step up, down or none. -/
opaque drift : Nat → Nat → BitVec 2

/-- The opcodes present in the older majors 4 and 5, and the device's own minor of each (R445, R451): not in the manual. -/
opaque opcodePresent : Nat → Nat → Bool
opaque minorOf : Nat → BitVec 8

end Sys2Proof.Config
end

