-- ==== Sys2Proof/Machine/Tab.lean ====
section
/-! DEFINITION. Sparse tables: numbered objects held as a list of (number, value) pairs in one canonical form (numbers
strictly rising, no entry equal to the value an unlisted number has). -/

namespace Sys2Proof.Machine

/-- A sparse table. -/
abbrev Tab (α : Type) := List (Nat × α)

/-- The value of number `k`: its entry, or the default `d k` where nothing is listed. -/
def tabGet {α : Type} (d : Nat → α) : Tab α → Nat → α
  | [], k => d k
  | (j, a) :: t, k => if j = k then a else tabGet d t k

/-- The table without number `k`. -/
def tabDrop {α : Type} : Tab α → Nat → Tab α
  | [], _ => []
  | (j, a) :: t, k => if j = k then tabDrop t k else (j, a) :: tabDrop t k

/-- Insert an entry before the first larger number. -/
def tabInsert {α : Type} : Tab α → Nat → α → Tab α
  | [], k, v => [(k, v)]
  | (j, a) :: t, k, v => if k < j then (k, v) :: (j, a) :: t else (j, a) :: tabInsert t k v

/-- Give number `k` the value `v`, keeping the canonical form. -/
def tabPut {α : Type} [DecidableEq α] (d : Nat → α) (t : Tab α) (k : Nat) (v : α) : Tab α :=
  if v = d k then tabDrop t k else tabInsert (tabDrop t k) k v

/-- Change the value of number `k`. -/
def tabMod {α : Type} [DecidableEq α] (d : Nat → α) (t : Tab α) (k : Nat) (f : α → α) : Tab α :=
  tabPut d t k (f (tabGet d t k))

/-- Change every listed entry, keeping the canonical form. -/
def tabMap {α : Type} [DecidableEq α] (d : Nat → α) (f : Nat → α → α) : Tab α → Tab α
  | [] => []
  | (j, a) :: t => if f j a = d j then tabMap d f t else (j, f j a) :: tabMap d f t

/-- The canonical form: numbers strictly rising, no entry equal to the default. -/
def tabWf {α : Type} [DecidableEq α] (d : Nat → α) : Tab α → Bool
  | [] => true
  | (j, a) :: t => decide (a ≠ d j) && (match t with | [] => true | (i, _) :: _ => decide (j < i)) && tabWf d t

end Sys2Proof.Machine
end

