-- ==== Sys2Proof/Machine/Bits.lean ====
section
/-! DEFINITION. Bit fields, byte order (R7, R444), CRCs (R16, R548) and small list helpers. -/

namespace Sys2Proof.Machine

/-- Field [lo + n − 1 : lo] of a register value. -/
def fld (w : Word) (lo n : Nat) : Nat := (w.toNat / 2 ^ lo) % 2 ^ n
/-- Bit `i` of a register value. -/
def bit (w : Word) (i : Nat) : Bool := w.getLsbD i
/-- A one-bit field. -/
def b2n (b : Bool) : Nat := if b then 1 else 0
/-- Assemble a register from (low bit, value) fields. -/
def pack (fs : List (Nat × Nat)) : Word := BitVec.ofNat 32 (fs.foldl (fun a f => a + f.2 * 2 ^ f.1) 0)
/-- A value held to at most `m` (a saturating count). -/
def sat (m v : Nat) : Nat := if v ≤ m then v else m
/-- A value moved to the nearer limit (R333). -/
def clamp (lo hi v : Nat) : Nat := if v < lo then lo else if hi < v then hi else v
/-- A signed value held to a symmetric limit. -/
def clampI (m v : Int) : Int := if v < -m then -m else if m < v then m else v
/-- Magnitude of an integer. -/
def mag (v : Int) : Nat := v.natAbs

/-- `n` bytes of a number, least significant first. -/
def le : Nat → Nat → List Byte
  | 0, _ => []
  | n + 1, v => BitVec.ofNat 8 v :: le n (v / 256)
/-- `n` bytes of a signed number in two's complement, least significant first. -/
def leI (n : Nat) (v : Int) : List Byte := le n ((v % (2 ^ (8 * n) : Nat)).toNat)
/-- `n` zero bytes (reserved fields read as zero, R9). -/
def zeros (n : Nat) : List Byte := List.replicate n 0
/-- The number that bytes give, least significant first. -/
def leNat : List Byte → Nat
  | [] => 0
  | b :: t => b.toNat + 256 * leNat t
/-- The number that bytes give, most significant first. -/
def beNat (bs : List Byte) : Nat := bs.foldl (fun a b => 256 * a + b.toNat) 0
/-- `n` bytes of a number, most significant first. -/
def be (n v : Nat) : List Byte := (le n v).reverse
/-- Split into blocks of `k` bytes; `fuel` bounds their number. -/
def byteChunks (k : Nat) : Nat → List Byte → List (List Byte)
  | 0, _ => []
  | n + 1, bs => if bs.isEmpty then [] else bs.take k :: byteChunks k n (bs.drop k)
/-- `n` bytes from offset `i`; a list that is too short gives what it has. -/
def part (bs : List Byte) (i n : Nat) : List Byte := (bs.drop i).take n
/-- Unsigned little-endian field of `n` bytes at offset `i`. -/
def un (bs : List Byte) (i n : Nat) : Nat := leNat (part bs i n)
def u8 (bs : List Byte) (i : Nat) : Nat := un bs i 1
def u16 (bs : List Byte) (i : Nat) : Nat := un bs i 2
def u32 (bs : List Byte) (i : Nat) : Nat := un bs i 4
def u64 (bs : List Byte) (i : Nat) : Nat := un bs i 8
/-- Two's complement reading of an `n`-bit number. -/
def signed (n v : Nat) : Int := if v < 2 ^ (n - 1) then v else (v : Int) - (2 ^ n : Nat)
def s16 (bs : List Byte) (i : Nat) : Int := signed 16 (u16 bs i)
def s32 (bs : List Byte) (i : Nat) : Int := signed 32 (u32 bs i)
def s64 (bs : List Byte) (i : Nat) : Int := signed 64 (u64 bs i)
/-- Bit `j` of the byte at offset `i`. -/
def flag (bs : List Byte) (i j : Nat) : Bool := (u8 bs i / 2 ^ j) % 2 == 1
/-- All bytes of a range are zero (reserved bytes, R9). -/
def zeroAt (bs : List Byte) (i n : Nat) : Bool := (part bs i n).all (· == 0)
/-- Bits `j` and above of the byte at offset `i` are zero. -/
def bitsBelow (bs : List Byte) (i j : Nat) : Bool := u8 bs i < 2 ^ j
/-- A mean or ratio in whole units; where it is no whole number, which of the two next to it is not stated. -/
def rounded (a : Int) (b : Nat) : Int := if a % (b : Int) = 0 then a / (b : Int) else a / (b : Int) + if Config.roundsUp a b then 1 else 0
/-- Division rounded up. -/
def ceilDiv (a b : Nat) : Nat := (a + b - 1) / b
/-- Both limits included (R7). -/
def within (lo hi v : Nat) : Bool := decide (lo ≤ v) && decide (v ≤ hi)
def withinI (lo hi v : Int) : Bool := decide (lo ≤ v) && decide (v ≤ hi)

/-- One bit into a CRC register fed most significant bit first. -/
def crcBit {n : Nat} (poly : BitVec n) (r : BitVec n) (b : Bool) : BitVec n :=
  if (r.msb ^^ b) then (r <<< 1) ^^^ poly else r <<< 1
/-- The bits of a byte, most significant first. -/
def byteBits (b : Byte) : List Bool := [b.getLsbD 7, b.getLsbD 6, b.getLsbD 5, b.getLsbD 4, b.getLsbD 3, b.getLsbD 2, b.getLsbD 1, b.getLsbD 0]
/-- CRC-8 of R548. -/
def crc8 (bs : List Byte) : BitVec 8 := (bs.flatMap byteBits).foldl (crcBit 0x07) 0
/-- CRC-32 of R16: polynomial 0x04C1_1DB7, initial value all ones, final inversion. DEDUCED: bytes enter most significant
bit first and nothing is reflected, as R548 states for CRC-8. -/
def crc32 (bs : List Byte) : BitVec 32 := ~~~ ((bs.flatMap byteBits).foldl (crcBit 0x04C11DB7) 0xFFFFFFFF)

/-- The number whose bits are a predicate's values. -/
def bitsOf (n : Nat) (p : Nat → Bool) : Nat := ((List.range n).map (fun k => b2n (p k) * 2 ^ k)).sum
/-- The entry of a list at an index, or a given value. -/
def nth {α : Type} (l : List α) (i : Nat) (d : α) : α := (l[i]?).getD d
/-- Replace the entry at an index. -/
def putNth {α : Type} : List α → Nat → α → List α
  | [], _, _ => []
  | _ :: t, 0, v => v :: t
  | a :: t, i + 1, v => a :: putNth t i v
/-- The first refusal that applies (R445 check 7: conditions in the order given). -/
def firstOf {α : Type} : List (Bool × α) → Option α
  | [] => none
  | (b, v) :: t => if b then some v else firstOf t

/-- The i-th word of a list is replaced. -/
def putAt {α : Type} (l : List α) (i : Nat) (f : α → α) : List α := l.mapIdx (fun k x => if k = i then f x else x)

end Sys2Proof.Machine
end

