-- ==== Sys2Proof/Machine/Layouts.lean ====
section
/-! DEFINITION. The request layouts of every Virman opcode, for checks 3 to 5 of R445: the size of the body, its reserved bytes
and the reserved bits of its flag bytes, and the size of the full response in a refusal. -/

namespace Sys2Proof.Machine

/-- A request layout. -/
structure Layout where
  /-- fixed bytes of the body -/
  size : Nat
  /-- offset, width and unit of a count field: that many units follow the fixed bytes -/
  count : Option (Nat × Nat × Nat) := none
  /-- the same for a second count field -/
  count2 : Option (Nat × Nat × Nat) := none
  /-- reserved bytes: offset, number -/
  res : List (Nat × Nat) := []
  /-- bytes of which only the low bits are defined: offset, number of bits -/
  bits : List (Nat × Nat) := []
  /-- response bytes in a refusal after check 4; 4 also where the layout has no REASON -/
  full : Nat := 4
  /-- offset, width and unit of the request field that says how long the response's variable part is -/
  more : Option (Nat × Nat × Nat) := none
  /-- the same by byte 0 of the request, from value 0, where that selects the layout (R244, R339) -/
  by0 : List Nat := []
  /-- reserved fields that depend on another field of the request -/
  also : List Byte → Bool := fun _ => true

/-- System range (R36, R450, R461, R462). -/
def systemLayouts : List (Nat × Layout) :=
  [(0x0101, { size := 8, res := [(3, 5)], full := 48 }),
   (0x0102, { size := 8 }),
   (0x0103, { size := 4, count := some (1, 1, 1), res := [(3, 1)], more := some (2, 1, 1) }),
   (0x0120, { size := 16, count := some (8, 2, 1), res := [(11, 5)], bits := [(10, 2)], full := 8 }),
   (0x0121, { size := 56, res := [(4, 4)], full := 12 })]

/-- Transmit (R76 to R82). -/
def transmitLayouts : List (Nat × Layout) :=
  [(0x0201, { size := 20, res := [(6, 2), (18, 2)], bits := [(1, 2)] }),
   (0x0202, { size := 16, res := [(12, 4)], bits := [(9, 7), (11, 7)], full := 16 }),
   (0x0203, { size := 16, res := [(12, 4)], bits := [(9, 7), (11, 7)], full := 16 }),
   (0x0204, { size := 16, res := [(2, 2), (11, 1)], bits := [(1, 2)] }),
   (0x0205, { size := 70, res := [(3, 1)] }),
   (0x0206, { size := 8, res := [(3, 1)] }),
   (0x0207, { size := 4, res := [(2, 2)], bits := [(1, 1)] })]

/-- Receive (R111 to R116). -/
def receiveLayouts : List (Nat × Layout) :=
  [(0x0221, { size := 12, res := [(10, 2)], bits := [(1, 2)] }),
   (0x0222, { size := 16, res := [(12, 4)], bits := [(5, 1), (7, 7), (9, 7)], full := 8 }),
   (0x0223, { size := 20, res := [(14, 2)] }),
   (0x0224, { size := 4, bits := [(1, 1)] }),
   (0x0225, { size := 4, res := [(2, 2)], bits := [(1, 1)] }),
   (0x0226, { size := 4, res := [(3, 1)], bits := [(2, 1)] })]

/-- Keys, trust and brakes (R339). -/
def trustLayouts : List (Nat × Layout) :=
  [(0x0621, { size := 12, res := [(1, 3)], full := 8 }),
   (0x0622, { size := 40, res := [(1, 3)], by0 := [356, 2052, 2583] }),
   (0x0623, { size := 12, res := [(2, 2)], bits := [(1, 1)], full := 12 }),
   (0x0624, { size := 68, res := [(2, 2)], bits := [(1, 1)], full := 12 }),
   (0x0625, { size := 16, full := 52 }),
   (0x0626, { size := 8 }),
   (0x0627, { size := 1668, res := [(97, 3)], full := 12 }),
   (0x0628, { size := 64, bits := [(3, 1)] }),
   (0x0629, { size := 4, res := [(2, 2)] }),
   (0x062A, { size := 4, res := [(3, 1)], bits := [(2, 1)], full := 76 }),
   (0x062B, { size := 4, res := [(1, 3)] }),
   (0x062C, { size := 68, res := [(1, 3)], full := 6 }),
   (0x062D, { size := 4, res := [(1, 3)] }),
   (0x062E, { size := 0, full := 5 })]

/-- Timing (R416). -/
def timingLayouts : List (Nat × Layout) :=
  [(0x0901, { size := 20, res := [(3, 1), (17, 1)], bits := [(1, 1)] }),
   (0x0902, { size := 16, res := [(14, 2)], bits := [(1, 2)] }),
   (0x0903, { size := 4, res := [(1, 3)] }),
   (0x0904, { size := 4, res := [(1, 3)], bits := [(0, 1)], full := 256 }),
   (0x0905, { size := 16, res := [(2, 2)], bits := [(1, 1)] }),
   (0x0906, { size := 8, res := [(1, 3)], bits := [(0, 1)] })]

/-- Power (R529). -/
def powerLayouts : List (Nat × Layout) :=
  [(0x0A01, { size := 4, res := [(2, 2)], bits := [(1, 1)], full := 8 }),
   (0x0A02, { size := 4, res := [(3, 1)] }),
   (0x0A03, { size := 4, bits := [(0, 2)] }),
   (0x0A04, { size := 4, res := [(1, 3)], bits := [(0, 1)], full := 24 })]

/-- Counters, telemetry and calibration (R505). -/
def measureLayouts : List (Nat × Layout) :=
  [(0x0B01, { size := 8, res := [(1, 1), (6, 2)], full := 12, more := some (4, 2, 1) }),
   (0x0B02, { size := 4, full := 12, more := some (2, 1, 64) }),
   (0x0B03, { size := 8, res := [(6, 2)], bits := [(3, 1)], full := 36 }),
   (0x0B04, { size := 8, res := [(3, 1), (6, 2)], bits := [(1, 1)] }),
   (0x0B05, { size := 4, res := [(1, 3)] }),
   (0x0B06, { size := 4, res := [(2, 2)], bits := [(1, 1)], full := 32 }),
   (0x0B07, { size := 4, res := [(1, 3)], full := 3140 }),
   (0x0B08, { size := 3136, res := [(6, 2), (44, 20)], bits := [(3, 2)] })]

/-- Memory (R435). -/
def memoryLayouts : List (Nat × Layout) :=
  [(0x0C01, { size := 4, res := [(2, 2)] }),
   (0x0C02, { size := 4, res := [(0, 4)], full := 32 }),
   (0x0C03, { size := 4, res := [(2, 2)] }),
   (0x0C04, { size := 16, res := [(3, 1), (13, 3)], full := 16 }),
   (0x0C05, { size := 4, res := [(2, 2)] })]

/-- The decoder pool (R144 to R147). -/
def poolLayouts : List (Nat × Layout) :=
  [(0x0241, { size := 8, res := [(6, 2)] }),
   (0x0242, { size := 4, res := [(3, 1)] }),
   (0x0243, { size := 4, res := [(1, 3)], bits := [(0, 1)], full := 24 }),
   (0x0244, { size := 4, res := [(3, 1)], bits := [(2, 1)] })]

/-- Framing (R186, R187). -/
def frameLayouts : List (Nat × Layout) :=
  [(0x0301, { size := 8, res := [(3, 1)], bits := [(2, 1)] }),
   (0x0302, { size := 4, res := [(3, 1)], bits := [(2, 1)] })]

/-- The reserved bits of a connection-memory entry (R223). -/
def entryReservedZero (e : Nat) : Bool := e / 2 ^ 24 == 0 && (e % 4 != 2 || e / 2 ^ 16 == 0)
/-- Those of every entry of a SLOT_WRITE. -/
def entriesReservedZero (b : List Byte) : Bool := (List.range (un b 6 2)).all (fun i => entryReservedZero (un b (8 + 4 * i) 4))
/-- Slots and queues (R241 to R245). DEDUCED: SLOT_COPY carries PAGE_KIND, a reserved byte and INDEX; the bits above [47:0] of
F_REF are reserved. -/
def slotLayouts : List (Nat × Layout) :=
  [(0x0401, { size := 32, res := [(26, 6)], bits := [(3, 3)] }),
   (0x0402, { size := 4, bits := [(3, 1)], full := 96 }),
   (0x0403, { size := 8, count := some (6, 2, 4), res := [(1, 1)], also := entriesReservedZero }),
   (0x0404, { size := 8, more := some (6, 2, 4) }),
   (0x0405, { size := 4, res := [(1, 1)] }),
   (0x0406, { size := 14, res := [(4, 2), (12, 2)] }),
   (0x0407, { size := 136, res := [(1, 1), (4, 4)] }),
   (0x0408, { size := 2 }),
   (0x0409, { size := 1, full := 160 }),
   (0x040A, { size := 8, res := [(4, 4)], bits := [(1, 1)], full := 12, by0 := [12, 4] })]

/-- Defects and bins (R211 to R215). -/
def defectLayouts : List (Nat × Layout) :=
  [(0x0311, { size := 16, res := [(5, 1), (15, 1)], bits := [(1, 4)] }),
   (0x0312, { size := 4, bits := [(1, 1)], full := 48 }),
   (0x0313, { size := 4, res := [(1, 3)] }),
   (0x0314, { size := 4, full := 96 }),
   (0x0315, { size := 4, bits := [(1, 2)] })]

/-- The line cipher and the job engine (R308 to R312); KEY_INDEX of a transmit key load is reserved. -/
def cipherLayouts : List (Nat × Layout) :=
  [(0x0601, { size := 16, res := [(13, 1)] }),
   (0x0602, { size := 24, res := [(4, 4), (22, 2)], also := fun b => u8 b 2 != 0 || u8 b 3 == 0 }),
   (0x0603, { size := 4, res := [(3, 1)], bits := [(2, 1)], full := 128 }),
   (0x0604, { size := 184, count := some (48, 2, 1), count2 := some (50, 2, 1), res := [(5, 3), (28, 4), (52, 12)], bits := [(3, 5)]
              full := 184 }),
   (0x0605, { size := 12, res := [(2, 2)] })]

/-- Client lanes (R275 to R278). -/
def clientLayouts : List (Nat × Layout) :=
  [(0x0501, { size := 16, res := [(15, 1)], bits := [(6, 1)] }),
   (0x0502, { size := 8, bits := [(3, 4)] }),
   (0x0503, { size := 4, res := [(3, 1)], bits := [(2, 1)], full := 88 }),
   (0x0504, { size := 4, bits := [(3, 2)] }),
   (0x0505, { size := 16 })]

/-- Twin paths (R362 to R364). -/
def twinLayouts : List (Nat × Layout) :=
  [(0x0701, { size := 16, res := [(14, 2)], bits := [(1, 2), (7, 4)], full := 8 }),
   (0x0702, { size := 4, res := [(2, 2)], bits := [(1, 1)], full := 104 }),
   (0x0703, { size := 4, res := [(3, 1)] }),
   (0x0704, { size := 4, res := [(2, 2)] })]

/-- The Ixtas channel (R389 to R393). -/
def ixtasLayouts : List (Nat × Layout) :=
  [(0x0801, { size := 16, res := [(12, 4)], bits := [(1, 3)] }),
   (0x0802, { size := 72, res := [(7, 1)], bits := [(6, 2)] }),
   (0x0803, { size := 4, res := [(2, 2)], bits := [(1, 1)], full := 128 }),
   (0x0804, { size := 4, res := [(3, 1)], bits := [(2, 1)], full := 108 }),
   (0x0805, { size := 8, count := some (4, 1, 1), res := [(6, 2)], bits := [(5, 1)], full := 5 }),
   (0x0806, { size := 0, full := 19 }),
   (0x0807, { size := 4, res := [(3, 1)] })]

/-- Every assigned opcode. -/
def layouts : List (Nat × Layout) :=
  ixtasLayouts ++ clientLayouts ++ twinLayouts ++ cipherLayouts ++ systemLayouts ++ transmitLayouts ++ receiveLayouts ++ poolLayouts ++ frameLayouts ++ slotLayouts ++ defectLayouts ++ trustLayouts ++ timingLayouts ++ powerLayouts ++ measureLayouts ++ memoryLayouts

/-- The layout of an opcode; none where it is unassigned (R452). -/
def layoutOf (op : Nat) : Option Layout :=
  (layouts.find? (fun e => e.1 == op)).map (·.2)
/-- Body bytes the layout gives for this request (check 4). -/
def Layout.length (l : Layout) (body : List Byte) : Nat :=
  let more (c : Option (Nat × Nat × Nat)) : Nat := match c with | some (i, n, k) => k * un body i n | none => 0
  l.size + more l.count + more l.count2
/-- The reserved fields are zero (check 5). -/
def Layout.reservedZero (l : Layout) (body : List Byte) : Bool :=
  l.res.all (fun r => zeroAt body r.1 r.2) && l.bits.all (fun r => bitsBelow body r.1 r.2) && l.also body
/-- Response bytes in a refusal after check 4 (R445): the full layout. DEDUCED: a variable part whose length the request states is
there, unless it would not fit a body; one whose length the response states is empty. -/
def Layout.answer (l : Layout) (body : List Byte) : Nat :=
  let n := nth l.by0 (u8 body 0) l.full
  match l.more with
  | some (i, w, k) => if n + k * un body i w ≤ 4080 then n + k * un body i w else n
  | none => n
def fullSize (op : Nat) (body : List Byte) : Nat :=
  match layoutOf op with
  | some l => l.answer body
  | none => 4

end Sys2Proof.Machine
end

