-- ==== Sys2Proof/Machine/CodeWord.lean ====
section
/-! DEFINITION. The 72-bit code word of every memory: check byte, syndrome, class and correction (R418 to R420), and what a read delivers of a word
that a flip mask has corrupted (R430). -/

namespace Sys2Proof.Machine

/-- A power of two from 4 to 64. -/
def isPow2 (n : Nat) : Bool := [4, 8, 16, 32, 64].contains n
/-- The positions p(0) to p(63): the integers from 3 to 71 that are not powers of two. -/
def positions : List Nat := ((List.range 69).map (· + 3)).filter (fun n => !isPow2 n)
/-- XOR of a list of bits. -/
def parity (l : List Bool) : Bool := l.foldl xor false
/-- The data bits as (position, value). -/
def placed (data : BitVec 64) : List (Nat × Bool) := (List.range 64).map (fun i => (nth positions i 0, data.getLsbD i))
/-- c_j for j = 0 to 6. -/
def checkBit (data : BitVec 64) (j : Nat) : Bool := parity ((placed data).map (fun e => e.1.testBit j && e.2))
/-- c_0 to c_6 as a number. -/
def check7 (data : BitVec 64) : BitVec 7 := BitVec.ofNat 7 (((List.range 7).map (fun j => b2n (checkBit data j) * 2 ^ j)).sum)
/-- XOR of all bits of a value. -/
def xorBits {n : Nat} (w : BitVec n) : Bool := parity ((List.range n).map w.getLsbD)
/-- The check byte of a data word (R418). -/
def checkByte (data : BitVec 64) : BitVec 8 :=
  let c := check7 data
  (c.setWidth 8) ||| (if xorBits data != xorBits c then 0x80 else 0)
/-- A valid 72-bit word. -/
def encodeWord (data : BitVec 64) : BitVec 72 := checkByte data ++ data
def dataOf (w : BitVec 72) : BitVec 64 := w.setWidth 64
/-- S and P of a stored word (R419). -/
def syndromeS (w : BitVec 72) : Nat := (check7 (dataOf w) ^^^ (w >>> 64).setWidth 7).toNat
def syndromeP (w : BitVec 72) : Bool := xorBits w
/-- SYNDROME byte: P in bit 7, S below. -/
def syndrome (w : BitVec 72) : Nat := 128 * b2n (syndromeP w) + syndromeS w
/-- CLASS: 0 none, 1 corrected, 2 uncorrectable (R419). -/
def readClass (w : BitVec 72) : Nat :=
  if syndromeP w then (if syndromeS w < 72 then 1 else 2) else (if syndromeS w = 0 then 0 else 2)
/-- The word a corrected read writes back: the erroneous bit inverted (R419, R420). -/
def correctWord (w : BitVec 72) : BitVec 72 :=
  let s := syndromeS w
  if readClass w = 1 then
    if s = 0 then w ^^^ BitVec.twoPow 72 71
    else if [1, 2, 4, 8, 16, 32, 64].contains s then w ^^^ BitVec.twoPow 72 (64 + Nat.log2 s)
    else w ^^^ BitVec.twoPow 72 (positions.idxOf s)
  else w
/-- What a read delivers of data that was stored XOR a flip mask; `none` where the word is uncorrectable (R419, R430). -/
def readFlipped (m : BitVec 72) (data : BitVec 64) : Option (BitVec 64) :=
  let v := encodeWord data ^^^ m
  if m = 0 then some data else if readClass v = 2 then none else some (dataOf (correctWord v))

end Sys2Proof.Machine
end

