-- ==== Sys2Proof/Machine/State/Access.lean ====
section
/-! DEFINITION. State of the Virman interface, the SMP, the laser ports, the identity block and firmware (chapters 1, 15). -/

namespace Sys2Proof.Machine

/-- STATE of MB_STATE (R441). -/
inductive MbState | idle | pending | done
  deriving DecidableEq, Repr

/-- The port that rang a doorbell or wrote a register (R441): PCIe or SMP. -/
inductive Port | pcie | smp
  deriving DecidableEq, Repr

/-- The status codes of R446. -/
inductive Status
  | ok | busy | badVersion | badArg | poweredDown | braked | notReady | denied | timeout | keyExhausted
  | sleepRefused | uninitialised
  deriving DecidableEq, Repr

/-- Why a request is refused: status, REASON, BLOCK_ID for POWERED_DOWN, brake number for BRAKED (R332), and the
size of the answer's body where checks 1 to 5 refuse (R445). -/
structure Verdict where
  status : Status
  reason : Nat := 0
  block : Nat := 0
  brake : Nat := 0
  size : Nat := 4
  deriving DecidableEq, Repr

/-- A mailbox: window and MB_STATE (R441, R442, R444, R449). -/
structure MailboxState where
  /-- window bytes that are not 0 -/
  cells : Tab Byte := []
  /-- bytes beyond 16 + LENGTH of a posted response: undefined (R444), free values until written -/
  undef : BitVec 4096 := 0
  /-- number of the response whose undefined bytes these are -/
  stamp : Nat := 0
  state : MbState := .idle
  port : Port := .pcie
  doorbellErr : Bool := false
  writeErr : Bool := false
  negMajor : Nat := 0
  negMinor : Nat := 0
  /-- port of the last negotiation (R449) -/
  negPort : Port := .pcie
  discarded : Nat := 0
  /-- the claim was lost under R449: the response is released as soon as it is posted -/
  releaseAtPost : Bool := false
  /-- the request was taken and waits for an external event (R448) -/
  waiting : Bool := false
  /-- result of checks 1 to 5 of R445 at the doorbell: none if they passed -/
  verdict : Option Verdict := none
  deriving DecidableEq, Repr

/-- ACCESS_DOWN (R440, R453). -/
structure AccessDown where
  valid : Bool := false
  first : Nat := 0xFF
  last : Nat := 0xFF
  count : Nat := 0
  deriving DecidableEq, Repr

/-- One LASI port: SPEED, STRETCH_LIMIT and the four addresses (R461). -/
structure LaserPort where
  speed : Nat := 0
  stretch : Nat := 10
  address : List Nat := [0xFF, 0xFF, 0xFF, 0xFF]
  deriving DecidableEq, Repr

/-- A laser transfer that firmware has taken: its mailbox, and how it ended where no firmware ran to answer it (R448, R464). -/
structure LaserTransfer where
  mailbox : Nat
  result : Option BusOutcome := none
  deriving DecidableEq, Repr

/-- Mailboxes, SMP and laser ports. -/
structure Mail where
  boxes : Tab MailboxState := []
  /-- PENDING mailboxes in doorbell order (R448) -/
  order : List Nat := []
  /-- responses posted: numbers the undefined bytes (model's own) -/
  posts : Nat := 0
  /-- values the last read command returned, first word first (model's own) -/
  out : List Word := []
  down : AccessDown := {}
  smpWriteDisable : Bool := false
  /-- SMP_ADDR[2:0] as sampled at the end of reset (R457) -/
  smpStrap : BitVec 3 := 0
  smpPointer : Word := 0
  laser : Tab LaserPort := []
  /-- the laser transfers taken and not answered, in doorbell order -/
  transfers : List LaserTransfer := []
  deriving DecidableEq, Repr

/-- FW_STATUS.STATE (R37). -/
inductive FwState | boot | running | restarting | failed
  deriving DecidableEq, Repr

/-- A firmware image as far as the manual describes one: version, SVN, digest (R36, R316). -/
structure Image where
  version : BitVec 32
  svn : BitVec 8
  digest : BitVec 384
  deriving DecidableEq, Repr

/-- The staging area (R36). -/
structure Staging where
  size : Nat
  bytes : List Byte
  complete : Bool
  deriving DecidableEq, Repr

/-- Boot and firmware (R30 to R37, R440). -/
structure Firmware where
  stage : Nat := 0
  bootErr : Nat := 0
  state : FwState := .boot
  mailboxReady : Bool := false
  /-- the freeze of a firmware restart (R31); the host freeze is a brake -/
  restartFreeze : Bool := false
  /-- FALLBACK: the last restart ran the previous image after the staged one was rejected -/
  fallback : Bool := false
  restartCause : Nat := 0
  restartCount : Nat := 0
  staged : Option Staging := none
  running : Image
  /-- the image a restart with cause 3 activates (R35) -/
  activating : Option Image := none
  /-- of the journal of committed configuration (R32, R33): the mailboxes whose request committed and has no response posted -/
  journal : List Nat := []
  secureBoot : Bool := false
  deriving DecidableEq, Repr

/-- A flit in a replay buffer: its SEQ, how often it has been sent, and its bytes, empty while no row has shown them (R17). Of a memory channel,
a block that has been resent. -/
structure SentFlit where
  seq : Nat
  times : Nat := 1
  bytes : List Byte := []
  deriving DecidableEq, Repr

/-- One direction of a link's flit layer or of a memory channel's blocks (R17, R18). -/
structure FlitSide where
  /-- replay buffer: the flits not acknowledged, oldest first, at most 64; of a memory channel the blocks resent -/
  replay : List SentFlit := []
  /-- SEQ of the sender's next new flit -/
  next : Nat := 0
  /-- SEQ the receiver expects next -/
  expected : Nat := 0
  /-- the receiver has answered with a NAK that names the expected number -/
  nak : Bool := false
  /-- flits dropped at retry exhaustion -/
  dropped : Nat := 0
  /-- TYPE, STREAM and words of the last accepted flit, or the words of the last accepted block -/
  kind : Nat := 0
  stream : Nat := 0
  words : List (BitVec 72) := []
  deriving DecidableEq, Repr

/-- A die-to-die link or memory channel (R17, R18, R433). -/
structure LinkState where
  fromHub : FlitSide := {}
  toHub : FlitSide := {}
  retraining : Bool := false
  retrains : Nat := 0
  failedRetrains : Nat := 0
  down : Bool := false
  retries : Nat := 0
  exhaust : Nat := 0
  /-- the second of DEVTIME that the window counts, the flits or blocks accepted in it and the resends in it (R433) -/
  second : Nat := 0
  passed : Nat := 0
  resends : Nat := 0
  deriving DecidableEq, Repr

end Sys2Proof.Machine
end

