-- ==== Sys2Proof/Machine/State/Pool.lean ====
section
/-! DEFINITION. State of the decoder pool (chapter 4). -/

namespace Sys2Proof.Machine

/-- Where a codeword stands in the pool (R125 to R131): base beads run; base failed and not yet judged; in the extension set
being collected; in the extension set of this epoch and to be considered for a tranche; granted one that has not run; marked (at
its cap or starved); done, with the outcome of R134. -/
inductive CwState | failedBase | waiting | live | granted | marked | done (outcome : Fin 3)
  deriving DecidableEq, Repr

/-- A codeword in the pool: the record of R107, the signs of its LLRs, the hard decisions after each bead, and its progress. -/
structure PoolCw where
  coach : Nat
  seq : Nat
  profile : Nat
  siq : Nat
  /-- a cycle slip fell within the codeword (R98) -/
  slip : Bool := false
  resync : Bool
  hChange : Bool
  /-- order of arrival -/
  order : Nat
  /-- MAX_BEADS in force at its arrival (R145) -/
  cap : Nat
  signs : BitVec 30720
  hard : List (BitVec 30720)
  beads : Nat := 0
  state : CwState := .failedBase
  starved : Bool := false
  deriving DecidableEq, Repr

/-- A released codeword (R134); `info` holds information bits 0 to k − 1. -/
structure Released where
  seq : Nat
  profile : Nat
  outcome : Fin 3
  beads : Nat
  resync : Bool
  hChange : Bool
  info : BitVec 30720
  deriving DecidableEq, Repr

/-- POOL_CONFIG (R144). -/
structure PoolCfg where
  minPoint : Nat := 2
  surgeMode : Nat := 1
  hopeless : Nat := 32
  onEpochs : Nat := 16
  hold : Nat := 4
  deriving DecidableEq, Repr

/-- One coach's figures of an interval (R140). -/
structure Interval where
  codewords : Nat := 0
  cleared : Nat := 0
  corrected : Nat := 0
  notErased : Nat := 0
  beads : Nat := 0
  uncorr : Nat := 0
  histogram : List Nat := [0, 0, 0, 0, 0, 0]
  deriving DecidableEq, Repr

/-- The decoder pool (R117 to R149). -/
structure Pool where
  cfg : PoolCfg := {}
  /-- values that apply from the next epoch boundary -/
  cfgNext : PoolCfg := {}
  caps : Tab Nat := []
  capsNext : Tab Nat := []
  /-- point in force: P0 to P3 -/
  point : Nat := 2
  /-- highest point the VPOOL voltage in force allows (R523) -/
  rail : Nat := 2
  /-- codewords in the pool, in order of arrival -/
  cws : List PoolCw := []
  arrivals : Nat := 0
  epochOn : Bool := false
  /-- budget and what is left of it, in beads -/
  budget : Nat := 0
  remaining : Nat := 0
  /-- extra beads granted in this epoch -/
  granted : Nat := 0
  baseRun : Nat := 0
  extraRun : Nat := 0
  extSize : Nat := 0
  /-- of the last epoch that ended (R146): its budget in beads, its extension set, its starved codewords, D -/
  lastBudget : Nat := 0
  lastSize : Nat := 0
  extStarved : Nat := 0
  demand : Bool := false
  window : BitVec 64 := 0
  /-- epochs in a row with D = 0 -/
  quiet : Nat := 0
  now : Tab Interval := []
  last : Tab Interval := []
  /-- causes raised in this interval: coach × 32 + bit (R141) -/
  raised : List Nat := []
  deriving DecidableEq, Repr

end Sys2Proof.Machine
end

