-- ==== Sys2Proof/Machine/State/Frame.lean ====
section
/-! DEFINITION. State of the carriage frame (chapter 5), both directions. -/

namespace Sys2Proof.Machine

/-- The header of a frame (R156, R183); fields that version 2 lacks are 0 there, PROFILE 1. -/
structure Header where
  version : Nat
  profile : Nat
  slots : Nat
  keyIndex : Nat
  cipher : Bool
  twinRole : Nat := 0
  fc : Nat
  source : Nat
  trace : Nat
  stat : Nat
  bdi : Bool
  bei : Nat := 0
  chgValid : Bool := false
  chgSlots : Nat := 0
  chgAt : Nat := 0
  deriving DecidableEq, Repr

/-- A leg as a frame carries it: its slots in rising order, FILL_KIND, OFFSET and data words (R218, R219). -/
structure SentLeg where
  slots : List Nat
  kind : Nat
  offset : Nat
  words : List QWord
  deriving DecidableEq, Repr

/-- Key, salt and START_FC that protect a frame (R282). -/
structure FrameKey where
  key : BitVec 256
  salt : BitVec 64
  startFc : Nat
  deriving DecidableEq, Repr

/-- The frame most recently sent: all that its line bits are computed from. -/
structure SentFrame where
  header : Header
  legs : List SentLeg
  /-- none: clear segments -/
  key : Option FrameKey
  /-- first segment that a zeroisation blanked (R297); 4: none -/
  zeroFrom : Nat := 4
  /-- where the frame begins, in symbols of the coach's counter (R51) -/
  symbol : Nat × Nat := (0, 1)
  /-- DEVTIME at which the lead codeword entered the encoder (R159) -/
  time : Nat
  deriving DecidableEq, Repr

/-- What a leg took at its cut instant: its stream (4,096 + r for the groomed stream of tributary r) and slots, FILL_KIND, and COUNT (R221). -/
structure CutLeg where
  stream : Nat
  slots : List Nat
  kind : Nat
  count : Nat
  deriving DecidableEq, Repr

/-- Transmit framing of a coach. -/
structure FrameTx where
  trace : Nat := 0
  /-- FRAME_COUNT of the next frame (R159) -/
  next : Nat := 0
  sent : Option SentFrame := none
  /-- the symbol counter where the next frame begins (R51), as a fraction: a frame's codewords need not fill whole symbols -/
  symbol : Nat × Nat := (0, 1)
  /-- legs cut for the next frame (R221) -/
  cuts : List CutLeg := []
  /-- the host wrote TX_TRACE_TAG after the last exchange (R178) -/
  hostTrace : Bool := false
  /-- slots whose entry was uncorrectable and counts as IDLE for the next frame (R424) -/
  skip : List Nat := []
  deriving DecidableEq, Repr

/-- Alignment state (R168, R187). -/
inductive Align | hunt | presync | sync | off
  deriving DecidableEq, Repr

/-- A raw indication that two consecutive fitting headers set or clear (R177 to R181). -/
structure Pair where
  raw : Bool := false
  /-- the last fitting header spoke against the present state -/
  once : Bool := false
  deriving DecidableEq, Repr

/-- What the framer keeps of a codeword in PRESYNC (R169). -/
structure Kept where
  bits : BitVec 256
  erased : Bool
  seq : Nat
  deriving DecidableEq, Repr

/-- The frame being received in SYNC. -/
structure InFrame where
  /-- header in force: fitting or carried forward (R174) -/
  header : Header
  /-- the header fitted -/
  fits : Bool
  /-- passed to the cipher lane (R172) -/
  delivered : Bool
  /-- codewords received so far, oldest first -/
  words : List Released := []
  /-- the receive CIPHER_MODE since the frame's boundary (R285) -/
  mode : Bool := false
  deriving DecidableEq, Repr

/-- Receive framing of a coach (R168 to R181). -/
structure FrameRx where
  align : Align := .off
  expTrace : Nat := 0
  timEnable : Bool := false
  hostTrace : Bool := false
  /-- released codewords not yet taken, oldest first -/
  inbox : List Released := []
  /-- PRESYNC: latched FRAME_COUNT, version modulus and the codewords after the candidate -/
  latched : Nat := 0
  latchedVersion : Nat := 3
  kept : List Kept := []
  confirmed : Nat := 0
  /-- SYNC: the frame in progress -/
  frame : Option InFrame := none
  misfits : Nat := 0
  /-- count from which continuity is judged, that of the last frame -/
  count : Nat := 0
  last : Option Header := none
  vmm : Pair := {}
  ais : Pair := {}
  tim : Pair := {}
  bdi : Pair := {}
  hold : Pair := {}
  partner : Pair := {}
  /-- latched change: CHG_SLOTS, CHG_AT, CW_SEQ of the lead codeword (R180) -/
  chg : Option (Nat × Nat × Nat) := none
  /-- the latched change has been applied (R109) -/
  chgApplied : Bool := false
  /-- RESYNC has come since the last delivered frame (R233) -/
  resynced : Bool := false
  /-- slot count in force for the frames being assembled (R109, R232) -/
  slots : Nat := 0
  lastSync : Nat := 0
  /-- FRAME_COUNT of the last frame delivered since receive was enabled -/
  delivered : Option Nat := none
  /-- items of BEI: bad codewords of the frame in progress, failed segments, and the last completed frame's sum (R160) -/
  badWords : Nat := 0
  failedSegs : Nat := 0
  bei : Nat := 0
  deriving DecidableEq, Repr

/-- A segment handed to the cipher lane (R166). -/
structure Segment where
  g : Nat
  header : Header
  /-- descrambled body and tag -/
  body : List Byte
  tag : List Byte
  uncorr : Nat
  erased : Nat
  /-- outcome of each of its four codewords is cleared -/
  good : List Bool
  /-- a word of it was uncorrectable in the siding (R424) -/
  lost : Bool := false
  /-- the receive CIPHER_MODE of its frame -/
  mode : Bool := false
  deriving DecidableEq, Repr

/-- A segment as the siding releases it to the de-mapper (R293): none where it failed. -/
structure SegmentOut where
  plain : Option (List Byte)
  good : List Bool
  /-- a verified hold segment (R292) -/
  hold : Bool
  deriving DecidableEq, Repr

/-- Framing of all coaches. -/
structure Frames where
  tx : Tab FrameTx := []
  rx : Tab FrameRx := []
  deriving DecidableEq, Repr

end Sys2Proof.Machine
end

