-- ==== Sys2Proof/Machine/State/Cipher.lean ====
section
/-! DEFINITION. State of the line cipher and the job engine (chapter 9). -/

namespace Sys2Proof.Machine

/-- A loaded key slot (R285, R287). -/
structure KeySlot where
  key : BitVec 256
  salt : BitVec 64
  startFc : Nat
  limit : Nat
  warned : Bool := false
  deriving DecidableEq, Repr

/-- The transmit side of a coach (R285 to R291). -/
structure CipherTx where
  /-- CIPHER_MODE in force and from the next frame -/
  mode : Bool := false
  modeNext : Bool := false
  limit : Nat := 2 ^ 32
  warn : Nat := 90
  slot0 : Option KeySlot := none
  slot1 : Option KeySlot := none
  /-- the current slot, once a key has come into use -/
  current : Option (Fin 2) := none
  hold : Bool := false
  /-- I of the last transmitted segment -/
  invocation : Nat := 0
  /-- KEY_EXHAUSTED: entries to hold for a key at its limit (R291) -/
  exhausted : Nat := 0
  deriving DecidableEq, Repr

/-- The receive side of a coach (R287, R288, R295, R296). -/
structure CipherRx where
  mode : Bool := false
  modeNext : Bool := false
  limit : Nat := 2 ^ 32
  warn : Nat := 90
  mismatch : Nat := 16
  slot0 : Option KeySlot := none
  slot1 : Option KeySlot := none
  /-- slot of the last delivered frame -/
  lastSlot : Option Nat := none
  /-- segments waiting for their verdict -/
  segs : List Segment := []
  /-- of the frame in progress: segments verified under its slot, and segments failed clean or without key -/
  okSegs : Nat := 0
  cleanFails : Nat := 0
  /-- the frame in progress is an errored block so far (R202) -/
  bad : Bool := false
  /-- frames in a row that failed so, and whether KEY_MISMATCH has been raised for them -/
  run : Nat := 0
  mismatched : Bool := false
  deriving DecidableEq, Repr

/-- Who asked for a job (R299). -/
inductive Requester | ixtas | vault | firmware | host
  deriving DecidableEq, Repr

/-- A message's chaining state (R303). -/
structure JobContext where
  mode : Nat
  op : Nat
  phase : Nat := 0
  invocation : Nat := 0
  handle : Nat
  j0 : BitVec 128 := 0
  counter : BitVec 128 := 0
  acc : BitVec 128 := 0
  part : List Byte := []
  aadBits : Nat := 0
  dataBits : Nat := 0
  serial : Nat := 0
  /-- uncorrectable (R424) -/
  bad : Bool := false
  deriving DecidableEq, Repr

/-- A job in the engine (R301, R302): its number, who asked, its priority, the 16-byte blocks still to come, its slot (none: it waits for one); of a host
job its mailbox, what it leaves in the slot, the response it will give, and whether its keys were erased meanwhile. -/
structure CipherJob where
  number : Nat
  requester : Requester := .host
  mailbox : Option Nat := none
  priority : Nat
  left : Nat
  slot : Option Nat := none
  kept : Option JobContext := none
  reply : List Byte := []
  erased : Bool := false
  memError : Bool := false
  deriving DecidableEq, Repr

/-- The line cipher of all coaches and the job engine. -/
structure Cipher where
  tx : Tab CipherTx := []
  rx : Tab CipherRx := []
  /-- context slots 0 to 7: holder and state -/
  contexts : Tab (Option (Requester × JobContext)) := []
  /-- the jobs in order of arrival, the number of the one that ran last, and the number of the next one -/
  jobs : List CipherJob := []
  running : Option Nat := none
  jobNumber : Nat := 0
  /-- outstanding serials, and the number of the next one -/
  serials : List Nat := []
  nextSerial : Nat := 1
  deriving DecidableEq, Repr

end Sys2Proof.Machine
end

