-- ==== Sys2Proof/Machine/State/Client.lean ====
section
/-! DEFINITION. State of client lanes, ports and links (chapter 8). -/

namespace Sys2Proof.Machine

/-- LANE_STATE (R268, R277). -/
inductive LaneState | off | trainLow | settle | change | adapt | ready | up | failed | loop | linkDown
  deriving DecidableEq, Repr

/-- A client lane. -/
structure LaneSt where
  adaptMode : Nat := 0
  txInvert : Bool := false
  rxInvert : Bool := false
  ffe : List Int := [0, -4, 52, -8]
  loop : Nat := 0
  pattern : Nat := 0
  state : LaneState := .off
  rate : Nat := 0
  /-- the rate to switch to at the next comma (R268); 0: none -/
  rateNext : Nat := 0
  eye : Nat := 0
  eyeLow : Nat := 255
  /-- eye scores in a row at or above EYE_MIN -/
  eyeRun : Nat := 0
  commaLock : Bool := false
  /-- commas seen, or expected and missed, in a row -/
  commas : Nat := 0
  missed : Nat := 0
  /-- the selected rate has been excluded (R268) -/
  excl212 : Bool := false
  excl450 : Bool := false
  order : Bool := false
  skew : Bool := false
  partnerRates : Nat := 0
  partnerVersions : Nat := 0
  /-- valid partner words in a row, and words in a row that agree with our step and selection -/
  valid : Nat := 0
  agree : Nat := 0
  /-- Ethernet PCS alignment -/
  aligned : Bool := false
  /-- the FFE in force: a new one takes effect at the next comma (R271) -/
  ffeNow : List Int := [0, -4, 52, -8]
  /-- number of the free draw that stands for the receive coefficients (R271) -/
  coeffs : Nat := 0
  /-- bytes of cells that wait for a codeword, payloads of codeword blocks to be sent, number of the next block since the comma (R259, R262, R267) -/
  cellBytes : List Byte := []
  payloads : List (BitVec 128) := []
  /-- cells received on the lane that the link has not taken in their order (R262) -/
  inbox : List CellFacts := []
  blockNo : Nat := 0
  /-- the lane sends data since its last comma, else training frames; the word of the present frame (R267, R268) -/
  dataOn : Bool := false
  word : QWord := 0
  /-- the last data block received, its mask removed (R257) -/
  received : Option (BitVec 128) := none
  /-- the last bit sent and the length of its run (R257) -/
  lastBit : Bool := false
  lastRun : Nat := 0
  /-- the symbols of the last block sent, as levels 0 to 3 (R256) -/
  pins : List Nat := []
  /-- PRBS-31 generator and checker, and the checker's error-free bits in a row (R273) -/
  generator : BitVec 31 := 0x7FFFFFFF
  checker : BitVec 31 := 0x7FFFFFFF
  checkRun : Nat := 0
  deriving DecidableEq, Repr

/-- A port or link, by its first lane (R248 to R250, R275). -/
structure Group where
  protocol : Nat := 0
  width : Nat := 0
  speed : Nat := 0
  rateCap : Nat := 0
  enable : Bool := false
  eyeMin : Nat := 96
  first : Nat := 0
  count : Nat := 0
  maxFrame : Nat := 9600
  eyeWarn : Nat := 64
  up : Bool := false
  /-- selected rate and version of a link -/
  rateSel : Nat := 0
  version : Nat := 0
  localFault : Bool := false
  /-- the line of an Ethernet port is taken by the last frame and its gap until then, ns of elapsed time (R253) -/
  gapUntil : Nat := 0
  /-- number of the next cell of the link, each way -/
  cellsOut : Nat := 0
  cellsIn : Nat := 0
  deriving DecidableEq, Repr

/-- Credit of one logical channel (R264): cells and limits modulo 2¹⁶. -/
structure Channel where
  /-- toward the host: cells sent, and the host's limit -/
  sent : Nat := 0
  limit : Nat := 0
  /-- the limit that the last CREDIT cell carried -/
  told : Nat := 0
  /-- from the host: cells received, and the limit granted -/
  received : Nat := 0
  granted : Nat := 0
  /-- DEVTIME ns of the last CSF cell from the host (R265) -/
  csfAt : Option Nat := none
  /-- it has had traffic since the last SENT entry -/
  traffic : Bool := false
  deriving DecidableEq, Repr

/-- What a port or link sends: nothing yet; a cell; an Ethernet frame with preamble and start delimiter, after which at least 12 bytes of gap follow;
continuous Local Fault ordered sets. -/
inductive ClientOut
  | idle
  | cell (bytes : List Byte)
  | frame (wire : List Byte)
  | localFault
  deriving DecidableEq, Repr

/-- The client side. -/
structure Clients where
  lanes : Tab LaneSt := []
  groups : Tab Group := []
  channels : Tab Channel := []
  /-- CLI_RECCLK: eight lanes or 0xFFFF -/
  recclk : List Nat := [0xFFFF, 0xFFFF, 0xFFFF, 0xFFFF, 0xFFFF, 0xFFFF, 0xFFFF, 0xFFFF]
  /-- what each port or link sends, by first lane of the group: its last cell or frame -/
  lastOut : Tab ClientOut := []
  deriving DecidableEq, Repr

end Sys2Proof.Machine
end

