-- ==== Sys2Proof/Machine/State/Defects.lean ====
section
/-! DEFINITION. State of defects and performance bins (chapter 6). -/

namespace Sys2Proof.Machine

/-- Integration of one defect of one entity (R195, R196). -/
structure Defect where
  setTime : Nat := 2500
  clearTime : Nat := 10000
  /-- consecutive set and clear samples -/
  sets : Nat := 0
  clears : Nat := 0
  declared : Bool := false
  reported : Bool := false
  /-- the raw defect was set at some time since the last sample -/
  seen : Bool := false
  declares : Nat := 0
  deriving DecidableEq, Repr

/-- A closed second that waits for its availability (R204): near and far class, blocks. -/
structure Second where
  /-- a second in which the entity was disabled for a part is not counted (R203) -/
  counted : Bool := true
  es : Bool
  ses : Bool
  bbe : Nat
  feEs : Bool
  feSes : Bool
  feBbe : Nat
  /-- the bin it fell in: 0 the current, n the n-th previous; 15-minute, 24-hour -/
  old15 : Nat := 0
  old24 : Nat := 0
  deriving DecidableEq, Repr

/-- A performance bin (R206, R214). -/
structure Bin where
  valid : Bool := false
  suspect : Bool := false
  skipped : Bool := false
  incomplete : Bool := false
  partialBin : Bool := false
  start : Nat := 0
  elapsed : Nat := 0
  es : Nat := 0
  ses : Nat := 0
  bbe : Nat := 0
  uas : Nat := 0
  feEs : Nat := 0
  feSes : Nat := 0
  feBbe : Nat := 0
  feUas : Nat := 0
  /-- the four event counts of R214 -/
  events : List Nat := [0, 0, 0, 0]
  /-- codewords cleared, for BER_MEAN -/
  cleared : Nat := 0
  /-- lowest and highest interval BER as fractions -/
  berMin : Option (Nat × Nat) := none
  berMax : Option (Nat × Nat) := none
  deriving DecidableEq, Repr

/-- An entity: a coach or a tributary queue. -/
structure Entity where
  defects : Tab Defect := []
  timActDis : Bool := false
  sdThreshold : Int := -160
  sdM : Nat := 10
  sfM : Nat := 2
  sfRatio : Nat := 30
  sd : Bool := false
  sf : Bool := false
  /-- intervals in a row that speak against the present SD, SF -/
  sdRun : Nat := 0
  sfRun : Nat := 0
  /-- delivered frames and errored blocks of the interval -/
  ivFrames : Nat := 0
  ivErrored : Nat := 0
  /-- of the second: blocks, errored blocks, far-end errored blocks, defect seen, far-end defect seen, disabled for a part -/
  blocks : Nat := 0
  errored : Nat := 0
  feBlocks : Nat := 0
  feErrored : Nat := 0
  defectSeen : Bool := false
  feSeen : Bool := false
  absent : Bool := true
  /-- availability, near and far: unavailable, and consecutive seconds that speak against it -/
  unavail : Bool := false
  feUnavail : Bool := false
  /-- seconds not yet final, newest first (R207) -/
  pending : List Second := []
  lastChange : Nat := 0
  cur15 : Bin := {}
  cur24 : Bin := {}
  prev15 : List Bin := []
  prev24 : Bin := {}
  deriving DecidableEq, Repr

/-- Defects and bins of all entities. -/
structure Defects where
  coaches : Tab Entity := []
  queues : Tab Entity := []
  dayStart : Nat := 0
  dayStartNext : Nat := 0
  /-- firmware has cleared the bin store during bring-up (R209) -/
  cleared : Bool := false
  /-- DEVTIME of the last sample (ms), of the last second ended (s) and of the last 15-minute boundary: what each tick has still to do -/
  sampledMs : Nat := 0
  endedSec : Nat := 0
  rolledQuarter : Nat := 0
  deriving DecidableEq, Repr

end Sys2Proof.Machine
end

