-- ==== Sys2Proof/Machine/State/Events.lean ====
section
/-! DEFINITION. State of the event concentrator (chapter 16) and of the cause registers of every chapter. -/

namespace Sys2Proof.Machine

/-- One entry of the MSI-X table, and the function's MSI-X state (R436, R476). PRESUMED: the layout, the reset values and what they do are
those of PCI Express, which R476 names: disabled at reset, each vector masked. -/
structure MsixEntry where
  address : BitVec 64 := 0
  data : Word := 0
  masked : Bool := true
  deriving DecidableEq, Repr
structure Msix where
  enable : Bool := false
  functionMask : Bool := false
  table : Tab MsixEntry := []
  /-- pending-bit array: vectors whose message a mask holds -/
  pending : BitVec 64 := 0
  deriving DecidableEq, Repr

/-- The event concentrator (R466 to R482). -/
structure Concentrator where
  /-- EC_SRC_CFG s; reset TARGET 4, FALLBACK 4 (R481) -/
  srcCfg : Tab Word := []
  pend : BitVec 2048 := 0
  unack : BitVec 64 := 0
  /-- EC_MOD t; reset MOD_COUNT 1, MOD_TIMER 0, URGENT_LEVEL 12 -/
  modr : Tab Word := []
  /-- priority claimStacks of MC0 to MC3, top first: (source, priority at the push) -/
  claimStacks : Tab (List (Nat × Nat)) := []
  faults : Tab Nat := []
  coreWait : BitVec 4 := 0
  corePdWait : BitVec 4 := 0
  /-- core x was woken from power-down wait under SLEEP_ROUTE 1 and has not claimed since (R474, R475) -/
  woken : BitVec 4 := 0
  /-- core x is signalled (R469) -/
  signalled : BitVec 4 := 0
  /-- core x has started a trap entry that has not committed: the context that it interrupted stays unrestored (R469, R473) -/
  trapEntry : BitVec 4 := 0
  /-- `elapsedNs` at the last claim of target t, which restarts MOD_TIMER (R475) -/
  claimAt : Tab (Option Nat) := []
  msix : Msix := {}
  /-- the MSI-X messages last sent, in order: vector, address, data (R476) -/
  messages : List (Nat × BitVec 64 × Word) := []
  deriving DecidableEq, Repr

/-- EC_SRC_CFG at reset: TARGET 4 and FALLBACK 4 (R481). -/
def srcCfgReset (_ : Nat) : Word := 0x240
/-- EC_MOD at reset: MOD_COUNT 1, URGENT_LEVEL 12 (R481). -/
def modReset (_ : Nat) : Word := 0x0C000001

/-- The EVENT_CAUSE registers of the chapters, by object. -/
inductive CauseReg
  | engTx (n : Nat) | engRx (n : Nat) | coachRx (c : Nat) | poolCoach (c : Nat) | pool | frameCoach (c : Nat)
  | defectCoach (c : Nat) | defectQueue (q : Nat) | swap (n : Nat) | queue (q : Nat) | lane (l : Nat)
  | cipherCoach (c : Nat) | job | vault | agree (c : Nat) | twin (w : Nat) | ixtasEng (n : Nat) | partner (c : Nat)
  | timing | log (g : Nat) | memory | link (l : Nat) | power | cal (n : Nat)
  deriving DecidableEq, Repr

/-- The number of a cause register in the table of causes. -/
def CauseReg.key : CauseReg → Nat
  | .engTx n => n | .engRx n => 0x10 + n | .cal n => 0x20 + n | .swap n => 0x30 + n | .ixtasEng n => 0x40 + n
  | .pool => 0x50 | .job => 0x51 | .vault => 0x52 | .timing => 0x54 | .memory => 0x55 | .power => 0x56
  | .log g => 0x58 + g | .link l => 0x60 + l | .lane l => 0x100 + l | .twin w => 0x200 + w
  | .coachRx c => 0x1000 + c | .poolCoach c => 0x1100 + c | .frameCoach c => 0x1200 + c | .defectCoach c => 0x1300 + c
  | .cipherCoach c => 0x1400 + c | .agree c => 0x1500 + c | .partner c => 0x1600 + c
  | .queue q => 0x2000 + q | .defectQueue q => 0x3000 + q

end Sys2Proof.Machine
end

