-- ==== Sys2Proof/Machine/State/Ixtas.lean ====
section
/-! DEFINITION. State of the Ixtas supervisory channel (chapter 12). -/

namespace Sys2Proof.Machine

/-- A context of a branch (R379, R380): idle, a preamble with its correlation, a reception with its QUALITY. -/
inductive Hold | idle | preamble (corr : Nat) | reception (quality : Nat)
  deriving DecidableEq, Repr

/-- One of the 64 branches of an engine. -/
structure BranchState where
  primary : Hold := .idle
  challenger : Hold := .idle
  deriving DecidableEq, Repr

/-- What waits for a tone (R376): a packet of priority level 2 to 5 with its class, header and payload as they go on air, or at
level 0 a wake pattern with its repetitions (R381); whether the airtime brake has deferred it. -/
structure Outgoing where
  level : Nat
  cls : Nat
  bytes : List Byte
  wake : Nat := 0
  deferred : Bool := false
  deriving DecidableEq, Repr

/-- One tone of an engine's transmitter. -/
structure ToneTx where
  /-- waiting packets, oldest first -/
  waiting : List Outgoing := []
  /-- PSEQ of the next packet -/
  seq : Nat := 0
  /-- airtime of the last second, newest first: start and end, DEVTIME ns -/
  air : List (Nat × Nat) := []
  /-- the packet or heartbeat word last put on air -/
  last : List Byte := []
  /-- what it put on air: the offsets from the tone centre, Hz per symbol, and the depth, 0.1 % (R367, R369) -/
  symbols : List Int := []
  depth : Nat := 0
  deriving DecidableEq, Repr

/-- The Ixtas side of an engine (R389, R391). -/
structure IxtasEngine where
  rx : Bool := false
  tx : Bool := false
  agc : Bool := false
  /-- in force (R336, R367) -/
  depth : Nat := 10
  tones : Nat := 2
  capped : Bool := false
  gain : Nat := 24
  threshold : Nat := 160
  tol : Nat := 2
  node : Nat := 0
  sync : Word := 0x3A9CE15B
  /-- MSG_ID of the next fragmented message -/
  ident : Nat := 0
  /-- the gain at which the AGC stands frozen, 0.5 dB (R378) -/
  agcGain : Nat := 24
  deriving DecidableEq, Repr

/-- IXTAS_COACH_CONFIG (R390). -/
structure IxtasCoach where
  txClass : Nat := 4
  hbClass : Nat := 3
  period : Nat := 10
  autoVersion : Bool := true
  expSet : Bool := false
  text : List Byte := List.replicate 32 0
  expected : List Byte := List.replicate 32 0
  deriving DecidableEq, Repr

/-- PARTNER_STATE (R392). -/
inductive PartnerState | notHeard | heard | known | lost
  deriving DecidableEq, Repr

/-- The partner of a coach (R383 to R385, R392). -/
structure Partner where
  state : PartnerState := .notHeard
  ixtas : Nat := 0
  frame : Nat := 0
  cls : Nat := 3
  /-- place in the cycle of R384 -/
  cycle : Nat := 0
  cn0 : Nat := 0
  cn0Reported : Nat := 0
  lastHeard : Nat := 0
  fingerprint : BitVec 384 := 0
  coach : Nat := 0
  node : Nat := 0
  traceTag : Option Nat := none
  traceText : List Byte := List.replicate 32 0
  traceDiffers : Bool := false
  /-- the last CAPABILITY received, and the last sent -/
  capability : List Byte := []
  sent : List Byte := []
  /-- heartbeat word expected from the partner (R375) -/
  hbWord : Option Word := none
  /-- handles of the Ixtas protection keys, transmit and receive, and the last INVOCATION accepted (R374) -/
  keyTx : Option Nat := none
  keyRx : Option Nat := none
  lastInv : Option Nat := none
  /-- a HELLO has been sent since reset -/
  helloSent : Bool := false
  deriving DecidableEq, Repr

/-- A received packet for firmware: engine, tone, header and payload, C/N0 measured, DEVTIME ns. -/
structure Received where
  engine : Nat
  tone : Nat
  bytes : List Byte
  cn0 : Nat
  at_ : Nat
  deriving DecidableEq, Repr

/-- A message, whole and in clear. -/
structure Message where
  engine : Nat
  coach : Nat
  kind : Nat
  source : Nat
  dest : Nat
  prot : Bool
  body : List Byte
  at_ : Nat
  /-- MSG_ID of a message that came in fragments (R373, R386) -/
  ident : Option Nat := none
  deriving DecidableEq, Repr

/-- A message being reassembled (R373): its first fragment's fields, MSG_ID, COUNT, the pieces by INDEX. -/
structure Assembly where
  head : Message
  ident : Nat
  count : Nat
  pieces : Tab (Option (List Byte))
  deriving DecidableEq, Repr

/-- The Ixtas channel of the device. -/
structure Ixtas where
  engines : Tab IxtasEngine := []
  coaches : Tab IxtasCoach := []
  partners : Tab Partner := []
  /-- branch number 64 × engine + 4 × tone + class -/
  branches : Tab BranchState := []
  /-- tone 16 × engine + tone -/
  tones : Tab ToneTx := []
  assemblies : List Assembly := []
  /-- firmware receive ring, at most 256, oldest first -/
  ring : List Received := []
  /-- whole messages that firmware has not acted on, oldest first -/
  inbox : List Message := []
  /-- host messages that have passed their checks and are on the way to the host queue -/
  hostIn : List Message := []
  /-- host receive queue, at most 64, oldest first -/
  hostQueue : List Message := []
  deriving DecidableEq, Repr

end Sys2Proof.Machine
end

