-- ==== Sys2Proof/Machine/State/Measure.lean ====
section
/-! DEFINITION. State of counters, snapshots, telemetry and calibration (chapter 17). -/

namespace Sys2Proof.Machine

/-- A tally with its latched sums and tracker (R498, R500). -/
structure Tally where
  count : Nat := 0
  sum : Int := 0
  sumsq : Nat := 0
  latchedSum : Int := 0
  latchedSq : Nat := 0
  min : Int := 32767
  max : Int := -32768
  deriving DecidableEq, Repr

/-- A captured snapshot: header of R492, counts, flags of R490, tallies of page 3. -/
structure Snapshot where
  seq : Nat := 0
  time : Nat := 0
  triggers : BitVec 3 := 0
  frozen : Bool := false
  timeValid : Bool := false
  timeCoarse : Bool := false
  dropped : Nat := 0
  staleBlocks : BitVec 64 := 0
  counts : Tab Nat := []
  /-- counts restarted since the previous published snapshot -/
  restarted : List Nat := []
  allRestarted : Bool := false
  tallies : Tab Tally := []
  deriving DecidableEq, Repr

/-- A sequencer row: ROW_A and ROW_B (R496, R500). -/
structure SeqRow where
  channel : Nat
  tally : Nat
  repeatM1 : Nat
  delay : Nat
  deriving DecidableEq, Repr

/-- The reset contents of the sequencer table (R497). -/
def seqRowReset (n : Nat) : SeqRow :=
  if n < 22 then { channel := n, tally := n, repeatM1 := 15, delay := 4 }
  else if n < 30 then { channel := n + 6, tally := n, repeatM1 := 15, delay := 4 }
  else if n < 32 then { channel := n + 7, tally := n, repeatM1 := 15, delay := 4 }
  else { channel := 39, tally := 31, repeatM1 := 0, delay := 0 }

/-- CAL_STATUS.STATE (R505). -/
inductive CalState | idle | pending | deferred | running
  deriving DecidableEq, Repr

/-- Calibration of one engine (R501 to R506). -/
structure Calibration where
  auto : Bool := true
  tally : Nat
  threshold : Nat := 30
  state : CalState := .idle
  /-- a trigger during a run makes one further run pending (R502) -/
  again : Nat := 0
  lastCause : Nat := 0
  /-- cause of the pending run -/
  pendingCause : Nat := 0
  /-- `elapsedNs` at a trigger that came while a coach of the engine was acquiring: the run waits (R86) -/
  waitFrom : Option Nat := none
  converged : Bool := false
  dacSkipped : Bool := false
  tempLast : Int := 0
  tempNow : Int := 0
  runs : Nat := 0
  lastDone : Nat := 0
  lastDuration : Nat := 0
  /-- values estimated by the last run: number of the free draw; none before a run or after a restore -/
  draw : Option Nat := none
  /-- bytes of a restored record (R506); unlisted bytes are 0 -/
  record : Tab Byte := []
  /-- `elapsedNs` at the start of the run -/
  startAt : Nat := 0
  /-- a receive enable has triggered INITIAL or results were restored (R502) -/
  initialDone : Bool := false
  deriving DecidableEq, Repr

/-- Calibration of engine n at reset: CAL_TALLY n (R505). -/
def calReset (n : Nat) : Calibration := { tally := n }

/-- Counters, snapshots and telemetry. -/
structure Measure where
  /-- every 48-bit count, by number (page × 512 + entry of R491; queue counts from 65,536) -/
  counts : Tab Nat := []
  /-- event and entity selects of block counter 8 b + k (R485) -/
  selects : Tab (Nat × Nat) := []
  /-- counts restarted since the last snapshot tick, and whether every count has -/
  restarted : List Nat := []
  allRestarted : Bool := false
  freezeReq : Bool := false
  frozen : Bool := false
  /-- scheduled changes of counting, in the order of their writes: (tick, new value) (R486) -/
  freezeAt : List (Nat × Bool) := []
  /-- the snapshot tick of the merged triggers seen (R487) -/
  snapAt : Option Nat := none
  triggers : BitVec 3 := 0
  /-- the latched snapshot not yet published (R488) -/
  captured : Option Snapshot := none
  published : Snapshot := {}
  dropped : Nat := 0
  snapPeriod : Nat := 1000
  /-- multiples of SNAP_PERIOD already taken (R487) -/
  periodsTaken : Nat := 0
  snapUser : Tab Word := []
  seqRows : Tab SeqRow := []
  tallies : Tab Tally := []
  run : Bool := true
  seqLen : Nat := 32
  /-- SEQ_LEN in force until the next return to row 0 (R496) -/
  seqLenNow : Nat := 32
  row : Nat := 0
  /-- `elapsedNs` at the start of the row -/
  rowAt : Nat := 0
  /-- an urgent conversion in progress: `elapsedNs` at its end, its tally, its sample (R499) -/
  urgent : Option (Nat × Nat × BitVec 16) := none
  urgentChannel : Nat := 0
  urgentTally : Nat := 0
  urgentDropped : Bool := false
  urgentDone : Bool := false
  urgentDrops : Nat := 0
  deriving DecidableEq, Repr

/-- More of telemetry and calibration. -/
structure Bench where
  /-- a row written while in execution: its old contents complete (R496) -/
  rowHeld : Option SeqRow := none
  /-- TEL_BIAS_MUX m; reset 12 m (R500) -/
  biasMux : Tab Nat := []
  cal : Tab Calibration := []
  /-- pending runs in trigger order (R503) -/
  calOrder : List Nat := []
  /-- samples of each tally in the present 100 ms window: (count, sum) (R502) -/
  window : Tab (Nat × Int) := []
  /-- multiples of 100 ms of DEVTIME evaluated (R502) -/
  evaluated : Nat := 0
  deriving DecidableEq, Repr

/-- Counter k of every block selects event k with ENTITY 0xFFFF at reset (R485). -/
def selectReset (i : Nat) : Nat × Nat := (i % 8, 0xFFFF)

end Sys2Proof.Machine
end

