-- ==== Sys2Proof/Machine/State/Memory.lean ====
section
/-! DEFINITION. State of memory integrity (chapter 14). -/

namespace Sys2Proof.Machine

/-- An error record (R431, R434): REGION, CONSUMER, SYNDROME, SOURCE, word address, DEVTIME ns. -/
structure ErrorRecord where
  region : Nat
  consumer : Nat
  syndrome : Nat
  source : Nat
  addr : Nat
  time : Nat
  deriving DecidableEq, Repr

/-- One group of error logs (R431). -/
structure LogGroup where
  first : Option ErrorRecord := none
  second : Option ErrorRecord := none
  overflow : Nat := 0
  lastAddr : Nat := 0
  /-- DEVTIME of the last OVERFLOW raise, ms (R431) -/
  overflowMs : Option Nat := none
  ce : Nat := 0
  /-- corrected reads of one second of DEVTIME: the second and their number (R432) -/
  ceSecond : Nat := 0
  ceIn : Nat := 0
  deriving DecidableEq, Repr

/-- DEV_MODE (R429). -/
inductive DevMode | startUp | service | test | recovery
  deriving DecidableEq, Repr

/-- Memory integrity (R418 to R435). -/
structure MemState where
  /-- FW_STATUS.STATE has read RUNNING since device reset (R429) -/
  everRan : Bool := false
  flipTarget : Nat := 0
  flipArmed : Bool := false
  flipIgnored : Bool := false
  flipMask : BitVec 72 := 0
  fillMap : BitVec 64 := 0
  /-- the fill running: the next GiB and how many remain, and when the last one was written, ns of elapsed time (R423) -/
  fill : Option (Nat × Nat) := none
  fillAt : Nat := 0
  ceThreshold : Nat := 1000
  group0 : LogGroup := {}
  group1 : LogGroup := {}
  /-- the test words that have been written: region (8 + stack for HBM) × 64 + word (R430) -/
  testWords : Tab (Option (BitVec 72)) := []
  /-- how often the contents of the SRAM and of the HBM have been lost: the model's own, which makes arbitrary contents new ones (R422) -/
  sramLosses : Nat := 0
  hbmLosses : Nat := 0
  sramHours : Nat := 24
  hbmDays : Nat := 7
  sramPasses : Nat := 0
  hbmPasses : Nat := 0
  quiet : Nat := 0
  /-- the ends of the last passes, ns of elapsed time, moved on by the time in which the scrubber paused -/
  sramAt : Nat := 0
  hbmAt : Nat := 0
  /-- halted DMA channels; a channel keeps its descriptor position and the byte offset of the failing word (R426) -/
  halted : BitVec 16 := 0
  dmaAt : Tab (Nat × Nat) := []
  /-- cores with a fetch trap active, with a data trap active, and with a load error held until the active trap's return (R424, R425) -/
  fetchTraps : BitVec 16 := 0
  dataTraps : BitVec 16 := 0
  heldTraps : BitVec 16 := 0
  hostDma : BitVec 16 := 0
  /-- DEVTIME seconds of the last CE_RATE of each group -/
  ceRateAt : Tab (Option Nat) := []
  deriving DecidableEq, Repr

end Sys2Proof.Machine
end

