-- ==== Sys2Proof/Machine/State/Power.lean ====
section
/-! DEFINITION. State of power, surge, resets and pins (chapters 18, 19). -/

namespace Sys2Proof.Machine

/-- PWR_STATUS.STATE (R528), and OFF (R508). -/
inductive PwrState | run | idle | sleep | deepSleep | entering | leaving | off
  deriving DecidableEq, Repr

/-- SURGE_STATE (R138). -/
inductive SurgeState | none | requested | granted | revoked
  deriving DecidableEq, Repr

/-- Power states, supplies and surge. -/
structure Power where
  state : PwrState := .run
  stage : Nat := 0
  tripLatched : Bool := false
  refuser : Nat := 0xFF
  wakeCause : Nat := 0xFF
  wakeEn : BitVec 6 := 3
  engineMask : BitVec 16 := 0xFFFF
  wakeTimer : Nat := 0
  retDepot : BitVec 64 := 0
  connRetain : Bool := false
  mgtPoint : Nat := 2
  /-- a raised voltage of VPOOL and of VMGT that settles: the new point, and `elapsedNs` at the command (R523) -/
  poolRise : Option (Nat × Nat) := none
  mgtRise : Option (Nat × Nat) := none
  /-- a VMGT point requested during a transition -/
  mgtNext : Option Nat := none
  surge : SurgeState := .none
  /-- surge credit in ms (R525), and fortieths of a millisecond below it: what credit gains in 100 µs -/
  credit : Nat := 20000
  creditPart : Nat := 0
  exhausted : Bool := false
  hot : Bool := false
  engineOn : BitVec 16 := 0xFFFF
  clientOn : BitVec 2 := 3
  allowIdle : Bool := true
  surgeEnable : Bool := true
  mgtMax : Nat := 2
  regrant : Nat := 2000
  deriving DecidableEq, Repr

/-- The staged entry in progress, the monitors and the pins. -/
structure Pins where
  /-- target state of a staged entry (R514) -/
  target : PwrState := .run
  force : Bool := false
  /-- mailbox whose PWR_STATE is not answered yet -/
  entryMailbox : Option Nat := none
  /-- the entry is the thermal trip's (R526) -/
  tripEntry : Bool := false
  /-- a wake event seen during entry (R517) -/
  wakeSeen : Bool := false
  /-- DEVTIME of the last THERMAL_WARN, in ns -/
  lastWarn : Option Nat := none
  /-- `elapsedNs` at the last POWER_ESTIMATE (R524) -/
  estimateAt : Option Nat := none
  /-- HOST_MUTE of each engine as it was before an entry muted it (R516) -/
  muteBefore : BitVec 16 := 0
  /-- lanes that belonged to an enabled port or link at entry (R513) -/
  lanesBefore : BitVec 128 := 0
  perstLow : Bool := true
  txmuteLow : Bool := true
  zeroizeLow : Bool := false
  testmode : Bool := false
  sleeping : Bool := false
  /-- power-domain switches in progress: engine (0) or client tile (1), index, on (R512) -/
  domainChanging : List (Nat × Nat × Bool) := []
  /-- the last power estimate at the point in force and at P3, in W (R524) -/
  estimate : Nat := 0
  estimateP3 : Nat := 0
  deriving DecidableEq, Repr

end Sys2Proof.Machine
end

