-- ==== Sys2Proof/Machine/State/Rx.lean ====
section
/-! DEFINITION. State of the receive side (chapter 3). -/

namespace Sys2Proof.Machine

/-- RX_STATE (R100, R116). -/
inductive RxState | disabled | waitLight | acqCd | acqPol | acqCarrier | warm | cwHunt | locked
  deriving DecidableEq, Repr

/-- Receive side of an engine (R84, R99, R102, R111). -/
structure EngineRx where
  enable : Bool := false
  gainManual : Bool := false
  recclk : Nat := 0xFF
  rms : Nat := 26
  gain : Nat := 0
  losThreshold : Int := -1800
  warmHold : Nat := 2000
  /-- raw LOS -/
  los : Bool := true
  /-- DEVTIME ns at which light last returned: 100 µs before raw LOS cleared -/
  lightAt : Nat := 0
  /-- RECCLK_ACTIVE -/
  recclkActive : Nat := 0xFF
  /-- automatic gain held at an end, the gain needed lying beyond it: the gain there (R84) -/
  gainEnd : Option Nat := none
  deriving DecidableEq, Repr

/-- What a coach stores when it loses its light (R100): DEVTIME ns, the dispersion it tracked, and the number of the free draw that stands for its coach
offset and equaliser state. -/
structure StoredRx where
  time : Nat
  cd : Int
  front : Nat
  deriving DecidableEq, Repr

/-- Receive side of a coach (R100 to R116). -/
structure CoachRx where
  enable : Bool := false
  slots : Nat := 0
  profile : Nat := 0
  version : Nat := 3
  seedX : Nat
  seedY : Nat
  locThreshold : Nat := 30
  state : RxState := .disabled
  /-- raw LOC -/
  loc : Bool := false
  /-- SLOTS_IN_FORCE and H_IN_FORCE -/
  slotsNow : Nat := 0
  hNow : Nat := 0
  stored : Option StoredRx := none
  /-- the free draw that stands for the coach offset and the equaliser state in use; a valid stored state loads the stored one -/
  front : Nat := 0
  /-- the second attempt of a search is running -/
  retried : Bool := false
  /-- the search window of the acquisition in progress: CD_CENTRE and CD_SPAN as it began (R91) -/
  window : Int × Nat := (0, 0)
  /-- the acquired dispersion; the second-best candidate -/
  cd : Int := 0
  second : Int := 0
  cwFail : Bool := false
  /-- the offsets of this coach and the next differ beyond the limit (R87) -/
  offsetWarn : Bool := false
  lastLock : Nat := 0
  /-- DEVTIME ns of the last entry to WAIT_LIGHT -/
  since : Nat := 0
  acqDuration : Nat := 0
  acqCount : Nat := 0
  /-- number of the free draw that holds the last measurements of a coach that left LOCKED -/
  held : Option Nat := none
  /-- and the dispersion, mean SIQ and lowest SIQ then -/
  heldCd : Int := 0
  heldSiq : Nat × Nat := (0, 0)
  /-- SIQ of the codewords delivered in the last 1 ms, with their DEVTIME ns, newest first -/
  siqs : List (Nat × Nat) := []
  /-- CW_SEQ of the next codeword delivered (R107) -/
  cwSeq : Nat := 0
  /-- a codeword was in progress when the coach left LOCKED and has not arrived, ERASED (R108) -/
  cut : Bool := false
  /-- flags of the next codeword record (R107) -/
  slip : Bool := false
  resync : Bool := false
  hChange : Bool := false
  /-- the host has written COACH_RX_CONFIG since the last capability exchange (R88) -/
  hostWrote : Bool := false
  /-- the far-end device identity learned over the Ixtas channel (R95) -/
  far : Option (BitVec 384) := none
  deriving DecidableEq, Repr

/-- Coach c at reset, with the seeds of R52. -/
def coachRxReset (c : Nat) : CoachRx := { seedX := c + 1, seedY := c + 0x4001 }

/-- RX_EQ_CONFIG of a coach (R113). -/
structure RxEq where
  mimo : Nat := 2
  nl : Nat := 0
  centre : Int := 0
  span : Nat := 0xFFFFFFFF
  spans : Nat := 1
  dispersion : Nat := 0
  deriving DecidableEq, Repr

/-- All receive sides. -/
structure Rx where
  engines : Tab EngineRx := []
  coaches : Tab CoachRx := []
  eq : Tab RxEq := []
  deriving DecidableEq, Repr

end Sys2Proof.Machine
end

