-- ==== Sys2Proof/Machine/State/Slots.lean ====
section
/-! DEFINITION. State of slots, tributary queues and the interchange (chapter 7). -/

namespace Sys2Proof.Machine

/-- A word of a receive stream: stream word number, and its value unless it is a fill word (R232, R253). -/
structure RxWord where
  no : Nat
  value : Option QWord
  deriving DecidableEq, Repr

/-- A run that waits for the words before it (R233): OFFSET, words, DEVTIME ns of its arrival. -/
structure Run where
  offset : Nat
  words : List (Option QWord)
  at_ : Nat
  deriving DecidableEq, Repr

/-- QUEUE_CONFIG of one direction (R241). -/
structure QueueCfg where
  spillEnable : Bool := false
  egressLine : Bool := false
  pfc : Bool := false
  pages : Nat := 0
  priority : Nat := 0
  reasmWait : Nat := 4
  spillOn : Nat := 0
  xon : Nat := 0
  xoff : Nat := 0
  max : Nat := 0
  quanta : Nat := 0xFFFF
  deriving DecidableEq, Repr

/-- A transmit queue (R221, R237). -/
structure TxQueue where
  cfg : QueueCfg := {}
  depot : List QWord := []
  spill : List QWord := []
  /-- words in the depot behind spilled ones, that came when the queue no longer spilled (R244) -/
  late : List QWord := []
  /-- words cut for frames not yet sent, in order (R221) -/
  cut : List QWord := []
  /-- delineation units cut or held, oldest first: words not yet sent, and whether all its words are -/
  units : List (Nat × Bool) := []
  /-- stream word number of the next word sent -/
  next : Nat := 0
  backpressure : Bool := false
  /-- µs with back-pressure asserted, and DEVTIME ns of the last assertion -/
  bpTime : Nat := 0
  bpSince : Nat := 0
  /-- kept over a sleep, and its coaches do not yet carry keys and frames again (R520) -/
  resumed : Bool := false
  deriving DecidableEq, Repr

/-- A receive queue with its reassembly (R232, R233, R238). -/
structure RxQueue where
  cfg : QueueCfg := {}
  depot : List RxWord := []
  spill : List RxWord := []
  late : List RxWord := []
  /-- words cut for groomed legs of frames not yet sent, in order (R221, R234) -/
  groomCut : List RxWord := []
  backpressure : Bool := false
  bpTime : Nat := 0
  bpSince : Nat := 0
  /-- expected offset E; none: the next run sets it -/
  expected : Option Nat := none
  runs : List Run := []
  /-- words still to come of the delineation unit being stored, and whether it is being discarded (R237) -/
  unitLeft : Nat := 0
  dropping : Bool := false
  /-- FILL_KIND of the last leg frame -/
  fillKind : Nat := 0
  /-- DEVTIME ns until which a PAUSE or PFC frame of the client halts egress (R253) -/
  haltUntil : Nat := 0
  /-- an Ethernet egress hunts for a descriptor (R254) -/
  hunting : Bool := true
  /-- data reached the egress as fill in the present block (R202) -/
  errored : Bool := false
  /-- stream word number the groomed stream gives its next word (R234) -/
  groomNext : Nat := 0
  deriving DecidableEq, Repr

/-- A transmit swap armed on an engine (R227). -/
structure TxSwap where
  time : Nat
  mask : BitVec 16
  /-- coach and its swap frame -/
  frames : List (Nat × Nat)
  switched : BitVec 16 := 0
  /-- lit coaches whose frames did not run at the arming: their swap frame is fixed at their first frame boundary -/
  waits : BitVec 16 := 0
  /-- a masked coach of the swap, on any of its engines, has reached its swap frame (R229) -/
  late : Bool := false
  /-- transmit slots that tributaries have gained so far by the swap, and by the change of slot count that goes with it (R239) -/
  moved : Tab Int := []
  deriving DecidableEq, Repr

/-- The swap state of an engine (R245). -/
structure EngineSwap where
  armed : Option TxSwap := none
  last : Nat := 0
  lastFrames : List (Nat × Nat) := []
  done : BitVec 16 := 0
  /-- coaches that stayed unlit through the last completed swap: they switch when next lit (R227) -/
  owed : BitVec 16 := 0
  /-- the page with number 1 is the active one -/
  active1 : Bool := false
  deriving DecidableEq, Repr

/-- A receive swap of a coach (R231). -/
structure CoachSwap where
  armed : Option Nat := none
  done : Bool := false
  /-- receive page in force -/
  rxPage1 : Bool := false
  /-- transmit page the coach uses -/
  txPage1 : Bool := false
  deriving DecidableEq, Repr

/-- A delivered frame at the de-mapper: count, slot count in force, page, header, segments, legs not yet taken. -/
structure DemapFrame where
  fc : Nat
  slots : Nat
  page1 : Bool
  profile : Nat
  segments : List SegmentOut := []
  /-- tributary and slots of the legs still to be taken -/
  todo : List (Nat × List Nat)
  resync : Bool := false
  /-- the receive CIPHER_MODE of the frame -/
  mode : Bool := false
  deriving DecidableEq, Repr

/-- Slots, queues and the interchange. -/
structure Slots where
  /-- connection memory and receive map: pages 0 and 1, entry 40 c + j -/
  txPage0 : Tab Word := []
  txPage1 : Tab Word := []
  rxPage0 : Tab Word := []
  rxPage1 : Tab Word := []
  engines : Tab EngineSwap := []
  coaches : Tab CoachSwap := []
  tx : Tab TxQueue := []
  rx : Tab RxQueue := []
  spillEnable : Bool := false
  /-- SPILL_BASE and SPILL_SIZE in GiB -/
  spillRegion : Option (Nat × Nat) := none
  /-- delivered frames of a coach at the de-mapper, oldest first -/
  demap : Tab (List DemapFrame) := []
  deriving DecidableEq, Repr

end Sys2Proof.Machine
end

