-- ==== Sys2Proof/Machine/State/Timing.lean ====
section
/-! DEFINITION. State of the timing block and DEVTIME (chapter 13, R23 to R27). -/

namespace Sys2Proof.Machine

/-- QSTATE (R399, R415). -/
inductive QState | disabled | lost | disqualified | wait | qualified
  deriving DecidableEq, Repr

/-- Timing state (R405, R406). -/
inductive TState | freerun | acquire | locked | holdover | steered
  deriving DecidableEq, Repr

/-- One reference: configuration and monitors (R396 to R404, R416). -/
structure RefState where
  rank : Nat := 7
  nominal : Nat := 10000000
  soft : Nat := 4000
  hard : Nat := 9200
  hyst : Nat := 1000
  driftLimit : Nat := 100
  driftCount : Nat := 8
  requal : Nat := 10
  q : QState := .disabled
  softWarn : Bool := false
  dqCause : Nat := 0
  /-- the last offset measured, ppb -/
  offset : Int := 0
  /-- one-second offsets since history restarted, newest first, at most 32 -/
  history : List Int := []
  drift : Option Int := none
  driftOver : Nat := 0
  /-- arbiter of the disagreement that disqualified it (R404) -/
  arbiter : Option Nat := none
  /-- since when the conditions of requalification have held, ns of elapsed time (R399) -/
  okSince : Option Nat := none
  deriving DecidableEq, Repr

/-- DEVTIME (R23 to R27, R411). -/
structure Clock where
  /-- DEVTIME in units of 2⁻⁴⁸ ns -/
  frac : Nat := 0
  valid : Bool := false
  coarse : Bool := false
  latchHi : Word := 0
  latchFrac : BitVec 18 := 0
  /-- phase slew in progress: remaining ns × 2⁴⁸ with its sign, rate in ns per second (R412) -/
  slew : Int := 0
  slewRate : Nat := 10000
  /-- DEVTIME with every step, set and slew left out (R413), 2⁻⁴⁸ ns -/
  plain : Nat := 0
  /-- recorded at entry to SLEEP or DEEP SLEEP (R26) -/
  recorded : Nat := 0
  deriving DecidableEq, Repr

/-- An adjustment waiting for a PPSIN edge (R412). -/
structure PpsAdjust where
  mailbox : Nat
  mode : Nat
  value : Int
  rate : Nat
  /-- when it began to wait, ns of elapsed time -/
  since : Nat
  deriving DecidableEq, Repr

/-- The timing block (R401 to R416). -/
structure Timing where
  state : TState := .freerun
  activeRef : Nat := 0x1F
  loopOpen : Bool := false
  /-- STEER_FREQ.TARGET, 0.001 ppb -/
  target : Int := 0
  applied : Int := 0
  /-- part of the next 0.001 ppb of a frequency change, in 10⁻⁹ of it (R407, R410) -/
  slewPart : Nat := 0
  holdoverFreq : Int := 0
  steerErr : Bool := false
  steerSlew : Nat := 100
  steerLock : Bool := false
  steerStale : Bool := false
  /-- the last target written or entry to STEERED, ns of elapsed time -/
  targetAt : Nat := 0
  ppsOffset : Int := 0
  ppsValid : Bool := false
  /-- plain DEVTIME of the last PPSIN edge (R413) -/
  lastEdge : Option Nat := none
  /-- plain DEVTIME at which PPS_ENABLE was last set -/
  ppsFrom : Nat := 0
  refs : Tab RefState := []
  /-- ring of the last 1,024 seconds spent in LOCKED: (second, mean applied frequency) (R408) -/
  ring : List (Nat × Int) := []
  /-- sum of the applied frequency over the cycles of the present second in LOCKED, and their number (R408) -/
  lockSum : Int := 0
  lockCycles : Nat := 0
  /-- pairs of QUALIFIED references of equal rank whose offsets differ by more than DISAGREE_LIMIT, and since when (R404) -/
  differing : List (Nat × Nat × Nat) := []
  lastChange : Nat := 0
  waiting : List PpsAdjust := []
  deriving DecidableEq, Repr

/-- TIME_CONFIG (R416). -/
structure TimeConfig where
  bandwidth : Nat := 1
  ppsEnable : Bool := false
  squelch : Bool := false
  guard : Nat := 60
  window : Nat := 300
  disagree : Nat := 2000
  out0 : Nat × Nat := (0, 0)
  out1 : Nat × Nat := (0, 0)
  steerTimeout : Nat := 10
  /-- unresolved disagreements: lower reference, higher reference, since when they agree, in ns of elapsed time (R404) -/
  pairs : List (Nat × Nat × Option Nat) := []
  deriving DecidableEq, Repr

end Sys2Proof.Machine
end

