-- ==== Sys2Proof/Machine/State/Trust.lean ====
section
/-! DEFINITION. State of keys, trust and brakes (chapter 10). -/

namespace Sys2Proof.Machine

/-- The brakes (R330 to R337). -/
structure Brakes where
  lock : BitVec 7 := 0
  last : Nat := 0
  writeErr : Bool := false
  refusals : Nat := 0
  ceilingM1 : Nat := 0xFFFFFFFF
  minSwapMs : Nat := 1
  hostFreeze : Bool := false
  /-- ENG_BRAKE n: LAUNCH_CAP, IXTAS_AIRTIME, IXTAS_DEPTH -/
  engines : Tab (Nat × Nat × Nat) := []
  /-- BIAS_WINDOW b: LOW_MV, HIGH_MV -/
  window : Tab (Nat × Nat) := []
  /-- BIAS_SLEW b -/
  slew : Tab Nat := []
  /-- SECURE_MASK i -/
  secure : Tab Word := []
  deriving DecidableEq, Repr

/-- ENG_BRAKE at reset (R332). -/
def engBrakeReset (_ : Nat) : Nat × Nat × Nat := (48, 100, 30)
/-- BIAS_WINDOW at reset (R332). -/
def biasWindowReset (_ : Nat) : Nat × Nat := (0, 14000)

/-- One vault entry (R318). -/
structure VaultEntry where
  used : Bool := false
  generation : Nat := 0
  kind : Nat := 0
  attr : Nat := 0
  key : BitVec 256 := 0
  salt : BitVec 64 := 0
  limit : Nat := 0
  count : Nat := 0
  deriving DecidableEq, Repr

/-- KEY_POLICY of one coach (R339). -/
structure KeyPolicy where
  source : Nat := 0
  pinRequired : Bool := false
  rotate : Nat := 900
  timeout : Nat := 60
  retry : Nat := 10
  lead : Nat := 30000
  pin : BitVec 384 := 0
  deriving DecidableEq, Repr

/-- KA_STATE (R339). -/
inductive KaState | idle | initSent | respSent | confirmSent | waiting
  deriving DecidableEq, Repr

/-- Key agreement on one coach (R321 to R326, R339). -/
structure Agreement where
  state : KaState := .idle
  result : Nat := 0
  attempts : Nat := 0
  lastDone : Nat := 0
  peer : BitVec 384 := 0
  /-- the running agreement: identifier, messages of its transcript, the derived 144 bytes -/
  ident : BitVec 64 := 0
  initBody : List Byte := []
  respBody : List Byte := []
  derived : List Byte := []
  /-- a KA_INIT that waits to be answered until fewer than 16 agreements run (R326): its sender's fingerprint and its body -/
  heldInit : Option (BitVec 384 × List Byte) := none
  startFc : Nat := 0
  keyIndex : Nat := 0
  /-- DEVTIME of the start and of the last KA_CONFIRM, in ns -/
  began : Nat := 0
  confirmAt : Nat := 0
  lastConfirm : List Byte := []
  /-- MSG_ID of that KA_CONFIRM, by which a repeat is known (R386) -/
  confirmId : Option Nat := none
  lastSettle : List Byte := []
  /-- MSG_ID and identifier of the last KA_INIT taken (R386) -/
  initId : Option Nat := none
  initIdent : Nat := 0
  retryAt : Option Nat := none
  /-- vault handles of the last agreement's keys -/
  handles : List Nat := []
  /-- DEVTIME ns at which the current transmit key came into use (R326) -/
  usedSince : Nat := 0
  deriving DecidableEq, Repr

/-- An attestation report the device keeps (R317). -/
structure Report where
  ident : Nat
  bytes : List Byte
  deriving DecidableEq, Repr

/-- Vault, identity, tags, agreements (R314 to R340). -/
structure Trust where
  vault : Tab VaultEntry := []
  /-- the device wrapping key, none once erased (R319, R327) -/
  wrapping : Option (BitVec 256) := none
  identityErased : Bool
  svnFloor : BitVec 8
  zeroized : Bool := false
  /-- tag lines written since the device was supplied (R329) -/
  tagLines : Tab (Option (List Byte)) := []
  tagWrites : Tab Nat := []
  tagLocked : BitVec 64
  reports : List Report := []
  reportCount : Nat := 0
  policy : Tab KeyPolicy := []
  /-- policies that wait for the partner's next capability exchange (R339) -/
  policyNext : Tab (Option KeyPolicy) := []
  agree : Tab Agreement := []
  deriving DecidableEq, Repr

end Sys2Proof.Machine
end

