-- ==== Sys2Proof/Machine/State/Twin.lean ====
section
/-! DEFINITION. State of twin-path protection and the yard (chapter 11). -/

namespace Sys2Proof.Machine

/-- The chains and the role check of a coach (R342, R354). -/
structure CoachChain where
  headerMisses : Nat := 0
  headerPresent : Nat := 0
  headerFailed : Bool := false
  ixtasMisses : Nat := 0
  ixtasPresent : Nat := 0
  ixtasFailed : Bool := false
  role : Pair := {}
  deriving DecidableEq, Repr

/-- State of a path (R355, R363). -/
inductive PathState | disabled | waitFill | failed | realigning | inService
  deriving DecidableEq, Repr

/-- The configuration of a twin tributary (R362). -/
structure TwinCfg where
  tx : Bool := false
  rx : Bool := false
  queue : Nat := 0
  engineA : Nat := 0
  engineB : Nat := 0
  ident : Nat := 0
  maxDiff : Nat := 5000
  guard_ : Nat := 50
  deriving DecidableEq, Repr

/-- A word of the twin stream (R343, R345): a block's header, a data word that every attached path has taken and not yet sent, or one
that is still in its queue. -/
inductive TwinWord
  | header (h : QWord) | taken (w : QWord) | queued
  deriving DecidableEq, Repr

/-- The transmit side of a twin tributary (R343 to R346). -/
structure TwinTx where
  /-- twin stream from stream word number `base`, the first that an attached path has not sent; its data words that are not taken are the
  first in the queue, in order -/
  stream : List TwinWord := []
  base : Nat := 0
  /-- stream word number of the next word that a path sends; its pointer lies beyond by what its legs have cut -/
  ptrA : Nat := 0
  ptrB : Nat := 0
  detachedA : Bool := false
  detachedB : Bool := false
  /-- words that a path's legs have cut beyond its pointer for frames not yet sent (R221, R345) -/
  cutA : Nat := 0
  cutB : Nat := 0
  /-- SEQ of the next block and data words still to come of the present one -/
  seq : Nat := 0
  left : Nat := 0
  restart : Bool := true
  /-- data words still to be sent again under the new numbering -/
  recut : Nat := 0
  deriving DecidableEq, Repr

/-- A copy that the merge holds (R349, R351). -/
structure HeldCopy where
  pathB : Bool
  seq : Nat
  arrived : Nat
  due : Nat
  valid : Bool
  recut : Bool
  restart : Bool
  /-- rebases since it was held (R352) -/
  old : Nat := 0
  /-- stored in a yard slot (R349, R363) -/
  yard : Bool := false
  words : List (Option QWord)
  deriving DecidableEq, Repr

/-- One path at the merge. -/
structure TwinPath where
  state : PathState := .disabled
  /-- valid copies since recovery (R355) -/
  copies : Nat := 0
  /-- SEQ of the last copy -/
  lastSeq : Option Nat := none
  /-- reassembled words not yet cut into copies, expected offset, runs (R233) -/
  words : List (Option QWord) := []
  expected : Option Nat := none
  runs : List Run := []
  /-- a copy at least 4,096 blocks ahead of NEXT_SEQ that carried no RESTART: its SEQ, and within how many blocks RESTART may follow (R352) -/
  far : Option (Nat × Nat) := none
  deriving DecidableEq, Repr

/-- The receive side of a twin tributary (R349 to R356). -/
structure TwinRx where
  a : TwinPath := {}
  b : TwinPath := {}
  prefB : Bool := false
  /-- D of the last pairs, ns, newest first, at most 256 -/
  pairs : List Int := []
  bEarlier : Bool := false
  /-- A_USE in ns, its millionths of a nanosecond, and until when it has been slewed, in ns of elapsed time (R350) -/
  aUse : Nat := 0
  aPart : Nat := 0
  slewAt : Nat := 0
  /-- both paths have been in service together since A_USE started at 0 -/
  aligned : Bool := false
  exceeded : Bool := false
  next : Nat := 0
  held : List HeldCopy := []
  /-- no path has been IN_SERVICE since the last copy: the next one rebases (R352) -/
  rebase : Bool := true
  /-- the numberings that wait until the blocks held under the one before are released, by their first SEQ -/
  rebaseTo : List Nat := []
  /-- arrivals whose other copy has not come: SEQ, path B, DEVTIME ns -/
  arrivals : List (Nat × Bool × Nat) := []
  /-- raw YLS (R353) -/
  yls : Bool := true
  rejoin : Nat := 0
  moves : Nat := 0
  lastMove : Nat := 0
  deriving DecidableEq, Repr

/-- All twin tributaries and the yard. -/
structure Twins where
  cfg : Tab TwinCfg := []
  tx : Tab TwinTx := []
  rx : Tab TwinRx := []
  chains : Tab CoachChain := []
  /-- YARD_BASE and YARD_SIZE in GiB -/
  yard : Option (Nat × Nat) := none
  deriving DecidableEq, Repr

end Sys2Proof.Machine
end

