-- ==== Sys2Proof/Machine/State/Tx.lean ====
section
/-! DEFINITION. State of the transmit engine (chapter 2). -/

namespace Sys2Proof.Machine

/-- TX_STATE (R72, R82). -/
inductive TxState | disabled | biasAcq | carrierOnly | running | muted | laserLow | biasFail
  deriving DecidableEq, Repr

/-- State of a bias output (R82). -/
inductive BiasState | off | sweep | locking | locked | held | manual | windowLimit
  deriving DecidableEq, Repr

/-- Mode of a bias output (R69). -/
inductive BiasMode | lock | hold | manual
  deriving DecidableEq, Repr

/-- A bias output (R69 to R71). -/
structure BiasOutput where
  mode : BiasMode := .lock
  setpoint : Nat := 0
  dither : Nat := 50
  state : BiasState := .off
  /-- present value, mV -/
  mv : Nat := 0
  lockPoint : Option Nat := none
  /-- the state to resume after a mute or LASER_LOW (R71) -/
  resume : BiasState := .off
  /-- DEVTIME at which the loop last moved the output, ns -/
  movedAt : Nat := 0
  deriving DecidableEq, Repr

/-- The configuration of a coach (R77). -/
structure CoachCfg where
  slots : Nat := 0
  profile : Nat := 0
  version : Nat := 3
  power : Int := 0
  seedX : Nat
  seedY : Nat
  deriving DecidableEq, Repr

/-- Transmit side of a coach (R41, R78, R552). -/
structure CoachTx where
  cfg : CoachCfg
  /-- APPLY_MODE 0: takes effect at the next frame boundary -/
  atBoundary : Option CoachCfg := none
  /-- APPLY_MODE 1: SLOTS and COACH_POWER waiting for an armed swap (R78) -/
  pending : Option (Nat × Int) := none
  /-- the waiting change goes with the swap armed on its engine (R78) -/
  joined : Bool := false
  framesRun : Bool := false
  /-- the coach stood lit while its engine was in RUNNING, so that its frames start though the engine has left that state (R552) -/
  starts : Bool := false
  deriving DecidableEq, Repr

/-- Coach c at reset: unlit, seeds of R52. -/
def coachTxReset (c : Nat) : CoachTx := { cfg := { seedX := c + 1, seedY := c + 0x4001 } }

/-- Transmit side of an engine (R72, R76, R82). -/
structure EngineTx where
  enable : Bool := false
  hostMute : Bool := false
  rate : Nat := 0
  peak : Nat := 48
  carrier : Nat := 24
  nl : Nat := 0
  cd : Int := 0
  freq : Int := 0
  laserThreshold : Int := 600
  state : TxState := .disabled
  /-- the state held before MUTED -/
  before : TxState := .disabled
  /-- MUTE_SOURCE (R61); TXMUTE_N is low at reset (R544) -/
  mute : BitVec 4 := 1
  gateOpen : Bool := false
  /-- laser-low condition (R553): set from reset -/
  laserLow : Bool := true
  capped : Bool := false
  deriving DecidableEq, Repr

/-- Pre-emphasis of one DAC (R57, R80). DESIGN CHOICE: at reset MODE is factory, and BOOST, SKEW and TAPS are 0; the manual states no default. -/
structure Preemph where
  mode : Nat := 0
  boost : Nat := 0
  skew : Int := 0
  /-- the 31 coefficients of taps mode, as the host last wrote them -/
  taps : List Int := List.replicate 31 0
  deriving DecidableEq, Repr

/-- A hitch (R64 to R66, R79). -/
structure Hitching where
  txEnable : Bool := false
  rxEnable : Bool := false
  spacing : Int := 0
  spans : Nat := 0
  strength : Nat := 0
  dispersion : Nat := 0
  /-- engine E(2h) and E(2h+1) muted, disabled or without lit coach, as last seen (R66) -/
  idle0 : Bool := true
  idle1 : Bool := true
  /-- HITCH_RX_STATE (R95) -/
  rxState : Nat := 0
  /-- the measured walk-off, ns -/
  walkoff : Int := 0
  deriving DecidableEq, Repr

/-- All transmit engines. -/
structure Tx where
  engines : Tab EngineTx := []
  coaches : Tab CoachTx := []
  bias : Tab BiasOutput := []
  dacs : Tab Preemph := []
  hitches : Tab Hitching := []
  /-- of DAC 4 n + i: a microsecond of elapsed time, and the samples that exceeded PEAK_TARGET in it (R58) -/
  peaks : Tab (Nat × Nat) := []
  deriving DecidableEq, Repr

end Sys2Proof.Machine
end

