-- ==== Sys2Proof/Machine/State.lean ====
section
/-! DEFINITION. The state of the block as plain data: the device and the queue of waiting commands. -/

namespace Sys2Proof.Machine

/-- Everything the manual gives the device, by chapter. -/
structure Dev where
  mail : Mail := {}
  fw : Firmware
  /-- L0 to L9 (R433) -/
  links : Tab LinkState := []
  ec : Concentrator := {}
  causes : Tab Word := []
  /-- millisecond of the last raise of causes limited to one per millisecond: (cause number × 32 + bit) -/
  causeMs : Tab (Option Nat) := []
  brakes : Brakes := {}
  trust : Trust
  meas : Measure := {}
  bench : Bench := {}
  power : Power := {}
  pins : Pins := {}
  clock : Clock := {}
  time : Timing := {}
  timeCfg : TimeConfig := {}
  mem : MemState := {}
  tx : Tx := {}
  rx : Rx := {}
  pool : Pool := {}
  frames : Frames := {}
  slots : Slots := {}
  cipher : Cipher := {}
  defects : Defects := {}
  twins : Twins := {}
  clients : Clients := {}
  ixtas : Ixtas := {}
  /-- the model's own: draws of free values made so far -/
  free : Nat := 0
  deriving DecidableEq, Repr

/-- The image in the firmware bank as supplied. -/
def suppliedImage : Image := { version := Config.fwVersion, svn := Config.fwSvn, digest := Config.fwDigest }

/-- The device right after a power-on reset or device reset, before boot ROM runs (R530, R532); `strap` is SMP_ADDR[2:0]. -/
def Dev.reset : Dev :=
  { fw := { running := suppliedImage }
    trust := { wrapping := some (Config.free256 0), identityErased := Config.identityErased, svnFloor := Config.svnFloor
               tagLocked := Config.tagLocks }
    free := 1 }

/-- Why a command stops the block. -/
inductive Fault
  /-- raised by `liftIf`: an operand is no operand of any command of the manual (a flit that is not 256 bytes, …); safe -/
  | illFormed
  deriving DecidableEq, Repr

/-- Why the model has no meaning for a command. -/
inductive Refusal
  /-- raised by an arm of `exec` whose command has no meaning yet; safe -/
  | notModelled (mnemonic : String)
  /-- raised by REGISTER_WRITE and SMP_WRITE at an offset of the diagnostic windows while they are open: the manual does not give what
  they do (R439); safe -/
  | diagnosticWindow
  deriving DecidableEq, Repr

/-- The block: the commands waiting, first in first out, and the device. -/
structure State where
  pending : List Instr
  dev : Dev
  deriving DecidableEq, Repr

/-- The block right after reset: no command waits. -/
def State.reset : State := { pending := [], dev := Dev.reset }

end Sys2Proof.Machine
end

