-- ==== Sys2Proof/Machine/Ops.lean ====
section
/-! DEFINITION. The operations every chapter uses: time, free values, raising events, counters, powered-down blocks, freeze,
brake refusals, and the lifting of a device operation to a command's outcome. -/

namespace Sys2Proof.Machine

/-! ## Time -/

/-- 2⁴⁸: DEVTIME units per nanosecond (R411). -/
def unitsPerNs : Nat := 281474976710656
/-- DEVTIME in nanoseconds, modulo 2⁶⁴ (R23). -/
def nowNs (d : Dev) : Nat := d.clock.frac / unitsPerNs % 2 ^ 64
/-- Nanoseconds that have passed, whatever steps DEVTIME has taken. -/
def elapsedNs (d : Dev) : Nat := d.clock.plain / unitsPerNs
/-- DEVTIME in milliseconds. -/
def nowMs (d : Dev) : Nat := nowNs d / 1000000
/-- DEVTIME in seconds. -/
def nowSec (d : Dev) : Nat := nowNs d / 1000000000

/-! ## Free values -/

/-- Draw a fresh 64-bit free value. -/
def drawFree (d : Dev) : BitVec 64 × Dev := (Config.free64 d.free, { d with free := d.free + 1 })
/-- Draw a fresh 32-byte free value (R318). -/
def drawKey (d : Dev) : BitVec 256 × Dev := (Config.free256 d.free, { d with free := d.free + 1 })

/-! ## Powered-down blocks (R455, R508) -/

/-- The clocks that SLEEP and below stop are stopped (R508); `leaving` lasts until hardware has restarted them (R521). -/
def asleep (d : Dev) : Bool :=
  match d.power.state with
  | .sleep | .deepSleep | .off | .leaving => true
  | .run | .idle | .entering => false
/-- CK_MGT is stopped (R511). -/
def mgtStopped (d : Dev) : Bool := asleep d || d.power.state == .idle
/-- A domain is being switched off. DEDUCED: nothing is enabled in it any more, as in one that is off, so that what was unused when PWR_DOMAIN was
accepted is unused when the switch completes (R512). -/
def offOrdered (d : Dev) (kind i : Nat) : Bool := d.pins.domainChanging.contains (kind, i, false)
/-- The power domain of engine En or its clock is off (R455, R512). -/
def engineOff (d : Dev) (n : Nat) : Bool := asleep d || !d.power.engineOn.getLsbD n || offOrdered d 0 n
/-- The power domain of client tile CTm or its clock is off; stages 4 and 5 of an entry have it off (R455, R512, R514). -/
def tileOff (d : Dev) (m : Nat) : Bool :=
  asleep d || (d.power.state == .entering && decide (4 ≤ d.power.stage)) || !d.power.clientOn.getLsbD m || offOrdered d 1 m
/-- The block with this BLOCK_ID has no clock or power (R455). -/
def blockDown (d : Dev) (b : Nat) : Bool :=
  if b = 3 then mgtStopped d
  else if b = 1 || b = 2 || b = 4 || b = 5 then asleep d
  else if b = 6 then false
  else if 0x10 ≤ b && b < 0x20 then engineOff d (b - 0x10)
  else if 0x20 ≤ b && b < 0x22 then tileOff d (b - 0x20)
  else false
/-- The first powered-down block of a list. -/
def firstDown (d : Dev) : List Nat → Option Nat
  | [] => none
  | b :: t => if blockDown d b then some b else firstDown d t

/-! ## Counters (R484 to R486) -/

/-- Numbers of the 48-bit counts: page × 512 + entry (R491). -/
def keyBlock (b k : Nat) : Nat := 512 + 8 * b + k
def keyUnprot (c : Nat) : Nat := 5120 + c
def keyEngine (n i : Nat) : Nat := 1024 + 16 * n + i
def keyLane (l i : Nat) : Nat := 2048 + 16 * l + i
def keyTwin (w i : Nat) : Nat := 4096 + 8 * w + i
def keyCoach (c i : Nat) : Nat := 8192 + 32 * c + i
/-- The eight counts of R242 of a queue, `dir` 0 transmit, 1 receive (R494). -/
def keyQueue (q dir i : Nat) : Nat := 65536 + (2 * q + dir) * 8 + i

/-- A count. -/
def countOf (d : Dev) (k : Nat) : Nat := tabGet (fun _ => 0) d.meas.counts k
/-- Give a count a value. -/
def setCount (k v : Nat) (d : Dev) : Dev :=
  { d with meas := { d.meas with counts := tabPut (fun _ => 0) d.meas.counts k (v % 2 ^ 48) } }
/-- A count advances by `n`, modulo 2⁴⁸, unless counting is stopped (R484, R486). -/
def bump (k n : Nat) (d : Dev) : Dev := if d.meas.frozen then d else setCount k (countOf d k + n) d
/-- A block counter's selections name this event and entity (R485); block 0 has no entity select. -/
def selected (d : Dev) (b k e ent : Nat) : Bool :=
  let s := tabGet selectReset d.meas.selects (8 * b + k)
  s.1 == e && (b == 0 || s.2 == 0xFFFF || s.2 == ent)
/-- Event `e` of entity `ent` in counter block `b`, `n` times: every block counter that selects it advances (R484). -/
def tally (b e ent n : Nat) (d : Dev) : Dev :=
  (List.range 8).foldl (fun d k => if selected d b k e ent then bump (keyBlock b k) n d else d) d

/-- The scheduled stops and resumptions of counting whose ticks DEVTIME has reached take effect (R24, R486). -/
def applyFreeze (d : Dev) : Dev :=
  match (d.meas.freezeAt.filter (fun e => decide (e.1 ≤ nowNs d))).getLast? with
  | some (_, v) => { d with meas := { d.meas with frozen := v, freezeAt := d.meas.freezeAt.filter (fun e => decide (nowNs d < e.1)) } }
  | none => d

/-! ## Events and causes (R465, R467) -/

/-- EC_SRC_CFG of a source. -/
def srcCfg (d : Dev) (s : Nat) : Word := tabGet srcCfgReset d.ec.srcCfg s
/-- PRIORITY, TARGET, FALLBACK and VECTOR of a source (R466). -/
def srcPrio (d : Dev) (s : Nat) : Nat := fld (srcCfg d s) 0 4
def srcTarget (d : Dev) (s : Nat) : Nat := fld (srcCfg d s) 4 3
def srcFallback (d : Dev) (s : Nat) : Nat := fld (srcCfg d s) 7 3
def srcEnable (d : Dev) (s : Nat) : Bool := bit (srcCfg d s) 11
def srcVector (d : Dev) (s : Nat) : Nat := fld (srcCfg d s) 12 6

/-- Set the pending bit of a source. -/
def setPend (s : Nat) (d : Dev) : Dev := { d with ec := { d.ec with pend := d.ec.pend ||| BitVec.twoPow 2048 s } }
/-- Clear the pending bit of a source. -/
def clearPend (s : Nat) (d : Dev) : Dev := { d with ec := { d.ec with pend := d.ec.pend &&& ~~~ BitVec.twoPow 2048 s } }
/-- A hardware raise of an event source: the pending bit sets; a raise while it is set merges (R467). -/
def raise (s : Nat) (d : Dev) : Dev := tally 7 0 (srcTarget d s) 1 (setPend s d)

/-- The event source that bit `b` of a cause register raises (R82, R115, R116, R141, R187, R212, R231, R242, R277, R310,
R312, R338, R363, R386, R391, R392, R416, R433, R434, R505, R528). -/
def CauseReg.source : CauseReg → Nat → Nat
  | .engTx n, _ | .engRx n, _ | .cal n, _ | .swap n, _ => 0x100 + n
  | .coachRx c, _ | .poolCoach c, _ | .frameCoach c, _ | .defectCoach c, _ => c
  | .pool, b => if b ≤ 2 then 0x190 else 0x191
  | .defectQueue q, _ | .queue q, _ => 0x400 + q / 4
  | .lane l, _ => 0x110 + l
  | .cipherCoach c, _ => 0x1C0 + c / 16
  | .job, _ => 0x1D0
  | .vault, _ => 0x1E0
  | .agree _, _ => 0x1E1
  | .twin w, _ => 0x200 + w
  | .ixtasEng n, _ => 0x280 + n
  | .partner c, _ => 0x290 + c / 16
  | .timing, b => if 2 ≤ b && b ≤ 5 then 0x2C1 else 0x2C0
  | .log g, _ => 0x2D0 + g
  | .memory, b => if b = 0 then 0x2D2 else if b = 1 then 0x2D3 else if b ≤ 4 then 0x2D4 else if b = 5 then 0x2D5 else 0x2E0
  | .link l, _ => 0x2D6 + l
  | .power, b => if b = 0 then 0x2F0 else if b = 1 then 0x2F1 else if b ≤ 5 then 0x2F2 else if b ≤ 8 then 0x2F3
                 else if b = 9 then 0x2F4 else 0x2F5

/-- The cause bits of a register. -/
def causeOf (d : Dev) (r : CauseReg) : Word := tabGet (fun _ => 0) d.causes r.key
/-- Set a cause bit and raise its source. -/
def raiseCause (r : CauseReg) (b : Nat) (d : Dev) : Dev :=
  raise (r.source b) { d with causes := tabMod (fun _ => 0) d.causes r.key (· ||| BitVec.twoPow 32 b) }
/-- A cause raised at most once per millisecond of DEVTIME. -/
def raiseCauseMs (r : CauseReg) (b : Nat) (d : Dev) : Dev :=
  let k := r.key * 32 + b
  if tabGet (fun _ => none) d.causeMs k == some (nowMs d) then d
  else raiseCause r b { d with causeMs := tabPut (fun _ => none) d.causeMs k (some (nowMs d)) }
/-- Clear the cause bits that a status command has reported (CLEAR_CAUSE). -/
def clearCause (r : CauseReg) (clear : Bool) (d : Dev) : Dev :=
  if clear then { d with causes := tabPut (fun _ => 0) d.causes r.key 0 } else d

/-! ## Freeze and brake refusals -/

/-- The freeze brake is engaged: by a firmware restart or by the host (R31, R337). -/
def freezeOn (d : Dev) : Bool := d.fw.restartFreeze || d.brakes.hostFreeze
/-- A brake refuses a request: LAST_BRAKE, REFUSALS and event 0x1E2 (R330, R332). -/
def brakeRefuses (n : Nat) (d : Dev) : Dev :=
  raise 0x1E2 { d with brakes := { d.brakes with last := n, refusals := sat 0xFFFF (d.brakes.refusals + 1) } }
/-- ENG_BRAKE, BIAS_WINDOW and BIAS_SLEW in force (R332). -/
def launchCap (d : Dev) (n : Nat) : Nat := (tabGet engBrakeReset d.brakes.engines n).1
def ixtasAirtime (d : Dev) (n : Nat) : Nat := (tabGet engBrakeReset d.brakes.engines n).2.1
def ixtasDepth (d : Dev) (n : Nat) : Nat := (tabGet engBrakeReset d.brakes.engines n).2.2
def biasLow (d : Dev) (b : Nat) : Nat := (tabGet biasWindowReset d.brakes.window b).1
def biasHigh (d : Dev) (b : Nat) : Nat := (tabGet biasWindowReset d.brakes.window b).2
def biasSlewOf (d : Dev) (b : Nat) : Nat := tabGet (fun _ => 100) d.brakes.slew b
/-- Queue q is marked secure (R332). -/
def linkOf (d : Dev) (l : Nat) : LinkState := tabGet (fun _ => {}) d.links l
def secureQueue (d : Dev) (q : Nat) : Bool := bit (tabGet (fun _ => 0) d.brakes.secure (q / 32)) (q % 32)

/-! ## Objects of the transmit side, used across chapters -/

def engTx (d : Dev) (n : Nat) : EngineTx := tabGet (fun _ => {}) d.tx.engines n
def setEngTx (n : Nat) (e : EngineTx) (d : Dev) : Dev :=
  { d with tx := { d.tx with engines := tabPut (fun _ => {}) d.tx.engines n e } }
def coachTx (d : Dev) (c : Nat) : CoachTx := tabGet coachTxReset d.tx.coaches c
def setCoachTx (c : Nat) (x : CoachTx) (d : Dev) : Dev :=
  { d with tx := { d.tx with coaches := tabPut coachTxReset d.tx.coaches c x } }
def hitchOf (d : Dev) (h : Nat) : Hitching := tabGet (fun _ => {}) d.tx.hitches h
def setHitch (h : Nat) (x : Hitching) (d : Dev) : Dev :=
  { d with tx := { d.tx with hitches := tabPut (fun _ => {}) d.tx.hitches h x } }
/-- The engine of a coach (R3). -/
def engineOf (c : Nat) : Nat := c / 16
/-- The coaches of an engine (R3). -/
def coachesOf (n : Nat) : List Nat := (List.range 16).map (16 * n + ·)
/-- A coach is lit (R41). -/
def litCoach (d : Dev) (c : Nat) : Bool := decide (0 < (coachTx d c).cfg.slots)

/-! ## The flip mask (R430) -/

/-- The mask that an armed flip puts on the next word written to a region. -/
def flipMaskFor (region : Nat) (d : Dev) : BitVec 72 := if d.mem.flipArmed && d.mem.flipTarget == region then d.mem.flipMask else 0
/-- A word is written to a region: a flip armed on it is used (FLIP_USED). What it stores is what a read of the corrupted word delivers
(`readFlipped`); that a read finds it and counts or logs it comes as its own event (R420, R424). -/
def useFlip (region : Nat) (d : Dev) : Dev :=
  if d.mem.flipArmed && d.mem.flipTarget == region then raiseCause .memory 6 { d with mem := { d.mem with flipArmed := false } } else d

/-! ## Commands as outcomes -/

/-- A command's meaning as an operation on the device; the queue is never touched. -/
abbrev Act := Dev → Dev
/-- A command that completes with the device operation `f`. -/
def lift (f : Act) (s : State) : Host.Outcome State Fault Refusal := .next { s with dev := f s.dev }
/-- A command whose operands must be well formed: otherwise it is no command of the manual and faults. -/
def liftIf (ok : Bool) (f : Act) (s : State) : Host.Outcome State Fault Refusal :=
  if ok then lift f s else .fault .illFormed
/-- The device operation happens only where `p` holds; elsewhere the event cannot occur and nothing changes. -/
def guard (p : Bool) (f : Act) : Act := fun d => if p then f d else d

end Sys2Proof.Machine
end

