-- ==== Sys2Proof/Machine/Mailbox.lean ====
section
/-! DEFINITION. Mailboxes and the order of checks of a Virman request (R441 to R449, R33). -/

namespace Sys2Proof.Machine

/-! ## REASON codes (R75, R110, R240, R274, R307, R339, R361, R388, R416, R435, R452, R505, R529) -/

def fieldRange : Nat := 9
def brakeLimit : Nat := 10
def unknownOpcode : Nat := 53
def lengthReason : Nat := 54

/-- Refusals with BAD_ARG, BUSY, DENIED, NOT_READY, and by brake `b` (REASON BRAKE_LIMIT). -/
def badArg (r : Nat) : Verdict := { status := .badArg, reason := r }
def busy (r : Nat) : Verdict := { status := .busy, reason := r }
def denied (r : Nat) : Verdict := { status := .denied, reason := r }
def notReady (r : Nat) : Verdict := { status := .notReady, reason := r }
def braked (b : Nat) : Verdict := { status := .braked, reason := brakeLimit, brake := b }
/-- BAD_ARG with FIELD_RANGE. -/
def outOfRange : Verdict := badArg fieldRange

/-- The status code on the wire (R446). -/
def Status.code : Status → Nat
  | .ok => 0 | .busy => 1 | .badVersion => 2 | .badArg => 3 | .poweredDown => 4 | .braked => 5 | .notReady => 6
  | .denied => 7 | .timeout => 8 | .keyExhausted => 9 | .sleepRefused => 10 | .uninitialised => 11

/-! ## The window -/

def box (d : Dev) (mb : Nat) : MailboxState := tabGet (fun _ => {}) d.mail.boxes mb
def setBox (mb : Nat) (b : MailboxState) (d : Dev) : Dev :=
  { d with mail := { d.mail with boxes := tabPut (fun _ => {}) d.mail.boxes mb b } }
/-- One byte of a window: an undefined byte is a free value (R444). -/
def windowByte (b : MailboxState) (i : Nat) : Byte :=
  if b.undef.getLsbD i then Config.windowByte b.stamp i else tabGet (fun _ => 0) b.cells i
/-- A range of bytes of a window. -/
def windowBytes (b : MailboxState) (i : Nat) : Nat → List Byte
  | 0 => []
  | n + 1 => windowByte b i :: windowBytes b (i + 1) n
/-- Write one byte of a window. -/
def windowPut (b : MailboxState) (i : Nat) (v : Byte) : MailboxState :=
  { b with cells := tabPut (fun _ => 0) b.cells i v, undef := b.undef &&& ~~~ BitVec.twoPow 4096 i }
/-- A window overwritten from byte 0 by a message; the bytes beyond it are undefined. -/
def cellsFrom : Nat → List Byte → Tab Byte
  | _, [] => []
  | i, v :: t => if v = 0 then cellsFrom (i + 1) t else (i, v) :: cellsFrom (i + 1) t
def undefFrom (n : Nat) : BitVec 4096 := BitVec.allOnes 4096 <<< n

/-! ## Header fields of a request (R444) -/

def reqOpcode (b : MailboxState) : Nat := leNat (windowBytes b 2 2)
def reqLength (b : MailboxState) : Nat := leNat (windowBytes b 8 2)
def reqBody (b : MailboxState) : List Byte := windowBytes b 16 (reqLength b)

/-! ## Answering -/

/-- An answer: STATUS, BLOCK_ID and body (R444, R446). -/
structure Reply where
  status : Status := .ok
  block : Nat := 0
  body : List Byte
  deriving DecidableEq, Repr

/-- The bytes of a response: the negotiated version, opcode and TAG of the request, LENGTH, STATUS, BLOCK_ID, reserved, body (R444).
DEDUCED: VER_MINOR of a response is the negotiated minor; with no version negotiated both are 0. -/
def responseBytes (b : MailboxState) (r : Reply) : List Byte :=
  le 1 b.negMajor ++ le 1 b.negMinor ++ windowBytes b 2 6 ++ le 2 r.body.length ++ le 1 r.status.code ++ le 1 r.block ++ zeros 4 ++ r.body
/-- The mailbox after its response is posted; a mailbox that lost its claim is released at once (R442, R449). -/
def postedBox (stamp : Nat) (b : MailboxState) (r : Reply) : MailboxState :=
  let m := responseBytes b r
  { b with
    cells := cellsFrom 0 m, undef := undefFrom m.length, stamp := stamp, waiting := false, verdict := none
    state := if b.releaseAtPost then .idle else .done
    discarded := if b.releaseAtPost then sat 255 (b.discarded + 1) else b.discarded
    releaseAtPost := false }
/-- Post the response of a mailbox: window, STATE, event source 0x300 + x (R442). -/
def post (mb : Nat) (r : Reply) (d : Dev) : Dev :=
  let d1 := setBox mb (postedBox d.mail.posts (box d mb) r) d
  raise (0x300 + mb) { d1 with mail := { d1.mail with posts := d1.mail.posts + 1, order := d1.mail.order.erase mb } }

/-- The body of a refusal: REASON and zeros to the size of the layout (R445). -/
def refusalBody (n : Nat) (v : Verdict) : List Byte := le n v.reason
/-- A request that a brake refuses is counted and raises source 0x1E2 (R330). DEDUCED: firmware's own requests count too. -/
def noteBrake (v : Option Verdict) (d : Dev) : Dev :=
  match v with
  | some v => if v.status = .braked then brakeRefuses v.brake d else d
  | none => d
/-- Answer a refused request with a body of `n` bytes; a brake's refusal is recorded (R330). -/
def refuse (n mb : Nat) (v : Verdict) (d : Dev) : Dev :=
  post mb { status := v.status, block := v.block, body := refusalBody n v } (noteBrake (some v) d)

/-! ## Taking a request -/

/-- Firmware takes mailbox requests: it runs, the cores run, no staged entry is in progress (R440, R448, R514). -/
def firmwareTakes (d : Dev) : Bool :=
  d.fw.state == .running && d.fw.mailboxReady && d.power.state == .run
/-- The first mailbox in doorbell order whose request is not waiting for an external event (R448). -/
def firstPending (d : Dev) : List Nat → Option Nat
  | [] => none
  | mb :: t => if (box d mb).waiting then firstPending d t else some mb
/-- Firmware may take the request of mailbox `mb` now, and its opcode is `op`. -/
def takes (op mb : Nat) (d : Dev) : Bool :=
  firmwareTakes d && firstPending d d.mail.order == some mb
    && (box d mb).state == .pending && (box d mb).verdict == none && reqOpcode (box d mb) == op

/-- Whether a freeze refuses a command. DEDUCED: it refuses a request that would commit (R337), so it comes after every condition of the
command's own, as R549 puts the brake last; an identifier out of range stays BAD_ARG (R5), and REFUSALS counts what the brake alone refuses. -/
inductive Freezing | never | last
  deriving DecidableEq, Repr

/-- The blocks of an engine, a coach, a hitch and a client lane that a request names; an identifier outside its range (R5) names none. -/
def engineBlock (n : Nat) : List Nat := if n < 16 then [0x10 + n] else []
def coachBlock (c : Nat) : List Nat := if c < 256 then [0x10 + c / 16] else []
def hitchBlocks (h : Nat) : List Nat := if h < 8 then [0x10 + 2 * h, 0x11 + 2 * h] else []
def laneBlock (l : Nat) : List Nat := if l < 128 then [0x20 + l / 64] else []
/-- What a Virman command is: opcode, the blocks it acts on (check 6), how a freeze
refuses it, its own conditions in order (check 7), its effect, and what a refusal does besides answering. -/
structure Service where
  opcode : Nat
  targets : Dev → List Byte → List Nat := fun _ _ => []
  freeze : Freezing := .last
  checks : Dev → List Byte → List (Bool × Verdict) := fun _ _ => []
  run : Nat → List Byte → Dev → Dev × Option Reply
  refused : Verdict → List Byte → Dev → Dev := fun _ _ d => d

/-- Checks 6 and 7 of R445, with the freeze brake where the command's area has it. -/
def judge (sv : Service) (body : List Byte) (d : Dev) : Option Verdict :=
  match firstDown d (sv.targets d body) with
  | some b => some { status := .poweredDown, block := b }
  | none =>
    match firstOf (sv.checks d body) with
    | some v => some v
    | none => if sv.freeze = .last && freezeOn d then some (braked 7) else none

/-- The request waits for an external event; it delays no other mailbox (R448). -/
def keepWaiting (mb : Nat) (d : Dev) : Dev := setBox mb { box d mb with waiting := true } d
/-- Complete a taken request. -/
def complete (mb : Nat) (r : Dev × Option Reply) : Dev :=
  match r.2 with
  | some a => post mb a r.1
  | none => keepWaiting mb r.1
/-- Requests that checks 1 to 5 refused are answered when they come to the front of the doorbell order (R445, R448). -/
def answerFront : List Nat → Dev → Dev
  | [], d => d
  | mb :: t, d =>
    if (box d mb).waiting then answerFront t d
    else match (box d mb).verdict with
      | some v => answerFront t (post mb { status := v.status, body := le v.size v.reason } d)
      | none => d
/-- The same, while firmware takes requests. -/
def takeRefused (d : Dev) : Dev := if firmwareTakes d then answerFront d.mail.order d else d
/-- Serve the request pending in mailbox `mb` if firmware may take it now and it is this command's; otherwise nothing
happens. -/
def serve (sv : Service) (mb : Nat) (d : Dev) : Dev :=
  if takes sv.opcode mb d then
    let body := reqBody (box d mb)
    takeRefused <| match judge sv body d with
      | some v => refuse (fullSize sv.opcode body) mb v (sv.refused v body d)
      | none => complete mb (sv.run mb body d)
  else d

/-- A completed command: OK with this body. -/
def done (body : List Byte) (d : Dev) : Dev × Option Reply := (d, some { body := body })
/-- OK with REASON 0 and three reserved bytes. -/
def okay (d : Dev) : Dev × Option Reply := done (zeros 4) d

/-- The size of the answer's body of an unanswered request. -/
def answerSize (b : MailboxState) : Nat := match b.verdict with | some v => v.size | none => fullSize (reqOpcode b) (reqBody b)
/-- Answer a pending request that a committed sleep left uncommitted with NOT_READY and its own TAG (R518). -/
def answerNotReady (mb : Nat) (d : Dev) : Dev :=
  if (box d mb).state = .pending then post mb { status := .notReady, body := zeros (answerSize (box d mb)) } d else d
def answerAll (f : Nat → Dev → Dev) (d : Dev) : Dev := d.mail.order.foldl (fun d mb => f mb d) d

end Sys2Proof.Machine
end

