-- ==== Sys2Proof/Machine/Virman.lean ====
section
/-! DEFINITION. The Virman interface: register access rules, mailbox registers and windows, HELLO, the laser pass-through and
PCIe resets (chapter 15). -/

namespace Sys2Proof.Machine

/-! ## Register accesses (R438, R453) -/

/-- A direct access met a powered-down block (R440, R453). -/
def noteDown (b : Nat) (d : Dev) : Dev :=
  let a := d.mail.down
  { d with mail := { d.mail with down :=
      { valid := true, first := if a.valid then a.first else b, last := b, count := sat 0xFF (a.count + 1) } } }
/-- The PCIe link is down: from stage 4 of an entry to the return to RUN (R514, R518). -/
def linkTaken (d : Dev) : Bool := asleep d || (d.power.state == .entering && decide (4 ≤ d.power.stage))
/-- PCIe accesses reach BAR0 unless PERST_N holds the endpoint in reset (R531) or a sleep has taken the link down (R514). -/
def reaches (who : Accessor) (d : Dev) : Bool :=
  match who with
  | .pcie => !d.pins.perstLow && !linkTaken d
  | .smp => d.power.state != .off
  | .firmware => true
/-- A write whose value reaches the register: right port, SMP writes enabled, all four byte enables set. -/
def writeLands (w : RegWrite) (d : Dev) : Bool :=
  reaches w.who d && !(w.who == .smp && d.mail.smpWriteDisable) && w.enables == 0xF
/-- A register write to block `b` (0xFF: always-on, never down): discarded with partial byte enables, discarded and recorded
where the block is down, else the register's own rule `f`. DESIGN CHOICE: a write that partial byte enables or SMP_WRITE_DISABLE
discards is not recorded in ACCESS_DOWN, for it reaches no block. -/
def regWrite (b : Nat) (w : RegWrite) (f : Word → Act) : Act := fun d =>
  if writeLands w d then (if blockDown d b then noteDown b d else f w.value d) else d
/-- The same for a register only the host writes: a write by firmware is discarded. -/
def hostWrite (b : Nat) (w : RegWrite) (f : Word → Act) : Act :=
  if w.who = .firmware then fun d => d else regWrite b w f
/-- Values a read returns. -/
def setOut (vs : List Word) (d : Dev) : Dev := { d with mail := { d.mail with out := vs } }
/-- What a direct read of a powered-down block returns (R453). -/
def downValue : Word := 0xFFFF0BAD
/-- The addressed bytes of a 32-bit value, each in its lane, the others 0 (R438). -/
def addressed (enables : BitVec 4) (v : Word) : Word :=
  BitVec.ofNat 32 (leNat ((le 4 v.toNat).zipIdx.map (fun p => if enables.getLsbD p.2 then p.1 else 0)))
/-- A register read of block `b`: 0xFFFF_0BAD and a record where the block is down, else the value `v` and the read's own
effect `f`, which a narrow read has whole (R438). -/
def regRead (b : Nat) (r : RegRead) (v : Dev → Word) (f : Act) : Act := fun d =>
  if reaches r.who d then
    (if blockDown d b then noteDown b (setOut [addressed r.enables downValue] d) else setOut [addressed r.enables (v d)] (f d))
  else d

/-! ## Doorbell, release, window writes (R442, R445) -/

/-- The ports that may claim a mailbox. -/
def portOf : Accessor → Option Port
  | .pcie => some .pcie
  | .smp => some .smp
  | .firmware => none

/-- Checks 1 to 5 of R445 on the request in a window: none where they pass. -/
def headerVerdict (b : MailboxState) : Option Verdict :=
  let op := reqOpcode b
  let major := leNat (windowBytes b 0 1)
  let minor := leNat (windowBytes b 1 1)
  let hello := op == 0x0101
  if !hello && (b.negMajor == 0 || major != b.negMajor || b.negMinor < minor) then some { status := .badVersion }
  else if !(windowBytes b 10 6).all (· == 0) then some { status := .badArg, reason := fieldRange }
  else match layoutOf op with
    | none => some { status := .badArg, reason := unknownOpcode }
    | some l =>
      if !hello && b.negMajor < 6 && !Config.opcodePresent b.negMajor op then some { status := .badVersion }
      else if 4080 < reqLength b || reqLength b != l.length (reqBody b) then some { status := .badArg, reason := lengthReason }
      else if !l.reservedZero (reqBody b) then some { status := .badArg, reason := fieldRange, size := l.answer (reqBody b) }
      else none

/-- A doorbell rung by a port (R442): an IDLE mailbox becomes PENDING and claimed, any other records DOORBELL_ERR. -/
def ringDoorbell (mb : Nat) (p : Port) (d : Dev) : Dev :=
  let b := box d mb
  if b.state = .idle then
    let d1 := setBox mb { b with state := .pending, port := p, verdict := headerVerdict b } d
    takeRefused { d1 with mail := { d1.mail with order := d1.mail.order ++ [mb] } }
  else setBox mb { b with doorbellErr := true } d
/-- MB_DOORBELL: writing 1 hands the request to the device. -/
def execMbDoorbell (mb : Mailbox) (w : RegWrite) : State → Host.Outcome State Fault Refusal :=
  lift (regWrite 1 w fun v d => if bit v 0 then match portOf w.who with | some p => ringDoorbell mb p d | none => d else d)

/-- RELEASE by a port: a DONE mailbox it claims returns to IDLE; anything else has no effect (R442). -/
def releaseBox (mb : Nat) (p : Port) (d : Dev) : Dev :=
  let b := box d mb
  if b.state = .done && b.port = p then setBox mb { b with state := .idle } d else d
def execMbRelease (mb : Mailbox) (w : RegWrite) : State → Host.Outcome State Fault Refusal :=
  lift (regWrite 1 w fun v d => if bit v 0 then match portOf w.who with | some p => releaseBox mb p d | none => d else d)

/-- A window write of any width: stored in IDLE, discarded with WRITE_ERR in PENDING and in DONE (R442). The other port's
write in DONE is discarded; DEDUCED: it sets WRITE_ERR too, which R441 gives for every discarded window write. -/
def writeWindow (mb : Nat) (bytes : List (Fin 4096 × Byte)) (d : Dev) : Dev :=
  let b := box d mb
  if b.state = .idle then setBox mb (bytes.foldl (fun b e => windowPut b e.1 e.2) b) d
  else setBox mb { b with writeErr := true } d
def execMailboxWindowWrite (mb : Mailbox) (who : Accessor) (bytes : List (Fin 4096 × Byte)) :
    State → Host.Outcome State Fault Refusal :=
  lift (regWrite 1 { who := who, enables := 0xF, value := 0 } fun _ => writeWindow mb bytes)

/-! ## PCIe resets (R449, R478, R531) -/

/-- The effect of R449 on one mailbox. -/
def unclaim (mb : Nat) (d : Dev) : Dev :=
  let b := box d mb
  let c := match b.state with
    | .pending => if b.port = .pcie then { b with releaseAtPost := true, negMajor := 0, negMinor := 0 } else b
    | .done => if b.port = .pcie then { b with state := .idle, negMajor := 0, negMinor := 0 } else b
    | .idle => if b.negPort = .pcie then { b with negMajor := 0, negMinor := 0 } else b
  setBox mb c d
/-- A function-level reset, hot reset, link-down or PERST_N: mailboxes claimed over PCIe, and EC_HOST_UNACK. -/
def pcieDown (d : Dev) : Dev :=
  let d1 := (List.range 8).foldl (fun d mb => unclaim mb d) d
  { d1 with ec := { d1.ec with unack := 0, msix := {} } }
def execPcieReset : State → Host.Outcome State Fault Refusal := lift pcieDown
/-- PERST_N: its fall resets the endpoint; while it is low PCIe reaches nothing (R531). -/
def execPerstN (high : Bool) : State → Host.Outcome State Fault Refusal :=
  lift fun d =>
    let d1 := { d with pins := { d.pins with perstLow := !high } }
    if high || d.pins.perstLow then d1 else pcieDown d1

/-! ## HELLO (R450, R451) -/

/-- The highest major that both ranges contain; 0 if none. -/
def commonMajor (lo hi : Nat) : Nat :=
  let m := min hi 6
  if max lo 4 ≤ m then m else 0
/-- The device's own minor of a major it serves. -/
def ownMinor (m : Nat) : Nat := if m = 6 then 0 else (Config.minorOf m).toNat
def selectMinor (major hi minor : Nat) : Nat :=
  if major = 0 then 0 else if major < hi then ownMinor major else min minor (ownMinor major)
/-- The HELLO response body. -/
def helloBody (major minor : Nat) (d : Dev) : List Byte :=
  zeros 4 ++ le 1 major ++ le 1 minor ++ [6, 4] ++ le 1 (b2n Config.isA32) ++ [8] ++ le 2 4080
    ++ le 4 d.fw.running.version.toNat ++ le 1 d.fw.running.svn.toNat ++ le 1 Config.bootRomVersion.toNat ++ zeros 2
    ++ le 16 Config.serial.toNat ++ le 8 (nowNs d) ++ zeros 4
def helloService : Service where
  opcode := 0x0101
  freeze := .never
  checks _ b := [(decide (u8 b 1 < u8 b 0), outOfRange)]
  run mb b d :=
    let major := commonMajor (u8 b 0) (u8 b 1)
    let minor := selectMinor major (u8 b 1) (u8 b 2)
    let x := box d mb
    if major = 0 then (d, some { status := .badVersion, body := helloBody major minor d })
    else done (helloBody major minor d) (setBox mb { x with negMajor := major, negMinor := minor, negPort := x.port } d)
def execHello (mb : Mailbox) : State → Host.Outcome State Fault Refusal := lift (serve helloService mb)

/-! ## Laser-source pass-through (R460 to R464) -/

def laserPort (d : Dev) (p : Nat) : LaserPort := tabGet (fun _ => {}) d.mail.laser p
def setLaserPort (p : Nat) (x : LaserPort) (d : Dev) : Dev :=
  { d with mail := { d.mail with laser := tabPut (fun _ => {}) d.mail.laser p x } }
/-- ADDRESS byte: a 7-bit address, or 0xFF for none. -/
def laserAddressOk (a : Nat) : Bool := a < 0x80 || a == 0xFF
def laserConfigService : Service where
  opcode := 0x0102
  targets _ _ := [3]
  freeze := .never
  checks _ b :=
    [(!(within 0 3 (u8 b 0) && within 0 2 (u8 b 1) && within 1 100 (u16 b 2)
        && [4, 5, 6, 7].all (fun i => laserAddressOk (u8 b i))), outOfRange)]
  run _ b d := okay (setLaserPort (u8 b 0)
    { speed := u8 b 1, stretch := u16 b 2, address := [u8 b 4, u8 b 5, u8 b 6, u8 b 7] } d)
def execLaserConfig (mb : Mailbox) : State → Host.Outcome State Fault Refusal := lift (serve laserConfigService mb)

/-- The address configured for the source of an engine. -/
def laserAddress (d : Dev) (n : Nat) : Nat := nth (laserPort d (n / 4)).address (n % 4) 0xFF
/-- The answer of a transfer with RD_LEN `n` (R464): 55 is I2C_NACK. -/
def busReply (n : Nat) : BusOutcome → Reply
  | .completed data => { body := zeros 4 ++ data }
  | .addressNack => { status := .denied, body := [55, 0, 0, 0] ++ zeros n }
  | .dataNack i => { status := .denied, body := [55] ++ le 1 (i.val + 1) ++ zeros 2 ++ zeros n }
  | .stuck => { status := .timeout, body := zeros 4 ++ zeros n }
/-- LASER_XFER goes onto its port's bus, or behind the port's transfers before it, and is answered when the bus has ended it (R448). -/
def laserXferService : Service where
  opcode := 0x0103
  targets _ _ := [3]
  freeze := .never
  checks d b :=
    [(!(within 0 15 (u8 b 0) && within 0 128 (u8 b 1) && within 0 128 (u8 b 2) && !(u8 b 1 == 0 && u8 b 2 == 0)), outOfRange),
     (laserAddress d (u8 b 0) == 0xFF, outOfRange)]
  run mb _ d := ({ d with mail := { d.mail with transfers := d.mail.transfers ++ [{ mailbox := mb }] } }, none)
/-- The bus outcome fits the request: as many bytes read as asked, a data byte that was sent. -/
def busFits (bus : BusOutcome) (b : List Byte) : Bool :=
  match bus with
  | .completed data => data.length == u8 b 2
  | .dataNack i => decide (i.val < u8 b 1)
  | .addressNack | .stuck => true
/-- The port of a mailbox's transfer. -/
def transferPort (d : Dev) (mb : Nat) : Nat := u8 (reqBody (box d mb)) 0 / 4
/-- The mailbox's transfer is the one on its port's bus: transfers on one port run one at a time, in doorbell order (R463). -/
def onBus (d : Dev) (mb : Nat) : Bool :=
  match d.mail.transfers.find? (fun x => x.result.isNone && transferPort d x.mailbox == transferPort d mb) with
  | some x => x.mailbox == mb
  | none => false
/-- Firmware answers a transfer that the bus has ended. -/
def postTransfer (mb : Nat) (bus : BusOutcome) (d : Dev) : Dev :=
  post mb (busReply (u8 (reqBody (box d mb)) 2) bus) { d with mail := { d.mail with transfers := d.mail.transfers.filter (fun x => x.mailbox != mb) } }
/-- The bus ends a transfer; one that ends during a firmware restart is answered after reattachment (R464). -/
def endTransfer (mb : Nat) (bus : BusOutcome) (d : Dev) : Dev :=
  if d.fw.state = .running then postTransfer mb bus d
  else { d with mail := { d.mail with transfers := d.mail.transfers.map (fun x => if x.mailbox = mb then { x with result := some bus } else x) } }
/-- LASER_XFER stands for firmware taking the request, and, for a request that it has taken, for the end of its transfer on the bus. DESIGN
CHOICE: the table has one row for both. -/
def laserXfer (mb : Nat) (bus : BusOutcome) (d : Dev) : Dev :=
  if onBus d mb then guard (!mgtStopped d && busFits bus (reqBody (box d mb))) (endTransfer mb bus) d else serve laserXferService mb d
def execLaserXfer (mb : Mailbox) (bus : BusOutcome) : State → Host.Outcome State Fault Refusal := lift (laserXfer mb bus)
/-- A transfer that CK_MGT stops under is answered POWERED_DOWN, one that had ended with its result (R445, R464). -/
def stopTransfer (x : LaserTransfer) (d : Dev) : Dev :=
  match x.result with
  | some bus => postTransfer x.mailbox bus d
  | none => refuse (fullSize 0x0103 (reqBody (box d x.mailbox))) x.mailbox { status := .poweredDown, block := 3 }
      { d with mail := { d.mail with transfers := d.mail.transfers.filter (·.mailbox != x.mailbox) } }
def stopTransfers (d : Dev) : Dev := d.mail.transfers.foldl (fun d x => stopTransfer x d) d
/-- After reattachment firmware answers the transfers that ended meanwhile. -/
def postTransfers (d : Dev) : Dev := d.mail.transfers.foldl (fun d x => match x.result with | some bus => postTransfer x.mailbox bus d | none => d) d

end Sys2Proof.Machine
end

