-- ==== Sys2Proof/Machine/Counters.lean ====
section
/-! DEFINITION. Block counters, snapshots and their pages (R484 to R494). -/

namespace Sys2Proof.Machine

/-! ## Triggers and ticks (R486 to R488) -/

/-- The snapshot tick of a register or pin trigger: the first multiple of 1,000 ns at least 2,000 ns away. -/
def nextTick (now : Nat) : Nat := (now + 2000 + 999) / 1000 * 1000
/-- A trigger is dropped. -/
def dropTrigger (d : Dev) : Dev := { d with meas := { d.meas with dropped := sat 0xFFFFFFFF (d.meas.dropped + 1) } }
/-- A snapshot trigger from the register (bit 0) or the pin (bit 1): merges before T, dropped after it or while CK_HUB is
stopped. -/
def trigger (i : Nat) (d : Dev) : Dev :=
  if asleep d || d.meas.captured.isSome then dropTrigger d
  else { d with meas := { d.meas with triggers := d.meas.triggers ||| BitVec.twoPow 3 i
                                      snapAt := some (d.meas.snapAt.getD (nextTick (nowNs d))) } }
/-- SNAP_CTRL: TAKE triggers; a change of FREEZE is scheduled like a snapshot (R486, R500). -/
def writeSnapCtrl (v : Word) (d : Dev) : Dev :=
  let d1 := if bit v 0 then trigger 0 d else d
  if bit v 1 = d1.meas.freezeReq then d1
  else { d1 with meas := { d1.meas with freezeReq := bit v 1, freezeAt := d1.meas.freezeAt ++ [(nextTick (nowNs d1), bit v 1)] } }
def execSnapTake (w : RegWrite) : State → Host.Outcome State Fault Refusal := lift (regWrite 1 w writeSnapCtrl)
def execSnapFreeze (w : RegWrite) : State → Host.Outcome State Fault Refusal := lift (regWrite 1 w fun v => writeSnapCtrl v)
/-- A rising edge on SNAP. -/
def execSnapPin : State → Host.Outcome State Fault Refusal := lift (trigger 1)

/-- The BLOCK_IDs that are down, as the header's STALE_BLOCKS. -/
def staleMask (d : Dev) : BitVec 64 :=
  (List.range 64).foldl (fun m b => if blockDown d b then m ||| BitVec.twoPow 64 b else m) 0
/-- Every domain latches its counters at T. -/
def capture (t : Nat) (tr : BitVec 3) (d : Dev) : Dev :=
  let m := d.meas
  { d with meas := { m with
      snapAt := none, triggers := 0, restarted := [], allRestarted := false
      captured := some { time := t, triggers := tr, frozen := m.frozen, timeValid := d.clock.valid, timeCoarse := d.clock.coarse
                         dropped := m.dropped, staleBlocks := staleMask d, counts := m.counts, restarted := m.restarted
                         allRestarted := m.allRestarted, tallies := m.tallies} } }
/-- A multiple of SNAP_PERIOD has been reached that is not taken yet. -/
def periodDue (d : Dev) : Bool :=
  d.meas.snapPeriod != 0 && decide (d.meas.periodsTaken < nowMs d / d.meas.snapPeriod)
/-- Publication: SNAP_SEQ increments and the banks exchange roles (R488). -/
def publish (d : Dev) : Dev :=
  match d.meas.captured with
  | some s => { d with meas := { d.meas with captured := none, published := { s with seq := (d.meas.published.seq + 1) % 2 ^ 64 } } }
  | none => d
def execSnapshotPublish : State → Host.Outcome State Fault Refusal := lift fun d => guard (!asleep d) publish d

/-! ## Pages (R490 to R493) -/

/-- BLOCK_ID of a counter block for STALE (R491). -/
def blockIdOf (b : Nat) : Nat :=
  if b = 0 then 2 else if b = 3 then 0x20 else if b = 4 then 0x21 else if 24 ≤ b && b < 40 then 0x10 + (b - 24) else 1
/-- The BLOCK_ID whose stop makes entry `i` of page `p` stale; none where the entry is reserved. -/
def entryBlock (p i : Nat) : Option Nat :=
  if p = 1 then (if i < 320 then some (blockIdOf (i / 8)) else none)
  else if p = 2 then (if i < 256 && i % 16 < 14 then some (0x10 + i / 16) else none)
  else if 4 ≤ p && p ≤ 7 then (let g := (p - 4) * 512 + i; if g % 16 < 9 then some (0x20 + g / 16 / 64) else none)
  else if p = 8 || p = 9 then some 1
  else if 16 ≤ p && p ≤ 31 then
    (let g := (p - 16) * 512 + i; if g % 32 = 0 then some (0x10 + g / 512) else if g % 32 < 26 then some 1 else none)
  else none
/-- A counter entry (R490). -/
def entryValue (s : Snapshot) (key block : Nat) : Nat :=
  tabGet (fun _ => 0) s.counts key + b2n (s.staleBlocks.getLsbD block) * 2 ^ 48 + b2n (s.allRestarted || s.restarted.contains key) * 2 ^ 49
    + b2n s.frozen * 2 ^ 50
/-- Two's complement of a signed value in `n` bits. -/
def twos (n : Nat) (v : Int) : Nat := (v % (2 ^ n : Nat)).toNat
/-- The 8-byte word `i` of page `p` of a snapshot (R491, R492). -/
def pageWord (s : Snapshot) (p i : Nat) : Nat :=
  if p = 0 then
    (if i = 0 then s.seq else if i = 1 then s.time
     else if i = 2 then s.triggers.toNat + 256 * (b2n s.frozen + 2 * b2n s.timeValid + 4 * b2n s.timeCoarse) + 2 ^ 32 * s.dropped
     else if i = 3 then s.staleBlocks.toNat else 0)
  else if p = 3 then
    (if i < 128 then
      let t := tabGet (fun _ => {}) s.tallies (i / 4)
      if i % 4 = 0 then t.count else if i % 4 = 1 then twos 64 t.sum else if i % 4 = 2 then t.sumsq % 2 ^ 64
      else twos 16 t.min + 65536 * twos 16 t.max
     else 0)
  else match entryBlock p i with
    | some b => entryValue s (p * 512 + i) b
    | none => 0
/-- `n` words of a page as bytes. -/
def pageBytes (s : Snapshot) (p : Nat) : Nat → Nat → List Byte
  | _, 0 => []
  | i, n + 1 => le 8 (pageWord s p i) ++ pageBytes s p (i + 1) n
/-- SNAP_USER allows a page to be read through BAR0 (R493). -/
def userPage (d : Dev) (p : Nat) : Bool := bit (tabGet (fun _ => 0) d.meas.snapUser (p / 32)) (p % 32)
/-- A 32-bit word of the snapshot window: zero while the page's USER_READ is clear. -/
def snapWindowWord (d : Dev) (offset : Nat) : Word :=
  let p := offset / 4096
  if userPage d p then BitVec.ofNat 32 (pageWord d.meas.published p (offset % 4096 / 8) / 2 ^ (32 * (offset / 4 % 2))) else 0
/-- SNAP_USER: only the host writes it. -/
def writeSnapUser (i : Nat) (v : Word) (d : Dev) : Dev :=
  { d with meas := { d.meas with snapUser := tabPut (fun _ => 0) d.meas.snapUser i v } }
def execSnapUser (i : Fin 4) (w : RegWrite) : State → Host.Outcome State Fault Refusal := lift (hostWrite 1 w (writeSnapUser i))

/-! ## Commands (R485, R494, R505) -/

def snapReadService : Service where
  opcode := 0x0B01
  targets _ _ := [1]
  freeze := .never
  checks _ b := [(!(within 0 127 (u8 b 0) && u16 b 2 % 8 == 0 && u16 b 4 % 8 == 0 && within 0 4064 (u16 b 4)
    && within 0 4096 (u16 b 2 + u16 b 4)), outOfRange)]
  run _ b d := done (zeros 4 ++ le 8 d.meas.published.seq ++ pageBytes d.meas.published (u8 b 0) (u16 b 2 / 8) (u16 b 4 / 8)) d
def execSnapRead (mb : Mailbox) : State → Host.Outcome State Fault Refusal := lift (serve snapReadService mb)

/-- The eight counts of a queue direction in the published bank. -/
def queueEntries (s : Snapshot) (q dir : Nat) : List Byte :=
  (List.range 8).flatMap (fun i => le 8 (entryValue s (keyQueue q dir i) 1))
def snapQueueReadService : Service where
  opcode := 0x0B02
  targets _ _ := [1]
  freeze := .never
  checks _ b := [(!(within 0 4095 (u16 b 0) && within 1 63 (u8 b 2) && within 0 1 (u8 b 3) && within 0 4096 (u16 b 0 + u8 b 2)),
    outOfRange)]
  run _ b d := done (zeros 4 ++ le 8 d.meas.published.seq
    ++ (List.range (u8 b 2)).flatMap (fun i => queueEntries d.meas.published (u16 b 0 + i) (u8 b 3))) d
def execSnapQueueRead (mb : Mailbox) : State → Host.Outcome State Fault Refusal := lift (serve snapQueueReadService mb)

/-- The largest ENTITY of a block's entity select; none for a block without one (R491). -/
def entityLimit (b : Nat) : Option Nat :=
  if b = 0 then none
  else if b = 1 || b = 5 || (8 ≤ b && b ≤ 23) then some 255
  else if b = 2 then some 4095
  else if b = 3 || b = 4 || b = 6 then some 127
  else if b = 7 then some 4
  else some 15
def entityOk (b e : Nat) : Bool :=
  match entityLimit b with
  | none => true
  | some m => e ≤ m || e == 0xFFFF
/-- The counters that COUNTER names. -/
def countersNamed (b k : Nat) : List Nat := if k = 0xFF then (List.range 8).map (8 * b + ·) else [8 * b + k]
/-- A selected counter restarts at zero and is flagged RESTARTED (R485). -/
def selectCounter (i e ent : Nat) (d : Dev) : Dev :=
  let d1 := setCount (512 + i) 0 d
  { d1 with meas := { d1.meas with selects := tabPut selectReset d1.meas.selects i (e, ent)
                                   restarted := (512 + i) :: d1.meas.restarted.erase (512 + i) } }
def selectEntries (d : Dev) (b : Nat) : List Byte :=
  (List.range 8).flatMap (fun k => let s := tabGet selectReset d.meas.selects (8 * b + k); le 1 s.1 ++ [0] ++ le 2 s.2)
def ctrSelectService : Service where
  opcode := 0x0B03
  targets _ b := [1, blockIdOf (u8 b 0)]
  freeze := .never
  checks _ b := [(!(within 0 39 (u8 b 0) && (within 0 7 (u8 b 1) || u8 b 1 == 0xFF)), outOfRange),
                 (!flag b 3 0 && !entityOk (u8 b 0) (u16 b 4), outOfRange)]
  run _ b d :=
    let d1 := if flag b 3 0 then d
      else (countersNamed (u8 b 0) (u8 b 1)).foldl (fun d i => selectCounter i (u8 b 2) (u16 b 4) d) d
    done (zeros 4 ++ selectEntries d1 (u8 b 0)) d1
def execCtrSelect (mb : Mailbox) : State → Host.Outcome State Fault Refusal := lift (serve ctrSelectService mb)

/-- A block whose power is removed loses its counters and selections (R489). -/
def dropCounts (keys sels : List Nat) (d : Dev) : Dev :=
  { d with meas := { d.meas with
      counts := keys.foldl (fun t k => tabDrop t k) d.meas.counts
      selects := sels.foldl (fun t k => tabDrop t k) d.meas.selects } }
/-- When its power returns, its counts restart at zero and carry RESTARTED. -/
def restartCounts (keys sels : List Nat) (d : Dev) : Dev :=
  let d1 := dropCounts keys sels d
  { d1 with meas := { d1.meas with restarted := keys ++ d1.meas.restarted } }

end Sys2Proof.Machine
end

