-- ==== Sys2Proof/Machine/Sha.lean ====
section
/-! DEFINITION. SHA-384, HMAC-SHA-384 and the counter-mode expansion that R315, R317, R36 and R323 name. PRESUMED: the manual does not
define them; these are FIPS 180-4, FIPS 198-1 and SP 800-108 with 32-bit counter and length fields. -/

namespace Sys2Proof.Machine

/-- The constants of the 80 rounds, the first in the most significant place. -/
def shaConstants : BitVec 5120 :=
  0x428A2F98D728AE227137449123EF65CDB5C0FBCFEC4D3B2FE9B5DBA58189DBBC3956C25BF348B53859F111F1B605D019923F82A4AF194F9BAB1C5ED5DA6D8118#512 ++
  0xD807AA98A303024212835B0145706FBE243185BE4EE4B28C550C7DC3D5FFB4E272BE5D74F27B896F80DEB1FE3B1696B19BDC06A725C71235C19BF174CF692694#512 ++
  0xE49B69C19EF14AD2EFBE4786384F25E30FC19DC68B8CD5B5240CA1CC77AC9C652DE92C6F592B02754A7484AA6EA6E4835CB0A9DCBD41FBD476F988DA831153B5#512 ++
  0x983E5152EE66DFABA831C66D2DB43210B00327C898FB213FBF597FC7BEEF0EE4C6E00BF33DA88FC2D5A79147930AA72506CA6351E003826F142929670A0E6E70#512 ++
  0x27B70A8546D22FFC2E1B21385C26C9264D2C6DFC5AC42AED53380D139D95B3DF650A73548BAF63DE766A0ABB3C77B2A881C2C92E47EDAEE692722C851482353B#512 ++
  0xA2BFE8A14CF10364A81A664BBC423001C24B8B70D0F89791C76C51A30654BE30D192E819D6EF5218D69906245565A910F40E35855771202A106AA07032BBD1B8#512 ++
  0x19A4C116B8D2D0C81E376C085141AB532748774CDF8EEB9934B0BCB5E19B48A8391C0CB3C5C95A634ED8AA4AE3418ACB5B9CCA4F7763E373682E6FF3D6B2B8A3#512 ++
  0x748F82EE5DEFB2FC78A5636F43172F6084C87814A1F0AB728CC702081A6439EC90BEFFFA23631E28A4506CEBDE82BDE9BEF9A3F7B2C67915C67178F2E372532B#512 ++
  0xCA273ECEEA26619CD186B8C721C0C207EADA7DD6CDE0EB1EF57D4F7FEE6ED17806F067AA72176FBA0A637DC5A2C898A6113F9804BEF90DAE1B710B35131C471B#512 ++
  0x28DB77F523047D8432CAAB7B40C724933C9EBE0A15C9BEBC431D67C49C100D4C4CC5D4BECB3E42B6597F299CFC657E2A5FCB6FAB3AD6FAEC6C44198C4A475817#512
/-- The initial hash value of SHA-384. -/
def shaStart : BitVec 512 :=
  0xCBBB9D5DC1059ED8629A292A367CD5079159015A3070DD17152FECD8F70E593967332667FFC00B318EB44A8768581511DB0C2E0D64F98FA747B5481DBEFA4FA4#512
/-- The eight working words, a to h. -/
structure ShaState where
  a : BitVec 64
  b : BitVec 64
  c : BitVec 64
  d : BitVec 64
  e : BitVec 64
  f : BitVec 64
  g : BitVec 64
  h : BitVec 64
  deriving DecidableEq, Repr
def word8 (n : Nat) (t : BitVec n) (i : Nat) : BitVec 64 := t.extractLsb' (n - 64 - 64 * i) 64
def shaSplit (v : BitVec 512) : ShaState :=
  let w := word8 512 v
  { a := w 0, b := w 1, c := w 2, d := w 3, e := w 4, f := w 5, g := w 6, h := w 7 }
def shaJoin (s : ShaState) : BitVec 512 := s.a ++ s.b ++ s.c ++ s.d ++ s.e ++ s.f ++ s.g ++ s.h
def mixRight (x : BitVec 64) (i j k : Nat) : BitVec 64 := x.rotateRight i ^^^ x.rotateRight j ^^^ x.rotateRight k
/-- The message schedule word after those in `ws`, most recent first. -/
def shaWord (ws : List (BitVec 64)) : BitVec 64 :=
  let x := nth ws 1 0
  let y := nth ws 14 0
  (x.rotateRight 19 ^^^ x.rotateRight 61 ^^^ (x >>> 6)) + nth ws 6 0 + (y.rotateRight 1 ^^^ y.rotateRight 8 ^^^ (y >>> 7)) + nth ws 15 0
def shaSchedule (block : List Byte) : List (BitVec 64) :=
  let first := (List.range 16).map (fun i => BitVec.ofNat 64 (beNat (part block (8 * i) 8)))
  ((List.range 64).foldl (fun ws _ => shaWord ws :: ws) first.reverse).reverse
def shaRound (s : ShaState) (k w : BitVec 64) : ShaState :=
  let t := s.h + mixRight s.e 14 18 41 + ((s.e &&& s.f) ^^^ (~~~ s.e &&& s.g)) + k + w
  let u := mixRight s.a 28 34 39 + ((s.a &&& s.b) ^^^ (s.a &&& s.c) ^^^ (s.b &&& s.c))
  { a := t + u, b := s.a, c := s.b, d := s.c, e := s.d + t, f := s.e, g := s.f, h := s.g }
/-- One block of 128 bytes. -/
def shaBlock (v : BitVec 512) (block : List Byte) : BitVec 512 :=
  let s := shaSplit v
  let t := (shaSchedule block).zipIdx.foldl (fun s e => shaRound s (word8 5120 shaConstants e.2) e.1) s
  shaJoin { a := s.a + t.a, b := s.b + t.b, c := s.c + t.c, d := s.d + t.d, e := s.e + t.e, f := s.f + t.f, g := s.g + t.g, h := s.h + t.h }
/-- The message with its padding. -/
def shaPadded (m : List Byte) : List Byte := m ++ [0x80] ++ zeros ((239 - m.length % 128) % 128) ++ be 16 (8 * m.length)
/-- SHA-384. -/
def sha384 (m : List Byte) : BitVec 384 :=
  let p := shaPadded m
  ((byteChunks 128 p.length p).foldl shaBlock shaStart).extractLsb' 128 384
def digest (m : List Byte) : List Byte := be 48 (sha384 m).toNat
/-- HMAC-SHA-384. -/
def hmac384 (key m : List Byte) : List Byte :=
  let k := if 128 < key.length then digest key else key
  let pad (b : Byte) : List Byte := (k ++ zeros (128 - k.length)).map (· ^^^ b)
  digest (pad 0x5C ++ digest (pad 0x36 ++ m))
/-- Counter-mode expansion to `n` bytes under a label and a context. -/
def expand (key label context : List Byte) (n : Nat) : List Byte :=
  ((List.range (ceilDiv n 48)).flatMap (fun i => hmac384 key (be 4 (i + 1) ++ label ++ [0] ++ context ++ be 4 (8 * n)))).take n

/-- The device fingerprint: the digest of the DER-encoded ML-DSA-87 public key, which certificate 1 holds (R315, R339). -/
def ownFingerprint : BitVec 384 := sha384 ((List.range Config.publicKeyLength).map (fun j => Config.certByte 1 (Config.publicKeyStart + j)))

end Sys2Proof.Machine
end

