-- ==== Sys2Proof/Machine/Telemetry.lean ====
section
/-! DEFINITION. Tallies, trackers, the sequencer and urgent conversions (R495 to R500). -/

namespace Sys2Proof.Machine

def tallyOf (d : Dev) (t : Nat) : Tally := tabGet (fun _ => {}) d.meas.tallies t
def setTally (t : Nat) (x : Tally) (d : Dev) : Dev :=
  { d with meas := { d.meas with tallies := tabPut (fun _ => {}) d.meas.tallies t x } }
/-- A tally at 0xFFFF_FFFF samples takes no more (R498). -/
def saturated (x : Tally) : Bool := x.count == 0xFFFFFFFF
/-- One sample into a tally and its tracker. -/
def addSample (x : Tally) (v : Int) : Tally :=
  let y := { x with min := if v < x.min then v else x.min, max := if x.max < v then v else x.max }
  if saturated x then y else { y with count := x.count + 1, sum := x.sum + v, sumsq := x.sumsq + (v * v).toNat }
/-- A conversion into tally `t`; one that enters it enters the present window of calibration too (R502). -/
def convert (t : Nat) (v : Int) (d : Dev) : Dev :=
  let d1 := setTally t (addSample (tallyOf d t) v) d
  if saturated (tallyOf d t) then d1 else { d1 with bench := { d1.bench with window := tabMod (fun _ => (0, 0)) d1.bench.window t (fun w => (w.1 + 1, w.2 + v)) } }

/-- A read of TALLY_COUNT latches SUM and SUMSQ. -/
def latchTally (t : Nat) (d : Dev) : Dev :=
  let x := tallyOf d t
  setTally t { x with latchedSum := x.sum, latchedSq := x.sumsq } d
def execTallyCount (r : RegRead) (t : Fin 32) : State → Host.Outcome State Fault Refusal :=
  lift (regRead 1 r (fun d => BitVec.ofNat 32 (tallyOf d t).count) (latchTally t))
/-- For each set bit of a word, reset that tracker or clear that tally. -/
def resetTrackers (v : Word) (d : Dev) : Dev :=
  (List.range 32).foldl (fun d t => if bit v t then setTally t { tallyOf d t with min := 32767, max := -32768 } d else d) d
def clearTallies (v : Word) (d : Dev) : Dev :=
  (List.range 32).foldl (fun d t => if bit v t then setTally t { tallyOf d t with count := 0, sum := 0, sumsq := 0 } d else d) d
def execTrackReset (w : RegWrite) : State → Host.Outcome State Fault Refusal := lift (regWrite 1 w resetTrackers)
def execTallyClear (w : RegWrite) : State → Host.Outcome State Fault Refusal := lift (regWrite 1 w clearTallies)
/-- TALLY_SAT. -/
def satMask (d : Dev) : Word := pack ((List.range 32).map (fun t => (t, b2n (saturated (tallyOf d t)))))

def rowOf (d : Dev) (n : Nat) : SeqRow := tabGet seqRowReset d.meas.seqRows n
/-- The contents with which the row in execution completes (R496). -/
def rowNow (d : Dev) : SeqRow := d.bench.rowHeld.getD (rowOf d d.meas.row)
/-- The converter is idle: RUN clear, or inside a DELAY with at least 500 ns left; no urgent conversion is pending (R499). -/
def converterIdle (d : Dev) : Bool :=
  d.meas.urgent.isNone && (!d.meas.run || decide (elapsedNs d + 500 ≤ d.meas.rowAt + 500 * (rowNow d).delay))
/-- TEL_URGENT: GO starts a conversion, of 500 ns, that will yield `sample`, if the converter is idle, and is dropped otherwise. -/
def writeUrgent (sample : BitVec 16) (v : Word) (d : Dev) : Dev :=
  let d1 := { d with meas := { d.meas with urgentChannel := fld v 0 6, urgentTally := fld v 8 5 } }
  if bit v 31 then
    if converterIdle d then
      { d1 with meas := { d1.meas with urgent := some (elapsedNs d + 500, fld v 8 5, sample), urgentDone := false, urgentDropped := false } }
    else { d1 with meas := { d1.meas with urgentDone := false, urgentDropped := true, urgentDrops := sat 0xFFFF (d1.meas.urgentDrops + 1) } }
  else d1
def execTelUrgent (w : RegWrite) (sample : BitVec 16) : State → Host.Outcome State Fault Refusal :=
  lift (regWrite 1 w (writeUrgent sample))
/-- An urgent conversion whose 500 ns have passed goes into its tally and tracker: DONE. -/
def urgentCycle (d : Dev) : Dev :=
  match d.meas.urgent with
  | some (t, k, v) =>
    if asleep d || decide (t ≤ elapsedNs d) then convert k v.toInt { d with meas := { d.meas with urgent := none, urgentDone := true } } else d
  | none => d
/-- TEL_STATUS: a read clears URGENT_DROPS. -/
def telStatusValue (d : Dev) : Word := pack [(0, d.meas.row), (16, d.meas.urgentDrops)]
def clearDrops (d : Dev) : Dev := { d with meas := { d.meas with urgentDrops := 0 } }
def execTelStatus (r : RegRead) : State → Host.Outcome State Fault Refusal := lift (regRead 1 r telStatusValue clearDrops)
/-- TEL_CTRL: RUN, and SEQ_LEN held to 1 to 128, applied at the next return to row 0. DESIGN CHOICE: RUN set again starts the row at which it was
cleared anew. -/
def writeTelCtrl (v : Word) (d : Dev) : Dev :=
  { d with meas := { d.meas with run := bit v 0, seqLen := clamp 1 128 (fld v 8 8), rowAt := if d.meas.run then d.meas.rowAt else elapsedNs d } }
def execTelCtrl (w : RegWrite) : State → Host.Outcome State Fault Refusal := lift (regWrite 1 w writeTelCtrl)
/-- ROW_A and ROW_B: a row in execution completes with its old contents (R496). -/
def writeRow (n : Nat) (b : Bool) (v : Word) (d : Dev) : Dev :=
  let old := rowOf d n
  let new := if b then { old with delay := fld v 0 12 }
             else { old with channel := fld v 0 6, tally := fld v 8 5, repeatM1 := fld v 16 8 }
  let d1 := { d with meas := { d.meas with seqRows := tabPut seqRowReset d.meas.seqRows n new } }
  if d.meas.run && d.meas.row == n && d.bench.rowHeld.isNone then { d1 with bench := { d1.bench with rowHeld := some old } } else d1
def execSequencerRow (n : Fin 128) (rowB : Bool) (w : RegWrite) : State → Host.Outcome State Fault Refusal :=
  lift (regWrite 1 w (writeRow n rowB))

/-- DELAY and the conversions of the row, of 0.5 µs each, have passed; SLEEP paces them by CK_AON (R496). -/
def rowDue (d : Dev) : Bool :=
  asleep d || decide (d.meas.rowAt + 500 * ((rowNow d).delay + (rowNow d).repeatM1 + 1) ≤ elapsedNs d)
/-- A sequencer row makes its REPEAT conversions into its tally and the sequencer moves on (R496). It stops in DEEP SLEEP. -/
def runRow (samples : List (BitVec 16)) (d : Dev) : Dev :=
  let r := rowNow d
  if d.meas.run && samples.length == r.repeatM1 + 1 && d.power.state != .deepSleep && d.power.state != .off && rowDue d then
    let d1 := samples.foldl (fun d v => convert r.tally v.toInt d) d
    let wrap := decide (d.meas.seqLenNow ≤ d.meas.row + 1)
    { d1 with meas := { d1.meas with rowAt := elapsedNs d, row := if wrap then 0 else d.meas.row + 1, seqLenNow := if wrap then d.meas.seqLen else d.meas.seqLenNow }
              bench := { d1.bench with rowHeld := none } }
  else d
def execTelRow (samples : List (BitVec 16)) : State → Host.Outcome State Fault Refusal := lift (runRow samples)

end Sys2Proof.Machine
end

