-- ==== Sys2Proof/Machine/IxtasTones.lean ====
section
/-! DEFINITION. The tones of the Ixtas channel: what is on air, airtime, and what a mute cuts (R366 to R369, R372, R376). -/

namespace Sys2Proof.Machine

/-! ## Objects -/

def ixtasEngine (d : Dev) (n : Nat) : IxtasEngine := tabGet (fun _ => {}) d.ixtas.engines n
def setIxtasEngine (n : Nat) (x : IxtasEngine) (d : Dev) : Dev :=
  { d with ixtas := { d.ixtas with engines := tabPut (fun _ => {}) d.ixtas.engines n x } }
def ixtasCoach (d : Dev) (c : Nat) : IxtasCoach := tabGet (fun _ => {}) d.ixtas.coaches c
def setIxtasCoach (c : Nat) (x : IxtasCoach) (d : Dev) : Dev :=
  { d with ixtas := { d.ixtas with coaches := tabPut (fun _ => {}) d.ixtas.coaches c x } }
def partnerOf (d : Dev) (c : Nat) : Partner := tabGet (fun _ => {}) d.ixtas.partners c
def setPartner (c : Nat) (x : Partner) (d : Dev) : Dev :=
  { d with ixtas := { d.ixtas with partners := tabPut (fun _ => {}) d.ixtas.partners c x } }
/-- Tone k of engine n has number 16 n + k, that of the coach it serves (R366). -/
def toneTx (d : Dev) (t : Nat) : ToneTx := tabGet (fun _ => {}) d.ixtas.tones t
def setTone (t : Nat) (x : ToneTx) (d : Dev) : Dev :=
  { d with ixtas := { d.ixtas with tones := tabPut (fun _ => {}) d.ixtas.tones t x } }
/-- Count `i` of R391 and event `e` of R394. -/
def ixtasCount (n i k : Nat) (d : Dev) : Dev := bump (keyEngine n (2 + i)) k d
def ixtasTally (n e : Nat) (d : Dev) : Dev := tally (24 + n) e n 1 d
def ixtasCause (n b : Nat) (d : Dev) : Dev := raiseCause (.ixtasEng n) b d
def partnerCause (c b : Nat) (d : Dev) : Dev := raiseCause (.partner c) b d

/-! ## Airtime (R369, R372, R375) -/

/-- Nanoseconds of one channel bit in classes A and B, of one symbol in C and D. -/
def ixtasUnit (cls : Nat) : Nat := if cls = 0 then 100000 else if cls = 1 then 25000 else if cls = 2 then 12500 else 6250
/-- Airtime of a packet with `len` payload bytes, in ns. -/
def packetAir (cls len : Nat) : Nat := (if cls < 2 then 236 + 16 * len else 134 + 8 * len) * ixtasUnit cls
/-- Airtime of a heartbeat, in ns. -/
def heartbeatAir (cls : Nat) : Nat := if cls = 3 then 200000 else 400000
/-- Airtime of a wake pattern of `r` repetitions, in ns (R381). -/
def wakeAir (r : Nat) : Nat := r * 6400000

/-! ## On air -/

/-- The engine emits light that carries the dither (R73, R368). -/
def emits (d : Dev) (n : Nat) : Bool :=
  let e := engTx d n
  e.gateOpen && (e.state == .running || (e.state == .carrierOnly && decide (0 < e.carrier)))
/-- End of what the tone last put on air, in ns. -/
def airEnd (x : ToneTx) : Nat := match x.air with | [] => 0 | (_, e) :: _ => e
def toneBusy (d : Dev) (t : Nat) : Bool := decide (nowNs d < airEnd (toneTx d t))
/-- Tones of the engine on air now. -/
def tonesOnAir (d : Dev) (n : Nat) : Nat := ((coachesOf n).filter (toneBusy d)).length
/-- Airtime within the second that ends at `now`. -/
def airWithin (now : Nat) (air : List (Nat × Nat)) : Nat :=
  (air.map (fun a => min a.2 now - max a.1 (now - 1000000000))).sum
/-- Airtime of a tone over the last second, what is still to come of a packet on air included. -/
def airSum (d : Dev) (t : Nat) : Nat :=
  let x := toneTx d t
  airWithin (nowNs d) x.air + (airEnd x - nowNs d)
/-- The airtime brake allows `ns` more on the tone (R336): IXTAS_AIRTIME is in units of 1 ms in the second. -/
def airAllows (d : Dev) (t ns : Nat) : Bool := decide (airSum d t + ns ≤ ixtasAirtime d (t / 16) * 1000000)
/-- Put `ns` of airtime on a tone at the engine's depth, forgetting what ended more than a second ago. -/
def putOnAir (t ns : Nat) (d : Dev) : Dev :=
  let x := toneTx d t
  let now := nowNs d
  setTone t { x with depth := (ixtasEngine d (t / 16)).depth, air := (now, now + ns) :: x.air.filter (fun a => decide (now - 1000000000 < a.2)) } d
/-- A mute cuts what is on air (R368). -/
def cutTone (t : Nat) (d : Dev) : Dev :=
  if toneBusy d t then
    let x := toneTx d t
    setTone t { x with air := x.air.map (fun a => (a.1, min a.2 (nowNs d))) } d
  else d
def cutTones (n : Nat) (d : Dev) : Dev := if emits d n then d else (coachesOf n).foldl (fun d t => cutTone t d) d

end Sys2Proof.Machine
end

