-- ==== Sys2Proof/Machine/Rates.lean ====
section
/-! DEFINITION. Rate classes, profiles, the choice of H and the net rate (R38 to R50). -/

namespace Sys2Proof.Machine

/-- Coach symbol rate in kBd of a rate class (R40). -/
def symbolRate (cls : Nat) : Nat := if cls = 0 then 25000000 else if cls = 1 then 12500000 else 6250000
/-- Information length k of a profile (R43). -/
def infoLength (profile : Nat) : Nat := if profile = 0 then 24576 else if profile = 1 then 26112 else 27648
/-- Net rate per bit of H as a fraction, in kb/s: 2 S (31/32) r (1 − 256/(16 k)) (R47). -/
def unitNum (cls profile : Nat) : Nat := 2 * symbolRate cls * 31 * (16 * infoLength profile - 256)
def unitDen : Nat := 32 * 30720 * 16
/-- H in 1/64 bit that a slot count needs, never below 64 (R47). -/
def needH (cls profile slots : Nat) : Nat :=
  let h := ceilDiv (64 * (slots * 5000000) * unitDen) (unitNum cls profile)
  if h < 64 then 64 else h
/-- The slot count is refused with ENTROPY_LIMIT (R47). -/
def entropyOver (cls profile slots : Nat) : Bool := decide (0 < slots) && decide (368 < needH cls profile slots)
/-- Net rate in kb/s, rounded down (R46, R77). -/
def netRate (cls profile slots : Nat) : Nat := needH cls profile slots * unitNum cls profile / (64 * unitDen)
/-- CONSTELLATION: 2 PCS-64QAM above 3.9, else 1 PCS-16QAM (R48). -/
def constellation (h : Nat) : Nat := if 250 ≤ h then 2 else 1
/-- Minimum channel slot in MHz (R40). -/
def channelSlot (cls : Nat) : Nat := if cls = 0 then 437500 else if cls = 1 then 237500 else 137500

end Sys2Proof.Machine
end

