-- ==== Sys2Proof/Machine/Bias.lean ====
section
/-! DEFINITION. Transmit engine states, muting, the laser-low condition, hitch transmit and modulator bias (R60 to R73, R552,
R553). -/

namespace Sys2Proof.Machine

/-! ## Bias outputs -/

def biasOf (d : Dev) (b : Nat) : BiasOutput := tabGet (fun _ => {}) d.tx.bias b
def setBias (b : Nat) (x : BiasOutput) (d : Dev) : Dev :=
  { d with tx := { d.tx with bias := tabPut (fun _ => {}) d.tx.bias b x } }
/-- The six bias outputs of an engine (R68). -/
def biasOutputs (n : Nat) : List Nat := (List.range 6).map (6 * n + ·)
/-- Ready in the sense of R72. -/
def biasReady (x : BiasOutput) : Bool := x.state == .locked || x.state == .manual || x.mode == .hold
/-- An output enters its configured mode (R69, R70): a MANUAL output goes to its SETPOINT or, outside the window, to the nearer
edge. The time of a slew is not modelled. -/
def enterMode (lo hi : Nat) (x : BiasOutput) : BiasOutput :=
  match x.mode with
  | .lock => { x with state := .sweep, lockPoint := none }
  | .hold => { x with state := .held }
  | .manual => { x with mv := clamp lo hi x.setpoint, state := if within lo hi x.setpoint then .manual else .windowLimit }
/-- Hold the value of an output for a mute or LASER_LOW: only outputs in LOCK are held (R71). -/
def holdLock (x : BiasOutput) : BiasOutput :=
  if x.mode = .lock && x.state != .held && x.state != .off then { x with resume := x.state, state := .held } else x
/-- Resume locking when the mute or LASER_LOW ends (R71). -/
def resumeLock (x : BiasOutput) : BiasOutput :=
  if x.mode = .lock && x.state = .held then { x with state := x.resume } else x
/-- Enter or resume the configured mode from a held value (R72): a MANUAL output that waited for the laser goes to its SETPOINT. -/
def resumeMode (lo hi : Nat) (x : BiasOutput) : BiasOutput :=
  if x.mode = .manual && x.state != .off then enterMode lo hi x else resumeLock x
/-- Apply a change to every bias output of an engine. -/
def mapBias (n : Nat) (f : Nat → BiasOutput → BiasOutput) (d : Dev) : Dev :=
  (biasOutputs n).foldl (fun d b => setBias b (f b (biasOf d b)) d) d
/-- Every output of an engine enters its configured mode. -/
def enterModes (n : Nat) (d : Dev) : Dev := mapBias n (fun b x => enterMode (biasLow d b) (biasHigh d b) x) d
/-- Outputs hold their present values while the engine waits for its laser (R72): the mode is entered later. -/
def waitForLaser (n : Nat) (d : Dev) : Dev :=
  mapBias n (fun _ x => { x with state := .held, resume := match x.mode with | .lock => .sweep | .hold => .held | .manual => .manual }) d

/-! ## Engine state -/

/-- The engine has a lit coach. -/
def anyLit (d : Dev) (n : Nat) : Bool := (coachesOf n).any (litCoach d)
/-- CARRIER_ONLY or RUNNING, by the lit coaches (R72). -/
def litState (d : Dev) (n : Nat) : TxState := if anyLit d n then .running else .carrierOnly
/-- The engine gives nothing to step 6 of its partner: gate closed or no lit coach (R66). DEDUCED: an engine whose gate is closed for another reason
than a mute (BIAS_ACQ, BIAS_FAIL, LASER_LOW) counts as the muted one does, because step 6 takes the samples as they leave the partner's gate. -/
def partnerIdle (d : Dev) (n : Nat) : Bool := !(engTx d n).gateOpen || !anyLit d n
/-- Record whether an engine is idle to its hitch partner, raising HITCH_PARTNER_IDLE on the partner at a change while
TX_ENABLE is set (R66); an engine that has gone dark cuts its Ixtas packets (R368). -/
def noteHitch (n : Nat) (d0 : Dev) : Dev :=
  let d := cutTones n d0
  let h := hitchOf d (n / 2)
  let now := partnerIdle d n
  let old := if n % 2 = 0 then h.idle0 else h.idle1
  if now = old then d
  else
    let d1 := setHitch (n / 2) (if n % 2 = 0 then { h with idle0 := now } else { h with idle1 := now }) d
    if h.txEnable then raiseCause (.engTx (if n % 2 = 0 then n + 1 else n - 1)) 9 d1 else d1
/-- An engine in RUNNING is about to leave it: lit coaches whose frames have not begun yet begin all the same, behind the closed gate (R552). -/
def keepStarts (n : Nat) (d : Dev) : Dev :=
  if (engTx d n).state = .running then
    (coachesOf n).foldl (fun d c => let x := coachTx d c; if litCoach d c && !x.framesRun then setCoachTx c { x with starts := true } d else d) d
  else d
/-- The states of R72 in which a mute source acts. -/
def mutable (s : TxState) : Bool := s == .biasAcq || s == .carrierOnly || s == .running || s == .laserLow
/-- Enter MUTED: gate closed, outputs in LOCK hold, MUTED raised (R61, R71, R72). -/
def enterMuted (n : Nat) (d : Dev) : Dev :=
  let e := engTx d n
  raiseCause (.engTx n) 6
    (mapBias n (fun _ => holdLock) (setEngTx n { e with state := .muted, before := e.state, gateOpen := false } (keepStarts n d)))
/-- All six outputs ready in BIAS_ACQ: CARRIER_ONLY or RUNNING, gate opened (R72). -/
def acquireDone (n : Nat) (d : Dev) : Dev :=
  let e := engTx d n
  if e.state = .biasAcq && (biasOutputs n).all (fun b => biasReady (biasOf d b)) then
    setEngTx n { e with state := litState d n, gateOpen := true } d
  else d
/-- CARRIER_ONLY and RUNNING follow the lit coaches (R72). -/
def followLit (n : Nat) (d : Dev) : Dev :=
  let e := engTx d n
  if e.state = .carrierOnly || e.state = .running then setEngTx n { e with state := litState d n } d else d
/-- Bring an engine to rest after a change: a mute source takes precedence, then readiness, then the lit coaches. -/
def settleEngine (n : Nat) (d : Dev) : Dev :=
  let e := engTx d n
  let d1 := if e.mute != 0 && mutable e.state then enterMuted n d else followLit n (acquireDone n d)
  noteHitch n d1
/-- A mute source of an engine becomes active (R61). -/
def muteSource (n i : Nat) (d : Dev) : Dev :=
  let e := engTx d n
  settleEngine n (setEngTx n { e with mute := e.mute ||| BitVec.twoPow 4 i } d)
/-- A mute source clears; the gate reopens only through UNMUTED (R63). -/
def unmuteSource (n i : Nat) (d : Dev) : Dev :=
  let e := engTx d n
  setEngTx n { e with mute := e.mute &&& ~~~ BitVec.twoPow 4 i } d
/-- The same for every engine of a list. -/
def muteAll (ns : List Nat) (i : Nat) (d : Dev) : Dev := ns.foldl (fun d n => muteSource n i d) d
def unmuteAll (ns : List Nat) (i : Nat) (d : Dev) : Dev := ns.foldl (fun d n => unmuteSource n i d) d

/-- TXMUTE_N falls: every engine is muted (R62). -/
def execTxmuteNLow : State → Host.Outcome State Fault Refusal :=
  lift fun d => muteAll (List.range 16) 0 { d with pins := { d.pins with txmuteLow := true } }
/-- TXMUTE_N rises: that mute source clears (R63). -/
def execTxmuteNHigh : State → Host.Outcome State Fault Refusal :=
  lift fun d => unmuteAll (List.range 16) 0 { d with pins := { d.pins with txmuteLow := false } }

/-- The state an engine returns to when its mutes have cleared (R72). -/
def afterMute (d : Dev) (n : Nat) : TxState :=
  let e := engTx d n
  if e.laserLow then .laserLow
  else match e.before with
    | .laserLow => .biasAcq
    | .carrierOnly | .running => litState d n
    | s => s
/-- 10 µs after the last mute source cleared: the gate reopens if the next state launches (R63, R72). -/
def reopen (n : Nat) (d : Dev) : Dev :=
  let s := afterMute d n
  let e := engTx d n
  let d1 := setEngTx n { e with state := s, gateOpen := s == .carrierOnly || s == .running } d
  settleEngine n (raiseCause (.engTx n) 7 (if s = .laserLow then d1
    else mapBias n (fun b => resumeMode (biasLow d b) (biasHigh d b)) d1))
def execUnmuted (n : Engine) : State → Host.Outcome State Fault Refusal :=
  lift fun d => guard ((engTx d n).state == .muted && (engTx d n).mute == 0) (reopen n) d

/-- The laser-low condition sets (R553): transmit side. -/
def txLaserLow (n : Nat) (d : Dev) : Dev :=
  let e := engTx d n
  let d1 := setEngTx n { e with laserLow := true } (keepStarts n d)
  if e.state = .biasAcq || e.state = .carrierOnly || e.state = .running then
    noteHitch n (raiseCause (.engTx n) 2 (mapBias n (fun _ => holdLock)
      (setEngTx n { e with laserLow := true, state := .laserLow, gateOpen := false } d1)))
  else if e.state = .muted then raiseCause (.engTx n) 2 d1
  else d1
/-- The laser-low condition clears (R553): transmit side. -/
def txLaserRestored (n : Nat) (d : Dev) : Dev :=
  let e := engTx d n
  let d1 := setEngTx n { e with laserLow := false } d
  if e.state = .laserLow then
    settleEngine n (raiseCause (.engTx n) 3 (mapBias n (fun b => resumeMode (biasLow d b) (biasHigh d b))
      (setEngTx n { e with laserLow := false, state := .biasAcq } d1)))
  else if e.state = .muted then raiseCause (.engTx n) 3 d1
  else d1

/-! ## Bias events (R69 to R72) -/

/-- The engine's outputs are under control of their loops: neither disabled, muted nor waiting for its laser. -/
def loopsRun (d : Dev) (b : Nat) : Bool :=
  let s := (engTx d (b / 6)).state
  s == .biasAcq || s == .carrierOnly || s == .running || s == .biasFail
/-- Distance of a voltage from the window centre, doubled. -/
def fromCentre (lo hi p : Nat) : Nat := (2 * (p : Int) - ((lo : Int) + hi)).natAbs
/-- The lock point nearest the window centre; of two equally near, the lower (DESIGN CHOICE). -/
def nearestPoint (lo hi : Nat) : List Nat → Option Nat
  | [] => none
  | p :: t => match nearestPoint lo hi t with
    | none => some p
    | some q => if fromCentre lo hi p < fromCentre lo hi q || (fromCentre lo hi p == fromCentre lo hi q && p ≤ q)
                then some p else some q
/-- The entry sweep ends having found the points `points`: the output goes to the one nearest the window centre (R69). DESIGN CHOICE: a sweep that
finds none inside the window leaves the output in SWEEP; the manual does not say. -/
def sweepEnd (b : Nat) (points : List Nat) (d : Dev) : Dev :=
  let x := biasOf d b
  match nearestPoint (biasLow d b) (biasHigh d b) (points.filter (within (biasLow d b) (biasHigh d b))) with
  | some p => setBias b { x with mv := p, lockPoint := some p, state := .locking } d
  | none => d
def execBiasSweepEnd (b : BiasOut) (points : List (Fin 16384)) : State → Host.Outcome State Fault Refusal :=
  lift fun d =>
    let x := biasOf d b
    guard (x.mode == .lock && (x.state == .sweep || x.state == .windowLimit) && loopsRun d b)
      (sweepEnd b (points.map (·.val))) d
/-- The error has stayed within ±25 mV for 100 ms: LOCKED; with all six ready the engine leaves BIAS_ACQ (R69, R72). -/
def biasLock (b : Nat) (d : Dev) : Dev :=
  settleEngine (b / 6) (setBias b { biasOf d b with state := .locked } d)
def execBiasLocked (b : BiasOut) : State → Host.Outcome State Fault Refusal :=
  lift fun d =>
    let x := biasOf d b
    guard (x.mode == .lock && (x.state == .locking || x.state == .windowLimit) && loopsRun d b) (biasLock b) d
/-- A LOCKED output's error has left the threshold for more than 100 ms (R71). -/
def execBiasUnlock (b : BiasOut) : State → Host.Outcome State Fault Refusal :=
  lift fun d => guard ((biasOf d b).state == .locked && loopsRun d b)
    (fun d => raiseCause (.engTx (b / 6)) 1 (setBias b { biasOf d b with state := .locking } d)) d
/-- Acquisition time reaches 500 ms (R72). -/
def execBiasFail (n : Engine) : State → Host.Outcome State Fault Refusal :=
  lift fun d => guard ((engTx d n).state == .biasAcq)
    (fun d => noteHitch n <| raiseCause (.engTx n) 0 (setEngTx n { engTx d n with state := .biasFail, gateOpen := false } d)) d
/-- The loop error would carry an output past a window edge: it stays at the edge (R70). -/
def execLockLoopEdge (b : BiasOut) (high : Bool) : State → Host.Outcome State Fault Refusal :=
  lift fun d =>
    let x := biasOf d b
    guard (x.mode == .lock && (x.state == .locking || x.state == .locked) && loopsRun d b)
      (fun d => raiseCause (.engTx (b / 6)) 8
        (setBias b { biasOf d b with state := .windowLimit, mv := if high then biasHigh d b else biasLow d b } d)) d

/-- The loop of a LOCKING or LOCKED output follows its lock point as it drifts, one mV at a time and no faster than the slew cap, inside the
window (R69, R70). The drift is the modulator's own: a free value. -/
def followDrift (b k : Nat) (d : Dev) : Dev :=
  let x := biasOf d b
  if x.mode = .lock && (x.state = .locking || x.state = .locked) && loopsRun d b
      && decide (1000000 ≤ (nowNs d - x.movedAt) * biasSlewOf d b) then
    let mv := if k = 1 then x.mv + 1 else if k = 2 then x.mv - 1 else x.mv
    if mv = x.mv || !within (biasLow d b) (biasHigh d b) mv then d
    else setBias b { x with mv := mv, lockPoint := some mv, movedAt := nowNs d } d
  else d
/-- The bias window of an output has changed (R70): a value outside goes to the nearer edge, a MANUAL output follows its
SETPOINT, unless it waits for the laser, an entry sweep restarts. DESIGN CHOICE: a HOLD output that was moved to an edge stays in WINDOW_LIMIT until a
later change of the window that holds its value returns it to HELD; the manual gives no way back. -/
def windowChanged (b : Nat) (d : Dev) : Dev :=
  let x := biasOf d b
  let lo := biasLow d b
  let hi := biasHigh d b
  if x.state = .off then d
  else if !within lo hi x.mv then
    let y := { x with mv := clamp lo hi x.mv, state := .windowLimit }
    let waits := x.state == .held && x.mode == .manual
    settleEngine (b / 6) (raiseCause (.engTx (b / 6)) 8 (setBias b (if x.mode = .manual && !waits then enterMode lo hi y else y) d))
  else match x.mode with
    | .manual =>
      if x.state = .windowLimit then settleEngine (b / 6) (setBias b (enterMode lo hi x) d) else d
    | .lock => if x.state = .sweep then setBias b { x with lockPoint := none } d else d
    | .hold => if x.state = .windowLimit then setBias b { x with state := .held } d else d

end Sys2Proof.Machine
end

