-- ==== Sys2Proof/Machine/Code.lean ====
section
/-! DEFINITION. The quasi-cyclic LDPC code of the pool and the encoder (R117 to R120). -/

namespace Sys2Proof.Machine

/-- A block of 512 bits of a codeword. -/
abbrev Block := BitVec 512
/-- Block rows m_b and information block columns k_b of a profile (R117). -/
def blockRows (profile : Nat) : Nat := if profile = 0 then 12 else if profile = 1 then 9 else 6
def infoCols (profile : Nat) : Nat := if profile = 0 then 48 else if profile = 1 then 51 else 54
/-- P^s times a block: row a takes the bit at (a + s) mod 512 (R118). -/
def circ (s : Nat) (v : Block) : Block := v.rotateRight (s % 512)
/-- Shift of the block at row r of information column j (R118). -/
def shiftOf (r j : Nat) : Nat := (29 * (r + 1) * (j + 1) + 7 * r * r) % 512
/-- The three rows of information column j (R118). -/
def rowsOf (profile j : Nat) : List Nat :=
  let m := blockRows profile
  [(j + j / m) % m, (j + j / m + m / 3) % m, (j + j / m + 2 * (m / 3)) % m]
/-- Block j of a codeword (R117). -/
def blockAt (x : BitVec 30720) (j : Nat) : Block := x.extractLsb' (512 * j) 512
/-- The sum of row r over the information blocks: λ_r (R119). -/
def lambda (profile : Nat) (x : BitVec 30720) (r : Nat) : Block :=
  (List.range (infoCols profile)).foldl
    (fun a j => if (rowsOf profile j).contains r then a ^^^ circ (shiftOf r j) (blockAt x j) else a) 0
/-- The sum of row r over the parity blocks: column k_b and columns k_b + 1 + i (R118). -/
def paritySum (profile : Nat) (x : BitVec 30720) (r : Nat) : Block :=
  let m := blockRows profile
  let k := infoCols profile
  let p0 := blockAt x k
  let first := if r = 0 || r + 1 = m then circ 1 p0 else if r = m / 2 then p0 else 0
  let right := if r + 1 < m then blockAt x (k + 1 + r) else 0
  let left := if 0 < r then blockAt x (k + r) else 0
  first ^^^ right ^^^ left
/-- The syndrome of a row. -/
def syndromeRow (profile : Nat) (x : BitVec 30720) (r : Nat) : Block := lambda profile x r ^^^ paritySum profile x r
/-- Number of one bits. -/
def ones {n : Nat} (v : BitVec n) : Nat := ((List.range n).filter (v.getLsbD ·)).length
/-- The parity checks that a word leaves unsatisfied (R128). -/
def unsatisfied (profile : Nat) (x : BitVec 30720) : Nat :=
  ((List.range (blockRows profile)).map (fun r => ones (syndromeRow profile x r))).sum
/-- A word is a codeword: H xᵀ = 0 (R118). -/
def isCodeword (profile : Nat) (x : BitVec 30720) : Bool :=
  (List.range (blockRows profile)).all (fun r => syndromeRow profile x r == 0)
/-- Parity blocks p_1 to p_{m−1} from p_0, in order (R119): `r` is the row whose λ comes next, `p` the block before. -/
def parityFrom (profile : Nat) (x : BitVec 30720) (p0 : Block) : Nat → Nat → Block → List Block
  | 0, _, _ => []
  | n + 1, r, p =>
    let q := lambda profile x r ^^^ p ^^^ (if r = blockRows profile / 2 then p0 else 0)
    q :: parityFrom profile x p0 n (r + 1) q
/-- The parity blocks p_0 to p_{m−1} of information bits `x` (R119). -/
def parityBlocks (profile : Nat) (x : BitVec 30720) : List Block :=
  let m := blockRows profile
  let p0 := (List.range m).foldl (fun a r => a ^^^ lambda profile x r) 0
  let p1 := lambda profile x 0 ^^^ circ 1 p0
  p0 :: p1 :: parityFrom profile x p0 (m - 2) 1 p1
/-- Place blocks from column j upwards. -/
def placeBlocks (x : BitVec 30720) : Nat → List Block → BitVec 30720
  | _, [] => x
  | j, b :: t => placeBlocks (x ||| (b.setWidth 30720 <<< (512 * j))) (j + 1) t
/-- The information bits of a word: bits 0 to k − 1. -/
def infoBits (profile : Nat) (x : BitVec 30720) : BitVec 30720 := x &&& (BitVec.allOnes 30720 >>> (30720 - infoLength profile))
/-- The systematic encoder (R119). -/
def encode (profile : Nat) (info : BitVec 30720) : BitVec 30720 :=
  let x := infoBits profile info
  placeBlocks x (infoCols profile) (parityBlocks profile x)

end Sys2Proof.Machine
end

