-- ==== Sys2Proof/Machine/Aes.lean ====
section
/-! DEFINITION. The AES-256 block cipher, which R281, R299 and R304 name. PRESUMED: the manual does not define it; this is FIPS 197. A
block holds its first byte in its most significant bits. -/

namespace Sys2Proof.Machine

/-- A 16-byte block. -/
abbrev Block16 := BitVec 128
/-- The substitution of byte 0 to 255, byte 0 in the most significant place. -/
def sBox : BitVec 2048 :=
  0x637C777BF26B6FC53001672BFED7AB76CA82C97DFA5947F0ADD4A2AF9CA472C0B7FD9326363FF7CC34A5E5F171D8311504C723C31896059A071280E2EB27B275#512 ++
  0x09832C1A1B6E5AA0523BD6B329E32F8453D100ED20FCB15B6ACBBE394A4C58CFD0EFAAFB434D338545F9027F503C9FA851A3408F929D38F5BCB6DA2110FFF3D2#512 ++
  0xCD0C13EC5F974417C4A77E3D645D197360814FDC222A908846EEB814DE5E0BDBE0323A0A4906245CC2D3AC629195E479E7C8376D8DD54EA96C56F4EA657AAE08#512 ++
  0xBA78252E1CA6B4C6E8DD741F4BBD8B8A703EB5664803F60E613557B986C11D9EE1F8981169D98E949B1E87E9CE5528DF8CA1890DBFE6426841992D0FB054BB16#512
/-- Its inverse. -/
def sBoxInv : BitVec 2048 :=
  0x52096AD53036A538BF40A39E81F3D7FB7CE339829B2FFF87348E4344C4DEE9CB547B9432A6C2233DEE4C950B42FAC34E082EA16628D924B2765BA2496D8BD125#512 ++
  0x72F8F66486689816D4A45CCC5D65B6926C704850FDEDB9DA5E154657A78D9D8490D8AB008CBCD30AF7E45805B8B34506D02C1E8FCA3F0F02C1AFBD0301138A6B#512 ++
  0x3A9111414F67DCEA97F2CFCEF0B4E67396AC7422E7AD3585E2F937E81C75DF6E47F11A711D29C5896FB7620EAA18BE1BFC563E4BC6D279209ADBC0FE78CD5AF4#512 ++
  0x1FDDA8338807C731B11210592780EC5F60517FA919B54A0D2DE57A9F93C99CEFA0E03B4DAE2AF5B0C8EBBB3C83539961172B047EBA77D626E169146355210C7D#512
def substitute (t : BitVec 2048) (b : Byte) : Byte := t.extractLsb' (8 * (255 - b.toNat)) 8
/-- Every byte of a block twice in GF(2⁸): shifted, and reduced by 0x11B where its top bit was set. -/
def twiceBytes (b : Block16) : Block16 :=
  ((b &&& 0x7F7F7F7F7F7F7F7F7F7F7F7F7F7F7F7F) <<< 1) ^^^ (((b >>> 7) &&& 0x01010101010101010101010101010101) * 0x1B)
/-- Every column's bytes move up by one row; the first row goes last. -/
def turnColumns (b : Block16) : Block16 :=
  ((b <<< 8) &&& 0xFFFFFF00FFFFFF00FFFFFF00FFFFFF00) ||| ((b >>> 24) &&& 0x000000FF000000FF000000FF000000FF)
/-- The bytes of a block, first byte first, and back. -/
def aesBytes (b : Block16) : List Byte := (List.range 16).map (fun i => b.extractLsb' (8 * (15 - i)) 8)
def aesBlock (bs : List Byte) : Block16 := bs.foldl (fun a b => (a <<< 8) ||| b.setWidth 128) 0
/-- Row r of the 4 × 4 array moves by r columns times `k` (1 forward, 3 back). -/
def moveRows (k : Nat) (bs : List Byte) : List Byte := (List.range 16).map (fun i => nth bs ((i + 4 * k * (i % 4)) % 16) 0)
/-- Every column times the circulant matrix with first row 2, 3, 1, 1. -/
def mixColumns (b : Block16) : Block16 :=
  let r := turnColumns b
  let r2 := turnColumns r
  twiceBytes (b ^^^ r) ^^^ r ^^^ r2 ^^^ turnColumns r2
/-- The inverse, the matrix with first row 14, 11, 13, 9: that of `mixColumns` times the one with first row 5, 0, 4, 0. -/
def unmixColumns (b : Block16) : Block16 := mixColumns (b ^^^ twiceBytes (twiceBytes (b ^^^ turnColumns (turnColumns b))))

/-! ## Key schedule -/

def substituteWord (w : Word) : Word :=
  (List.range 4).foldl (fun a i => a ||| ((substitute sBox (w.extractLsb' (8 * i) 8)).setWidth 32 <<< (8 * i))) 0
/-- The round constant of schedule word 8 i. -/
def roundConstant (i : Nat) : Word := BitVec.ofNat 32 (2 ^ (23 + i))
/-- The schedule word after those in `ws`, most recent first. -/
def nextWord (ws : List Word) : Word :=
  let n := ws.length
  let p := nth ws 0 0
  let t := if n % 8 = 0 then substituteWord (p.rotateLeft 8) ^^^ roundConstant (n / 8) else if n % 8 = 4 then substituteWord p else p
  nth ws 7 0 ^^^ t
def scheduleWords (key : BitVec 256) : List Word :=
  ((List.range 52).foldl (fun ws _ => nextWord ws :: ws) ((List.range 8).map (fun i => key.extractLsb' (32 * i) 32))).reverse
/-- The fifteen round keys. -/
def roundKeys (key : BitVec 256) : List Block16 :=
  let ws := scheduleWords key
  (List.range 15).map (fun r => (List.range 4).foldl (fun a i => (a <<< 32) ||| (nth ws (4 * r + i) 0).setWidth 128) 0)

/-! ## The cipher -/

def forwardRound (last : Bool) (b k : Block16) : Block16 :=
  let s := aesBlock (moveRows 1 ((aesBytes b).map (substitute sBox)))
  (if last then s else mixColumns s) ^^^ k
/-- AES-256 encryption of a block. -/
def aes256 (key : BitVec 256) (b : Block16) : Block16 :=
  (roundKeys key).zipIdx.foldl (fun s k => if k.2 = 0 then s ^^^ k.1 else forwardRound (k.2 == 14) s k.1) b
def inverseRound (last : Bool) (b k : Block16) : Block16 :=
  let s := aesBlock ((moveRows 3 (aesBytes b)).map (substitute sBoxInv)) ^^^ k
  if last then s else unmixColumns s
/-- AES-256 decryption of a block. -/
def aes256Inv (key : BitVec 256) (b : Block16) : Block16 :=
  (roundKeys key).reverse.zipIdx.foldl (fun s k => if k.2 = 0 then s ^^^ k.1 else inverseRound (k.2 == 14) s k.1) b

end Sys2Proof.Machine
end

