-- ==== Sys2Proof/Machine/Crypto.lean ====
section
/-! DEFINITION. The modes of AES-256 that the cipher lanes and the job engine use (R281, R299, R304): GCM, CTR, CMAC and key wrap,
over the block cipher. -/

namespace Sys2Proof.Machine

/-- A block from up to 16 bytes, padded with zeros at the end. -/
def cipherBlock (bs : List Byte) : Block16 := BitVec.ofNat 128 (beNat (bs ++ zeros (16 - bs.length)))
def cipherBytes (b : Block16) : List Byte := be 16 b.toNat
def cipherBlocks (bs : List Byte) : List (List Byte) := byteChunks 16 bs.length bs
def xorBytes (a b : List Byte) : List Byte := List.zipWith (· ^^^ ·) a b

/-! ## GHASH and GCM -/

/-- One step of the product in GF(2¹²⁸): bit `i` of the first factor, most significant first. -/
def gfStep (x : Block16) (s : Block16 × Block16) (i : Nat) : Block16 × Block16 :=
  (if x.getMsbD i then s.1 ^^^ s.2 else s.1,
   if s.2.getLsbD 0 then (s.2 >>> 1) ^^^ (0xE1#128 <<< 120) else s.2 >>> 1)
def gfMul (x y : Block16) : Block16 := ((List.range 128).foldl (gfStep x) (0, y)).1
/-- GHASH continued from an accumulator. -/
def ghash (h acc : Block16) (bs : List Byte) : Block16 := (cipherBlocks bs).foldl (fun a b => gfMul (a ^^^ cipherBlock b) h) acc
/-- The counter block with its low 32 bits advanced by one. -/
def inc32 (c : Block16) : Block16 := (c &&& ~~~ 0xFFFFFFFF#128) ||| ((c + 1) &&& 0xFFFFFFFF#128)
/-- Counter-mode encryption from a counter block. -/
def ctrFrom (key : BitVec 256) : Block16 → List (List Byte) → List Byte
  | _, [] => []
  | c, b :: t => xorBytes b (cipherBytes (aes256 key c)) ++ ctrFrom key (inc32 c) t
def ctrMode (key : BitVec 256) (c : Block16) (bs : List Byte) : List Byte := ctrFrom key c (cipherBlocks bs)
/-- J0 = IV ‖ 0x00000001 (R282). -/
def preCounter (iv : List Byte) : Block16 := cipherBlock (iv ++ [0, 0, 0, 1])
/-- The tag over additional data and ciphertext. -/
def gcmTag (key : BitVec 256) (iv aad ct : List Byte) : List Byte :=
  let h := aes256 key 0
  let s := ghash h (ghash h 0 aad) ct
  let l := gfMul (s ^^^ cipherBlock (be 8 (8 * aad.length) ++ be 8 (8 * ct.length))) h
  cipherBytes (l ^^^ aes256 key (preCounter iv))
/-- GCM: ciphertext and tag. -/
def gcmSeal (key : BitVec 256) (iv aad pt : List Byte) : List Byte × List Byte :=
  let ct := ctrMode key (inc32 (preCounter iv)) pt
  (ct, gcmTag key iv aad ct)
/-- GCM opening: the plaintext where the tag matches. -/
def gcmOpen (key : BitVec 256) (iv aad ct tag : List Byte) : Option (List Byte) :=
  if gcmTag key iv aad ct = tag then some (ctrMode key (inc32 (preCounter iv)) ct) else none

/-! ## CMAC -/

def doubleBlock (b : Block16) : Block16 := if b.msb then (b <<< 1) ^^^ 0x87 else b <<< 1
/-- CMAC's last step on the final block (1 to 16 bytes, or none of an empty message) from a chaining value. -/
def cmacLast (key : BitVec 256) (acc : Block16) (last : List Byte) : Block16 :=
  let k1 := doubleBlock (aes256 key 0)
  let m := if last.length = 16 then cipherBlock last ^^^ k1 else cipherBlock (last ++ [0x80]) ^^^ doubleBlock k1
  aes256 key (acc ^^^ m)

/-! ## Key wrap (RFC 3394) -/

/-- One step of wrapping: A, the 64-bit register and the step number. -/
def wrapStep (key : BitVec 256) (a r : BitVec 64) (t : Nat) : BitVec 64 × BitVec 64 :=
  let b := aes256 key (a ++ r)
  (b.extractLsb' 64 64 ^^^ BitVec.ofNat 64 t, b.extractLsb' 0 64)
/-- One pass over the registers; `t` is the number of the first step. -/
def wrapPass (key : BitVec 256) : BitVec 64 → Nat → List (BitVec 64) → BitVec 64 × List (BitVec 64)
  | a, _, [] => (a, [])
  | a, t, r :: rs =>
    let s := wrapStep key a r t
    let p := wrapPass key s.1 (t + 1) rs
    (p.1, s.2 :: p.2)
def wordsOf (bs : List Byte) : List (BitVec 64) := (byteChunks 8 bs.length bs).map (fun c => BitVec.ofNat 64 (beNat c))
def kwWrap (key : BitVec 256) (bs : List Byte) : List Byte :=
  let n := bs.length / 8
  let p := (List.range 6).foldl (fun s j => wrapPass key s.1 (n * j + 1) s.2) (0xA6A6A6A6A6A6A6A6#64, wordsOf bs)
  (p.1 :: p.2).flatMap (fun w => be 8 w.toNat)
def unwrapStep (key : BitVec 256) (a r : BitVec 64) (t : Nat) : BitVec 64 × BitVec 64 :=
  let b := aes256Inv key ((a ^^^ BitVec.ofNat 64 t) ++ r)
  (b.extractLsb' 64 64, b.extractLsb' 0 64)
/-- One pass over the registers from the last to the first: the list and the numbers are reversed. -/
def unwrapPass (key : BitVec 256) : BitVec 64 → Nat → List (BitVec 64) → BitVec 64 × List (BitVec 64)
  | a, _, [] => (a, [])
  | a, t, r :: rs =>
    let s := unwrapStep key a r t
    let p := unwrapPass key s.1 (t - 1) rs
    (p.1, s.2 :: p.2)
/-- Unwrapping: none where the integrity value does not come back. -/
def kwUnwrap (key : BitVec 256) (bs : List Byte) : Option (List Byte) :=
  match wordsOf bs with
  | [] => none
  | a :: rs =>
    let n := rs.length
    let p := (List.range 6).foldl (fun s j => unwrapPass key s.1 (n * (6 - j)) s.2) (a, rs.reverse)
    if p.1 = 0xA6A6A6A6A6A6A6A6#64 then some (p.2.reverse.flatMap (fun w => be 8 w.toNat)) else none

end Sys2Proof.Machine
end

