-- ==== Sys2Proof/Machine/FrameBits.lean ====
section
/-! DEFINITION. The carriage frame as bits: header and its check, regions, slot area, legs, scrambling, segments and tags, and the
codewords that carry it (R151 to R166, R183, R184, R217 to R220, R281 to R284). -/

namespace Sys2Proof.Machine

/-! ## CRC-32C and the header -/

/-- One bit into the reflected CRC-32C (R157). -/
def crc32cBit (r : Word) (b : Bool) : Word := if (r.getLsbD 0 ^^ b) then (r >>> 1) ^^^ 0x82F63B78 else r >>> 1
/-- CRC-32C of bits in ascending order. -/
def crc32c (bits : List Bool) : Word := ~~~ (bits.foldl crc32cBit 0xFFFFFFFF)
/-- Bits of a vector in ascending order from bit `i`. -/
def bitsFrom {n : Nat} (v : BitVec n) (i : Nat) : Nat → List Bool
  | 0 => []
  | k + 1 => v.getLsbD i :: bitsFrom v (i + 1) k
/-- Bits of bytes, bit 0 of each first (R164). -/
def byteBitsLsb (bs : List Byte) : List Bool := bs.flatMap (fun b => bitsFrom b 0 8)
/-- A byte from up to 8 bits, bit 0 first. -/
def byteOf (l : List Bool) : Byte := BitVec.ofNat 8 (l.foldr (fun b a => 2 * a + b2n b) 0)
/-- Bytes from bits; `n` bounds their number. -/
def bytesOf : Nat → List Bool → List Byte
  | 0, _ => []
  | n + 1, l => if l.isEmpty then [] else byteOf (l.take 8) :: bytesOf n (l.drop 8)

/-- Header bits 0 to 223 as a number, from (low bit, value) fields. -/
def headerFields (h : Header) : List (Nat × Nat) :=
  if h.version = 2 then
    [(0, 2), (6, h.slots), (12, h.keyIndex), (13, b2n h.cipher), (16, h.fc), (48, h.source), (56, h.trace), (72, h.stat), (74, b2n h.bdi)]
  else
    [(0, h.version), (4, h.profile), (6, h.slots), (12, h.keyIndex), (13, b2n h.cipher), (14, h.twinRole), (16, h.fc), (64, h.source),
     (72, h.trace), (88, h.stat), (90, b2n h.bdi), (91, h.bei), (95, b2n h.chgValid), (96, h.chgSlots), (102, h.chgAt)]
/-- A header with its CRC: header bit i is bit i (R155 to R157, R183). -/
def headerBits (h : Header) : BitVec 256 :=
  let v := BitVec.ofNat 256 ((headerFields h).foldl (fun a f => a + f.2 * 2 ^ f.1) 0)
  v ||| ((crc32c (bitsFrom v 0 224)).setWidth 256 <<< 224)
/-- A field of a received header. -/
def hf (v : BitVec 256) (lo n : Nat) : Nat := v.toNat / 2 ^ lo % 2 ^ n
/-- A candidate fits: its check and its VERSION (R167). -/
def headerFits (v : BitVec 256) : Bool :=
  hf v 224 32 == (crc32c (bitsFrom v 0 224)).toNat && (hf v 0 4 == 2 || hf v 0 4 == 3)
/-- The fields of a fitting header, by the layout that its VERSION selects; reserved bits are ignored. -/
def headerOf (v : BitVec 256) : Header :=
  if hf v 0 4 = 2 then
    { version := 2, profile := 1, slots := hf v 6 6, keyIndex := hf v 12 1, cipher := hf v 13 1 == 1, fc := hf v 16 32
      source := hf v 48 8, trace := hf v 56 16, stat := hf v 72 2, bdi := hf v 74 1 == 1 }
  else
    { version := hf v 0 4, profile := hf v 4 2, slots := hf v 6 6, keyIndex := hf v 12 1, cipher := hf v 13 1 == 1
      twinRole := hf v 14 2, fc := hf v 16 48, source := hf v 64 8, trace := hf v 72 16, stat := hf v 88 2, bdi := hf v 90 1 == 1
      bei := hf v 91 4, chgValid := hf v 95 1 == 1, chgSlots := hf v 96 6, chgAt := hf v 102 16 }
/-- FRAME_COUNT modulus of a version (R156, R184). -/
def fcMod (version : Nat) : Nat := if version = 2 then 2 ^ 32 else 2 ^ 48
/-- `a − b` as counts modulo `m`. -/
def modSub (m a b : Nat) : Nat := (a + m - b % m) % m

/-! ## Slot area and legs (R217 to R220) -/

/-- W: words of the slot area. -/
def areaWords (profile : Nat) : Nat := (16 * infoLength profile - 768) / 64
/-- P: words of each slot. -/
def slotWords (profile slots : Nat) : Nat := if slots = 0 then 0 else areaWords profile / slots
/-- Payload payloadPositions of a leg of `n` slots. -/
def payloadPositions (profile slots n : Nat) : Nat := n * slotWords profile slots - 1
/-- Payload position `i` carries data (R220). -/
def carriesData (total count i : Nat) : Bool := decide (i * count % total < count)
/-- JCHK and the layout of the justification word (R219). -/
def justWord (count offset kind n : Nat) : QWord :=
  let v := count + 2 ^ 16 * (offset % 2 ^ 32) + 2 ^ 48 * kind + 2 ^ 50 * n
  BitVec.ofNat 64 (v + 2 ^ 56 * (crc8 (le 7 v)).toNat)
def jCount (w : QWord) : Nat := w.toNat % 2 ^ 16
def jOffset (w : QWord) : Nat := w.toNat / 2 ^ 16 % 2 ^ 32
def jKind (w : QWord) : Nat := w.toNat / 2 ^ 48 % 4
def jSlots (w : QWord) : Nat := w.toNat / 2 ^ 50 % 64
def jCheck (w : QWord) : Bool := w.toNat / 2 ^ 56 == (crc8 (le 7 w.toNat)).toNat
/-- The words of the slot area that belong to a leg's slots, in increasing w (R217, R218). -/
def legWords (profile slots : Nat) (ls : List Nat) : List Nat :=
  (List.range (slots * slotWords profile slots)).filter (fun w => ls.contains (w % slots))
/-- The words a leg puts at its positions: the justification word first, data by R220, zero elsewhere. -/
def fillLeg (total count : Nat) : Nat → Nat → List QWord → List QWord
  | 0, _, _ => []
  | n + 1, i, ws =>
    if carriesData total count i then (ws.headD 0) :: fillLeg total count n (i + 1) ws.tail else 0 :: fillLeg total count n (i + 1) ws
def legValues (profile slots : Nat) (l : SentLeg) : List QWord :=
  let t := payloadPositions profile slots l.slots.length
  justWord l.words.length l.offset l.kind l.slots.length :: fillLeg t l.words.length t 0 l.words
/-- Place values at word numbers. -/
def placeWords (a : List QWord) (ns : List Nat) (vs : List QWord) : List QWord :=
  (ns.zip vs).foldl (fun a p => putNth a p.1 p.2) a
/-- The slot area of a frame: fixed stuff, idle slots and unused positions carry zero. -/
def areaOf (h : Header) (legs : List SentLeg) : List QWord :=
  legs.foldl (fun a l => placeWords a (legWords h.profile h.slots l.slots) (legValues h.profile h.slots l))
    (List.replicate (areaWords h.profile) 0)

/-! ## Segments (R152, R164, R281 to R284) -/

/-- Bytes of the body of segment g, and the byte of the slot area where it starts. -/
def bodyBytes (profile g : Nat) : Nat := (4 * infoLength profile - 128 - (if g = 0 then 256 else 0)) / 8
def bodyStart (profile g : Nat) : Nat := if g = 0 then 0 else bodyBytes profile 0 + (g - 1) * bodyBytes profile 1
/-- Δ = FRAME_COUNT − START_FC and the invocation counter I (R282). -/
def delta (version fc start : Nat) : Nat := modSub (fcMod version) fc start
def invocationOf (version fc start g : Nat) : Nat := 4 * delta version fc start + g
/-- The IV: the salt's bytes, then I most significant byte first (R282). The salt holds byte 0 in its low bits. -/
def ivOf (salt : BitVec 64) (i : Nat) : List Byte := le 8 salt.toNat ++ be 4 i
/-- A_g (R283). -/
def aadOf (h : Header) (g : Nat) : List Byte :=
  le 1 h.version ++ le 1 g ++ le 1 h.keyIndex ++ le 1 h.profile ++ le 6 h.fc ++ zeros 6
/-- The clear tag (R284). -/
def clearTag (body : List Byte) : List Byte := le 4 (crc32c (byteBitsLsb body)).toNat ++ zeros 12
/-- Body and tag of segment g before scrambling; blanked from `zeroFrom` on (R297). -/
def sealSegment (f : SentFrame) (g : Nat) (plain : List Byte) : List Byte × List Byte :=
  if f.zeroFrom ≤ g then (zeros plain.length, zeros 16)
  else match f.key with
    | none => (plain, clearTag plain)
    | some k => gcmSeal k.key (ivOf k.salt (invocationOf f.header.version f.header.fc k.startFc g)) (aadOf f.header g) plain

/-! ## Scrambling (R162, R163, R184) -/

def scramblerSeed (h : Header) : BitVec 31 :=
  if h.version = 2 then 0x7FFFFFFF else 0x7FFFFFFF ^^^ (BitVec.ofNat 30 h.fc).setWidth 31
/-- One step: state and the bits so far, last first. -/
def scrambleStep (s : BitVec 31 × List Bool) (b : Bool) : BitVec 31 × List Bool :=
  let o := s.1.getLsbD 30 ^^ s.1.getLsbD 27
  ((s.1 <<< 1) ||| (BitVec.ofBool o).setWidth 31, (b ^^ o) :: s.2)
/-- XOR the scrambler's outputs onto bits. -/
def scramble (s : BitVec 31) (l : List Bool) : List Bool := (l.foldl scrambleStep (s, [])).2.reverse
/-- The bits of a frame, bit 0 first. -/
def frameBits (f : SentFrame) : List Bool :=
  let area := (areaOf f.header f.legs).flatMap (fun w => le 8 w.toNat)
  let segs := [0, 1, 2, 3].flatMap (fun g =>
    let p := sealSegment f g (part area (bodyStart f.header.profile g) (bodyBytes f.header.profile g))
    byteBitsLsb (p.1 ++ p.2))
  bitsFrom (headerBits f.header) 0 256 ++ scramble (scramblerSeed f.header) segs
/-- A word from bits, bit 0 first. -/
def wordOfBits (l : List Bool) : BitVec 30720 := BitVec.ofNat 30720 (l.foldr (fun b a => 2 * a + b2n b) 0)
/-- The 16 codewords of a frame (R151, R119). -/
def frameCodewords (f : SentFrame) : List (BitVec 30720) :=
  let k := infoLength f.header.profile
  (List.range 16).map (fun i => encode f.header.profile (wordOfBits (((frameBits f).drop (i * k)).take k)))

/-! ## A received segment -/

/-- The information bits of codewords, in order. -/
def infoStream (l : List Released) : List Bool := l.flatMap (fun w => bitsFrom w.info 0 (infoLength w.profile))
/-- Descrambled bytes of the span of segment g: the span's four codewords, header left out. -/
def descrambled (h : Header) (before : Nat) (bits : List Bool) : List Bool :=
  (scramble (scramblerSeed h) (List.replicate before false ++ bits)).drop before
/-- The segment that the framer passes to the cipher lane (R166); `l` holds its four codewords, whose profile gives its bounds. -/
def segmentOf (h : Header) (g : Nat) (l : List Released) : Segment :=
  let p := (l.head?.map (·.profile)).getD h.profile
  let bits := if g = 0 then (infoStream l).drop 256 else infoStream l
  let before := if g = 0 then 0 else 4 * g * infoLength p - 256
  let bytes := bytesOf bits.length (descrambled h before bits)
  let n := bodyBytes p g
  { g := g, header := h, body := bytes.take n, tag := part bytes n 16
    uncorr := (l.filter (fun w => w.outcome == 1)).length, erased := (l.filter (fun w => w.outcome == 2)).length
    good := l.map (fun w => w.outcome == 0) }

end Sys2Proof.Machine
end

