-- ==== Sys2Proof/Machine/Bins.lean ====
section
/-! DEFINITION. Entities of defects and performance: the classification of seconds, availability, and the bins with their rollover
(R202 to R209). -/

namespace Sys2Proof.Machine

def coachEntity (d : Dev) (c : Nat) : Entity := tabGet (fun _ => {}) d.defects.coaches c
def setCoachEntity (c : Nat) (x : Entity) (d : Dev) : Dev :=
  { d with defects := { d.defects with coaches := tabPut (fun _ => {}) d.defects.coaches c x } }
def queueEntity (d : Dev) (q : Nat) : Entity := tabGet (fun _ => {}) d.defects.queues q
def setQueueEntity (q : Nat) (x : Entity) (d : Dev) : Dev :=
  { d with defects := { d.defects with queues := tabPut (fun _ => {}) d.defects.queues q x } }
def defectOf (x : Entity) (i : Nat) : Defect := tabGet (fun _ => {}) x.defects i
def setDefect (i : Nat) (f : Defect) (x : Entity) : Entity := { x with defects := tabPut (fun _ => {}) x.defects i f }

/-! ## Bins -/

/-- Change both current bins. -/
def modBins (f : Bin → Bin) (x : Entity) : Entity := { x with cur15 := f x.cur15, cur24 := f x.cur24 }
/-- Event count `i` of R214. -/
def binEvent (i n : Nat) (b : Bin) : Bin := { b with events := putNth b.events i (nth b.events i 0 + n) }
def coachBins (c : Nat) (f : Bin → Bin) (d : Dev) : Dev := setCoachEntity c (modBins f (coachEntity d c)) d
def queueBins (q : Nat) (f : Bin → Bin) (d : Dev) : Dev := setQueueEntity q (modBins f (queueEntity d q)) d
/-- DEVTIME is coarse or not valid: the bins of the time are SUSPECT (R208). -/
def timeSuspect (d : Dev) : Bool := d.clock.coarse || !d.clock.valid
/-- A bin that starts now; `off`: its entity is disabled. -/
def freshBin (d : Dev) (off : Bool) : Bin := { valid := true, start := nowNs d, suspect := timeSuspect d, partialBin := off }
/-- Nanoseconds of a 15-minute and of a 24-hour bin. -/
def quarterNs : Nat := 900000000000
def dayNs : Nat := 86400000000000
/-- The empty bins for `k` whole 15-minute periods passed over, the most recent first, up to 32 (R208). -/
def skippedBins (d : Dev) (k : Nat) : List Bin :=
  (List.range (min k 32)).map (fun j => { valid := true, skipped := true, start := (nowNs d / quarterNs - 1 - j) * quarterNs })
/-- The current bin becomes previous bin 1 behind `k` skipped ones (R206, R208). -/
def roll15 (d : Dev) (off : Bool) (k : Nat) (x : Entity) : Entity :=
  { x with prev15 := (skippedBins d k ++ x.cur15 :: x.prev15).take 32, cur15 := freshBin d off
           pending := x.pending.map (fun s => { s with old15 := s.old15 + 1 + k }) }
def roll24 (d : Dev) (off passed early : Bool) (x : Entity) : Entity :=
  { x with prev24 := { x.cur24 with skipped := passed, suspect := x.cur24.suspect || early }, cur24 := freshBin d off
           pending := x.pending.map (fun s => { s with old24 := s.old24 + 1 }) }

/-! ## Seconds and availability (R203, R204, R207) -/

/-- A second's final counts: unavailable near or far end. -/
def addSecond (s : Second) (un feUn : Bool) (b : Bin) : Bin :=
  let near := if un then { b with uas := b.uas + 1 } else { b with es := b.es + b2n s.es, ses := b.ses + b2n s.ses, bbe := b.bbe + s.bbe }
  if feUn then { near with feUas := near.feUas + 1 }
  else { near with feEs := near.feEs + b2n s.feEs, feSes := near.feSes + b2n s.feSes, feBbe := near.feBbe + s.feBbe }
/-- Put a second's counts into the bins it fell in. -/
def applySecond (s : Second) (un feUn : Bool) (x : Entity) : Entity :=
  let f := addSecond s un feUn
  let y := if s.old15 = 0 then { x with cur15 := f x.cur15 }
    else match x.prev15[s.old15 - 1]? with | some b => { x with prev15 := putNth x.prev15 (s.old15 - 1) (f b) } | none => x
  if s.old24 = 0 then { y with cur24 := f y.cur24 } else if s.old24 = 1 then { y with prev24 := f y.prev24 } else y
/-- Ten consecutive seconds against the present availability change it from the first of them. DEDUCED: a second that is not counted ends every run of
consecutive seconds. -/
def availNext (un : Bool) (l : List Second) (ses : Second → Bool) : Bool :=
  if l.length = 10 && l.all (fun s => s.counted && ses s == !un) then !un else un
/-- The oldest second becomes final. -/
def finalOne (x : Entity) : Entity :=
  match x.pending.reverse with
  | [] => x
  | s :: t =>
    let y := { x with pending := t.reverse }
    if s.counted then
      let ten := (s :: t).take 10
      let un := availNext x.unavail ten (·.ses)
      let fe := availNext x.feUnavail ten (·.feSes)
      applySecond s un fe { y with unavail := un, feUnavail := fe }
    else y
/-- A second ends: ten seconds later it is final. Seconds not counted are kept only between counted ones. -/
def pushSecond (s : Second) (x : Entity) : Entity :=
  let y := { x with pending := s :: x.pending }
  let z := if 10 < y.pending.length then finalOne y else y
  if z.pending.any (·.counted) then z else { z with pending := [] }
/-- SES: a defect, or errored blocks at least 30 % of the blocks. -/
def severe (defect : Bool) (blocks errored : Nat) : Bool := defect || (decide (0 < errored) && decide (30 * blocks ≤ 100 * errored))
/-- The second that ends, classified (R203). -/
def classified (x : Entity) : Second :=
  let ses := severe x.defectSeen x.blocks x.errored
  let fes := severe x.feSeen x.feBlocks x.feErrored
  { es := x.defectSeen || decide (0 < x.errored), ses := ses, bbe := if ses then 0 else x.errored
    feEs := x.feSeen || decide (0 < x.feErrored), feSes := fes, feBbe := if fes then 0 else x.feErrored }
def uncounted : Second := { counted := false, es := false, ses := false, bbe := 0, feEs := false, feSes := false, feBbe := 0 }
/-- A new second starts with nothing counted. -/
def restartSecond (off : Bool) (x : Entity) : Entity :=
  { x with blocks := 0, errored := 0, feBlocks := 0, feErrored := 0, defectSeen := false, feSeen := false, absent := off }
/-- A second boundary for one entity; `off`: it is disabled now. DESIGN CHOICE: a second in which a tributary had no slot for a part is not counted, as R203 has it for a coach that was disabled for a part. -/
def endSecond (d : Dev) (off : Bool) (x : Entity) : Entity :=
  let away := x.absent || off
  let y := pushSecond (if away then uncounted else classified x) x
  modBins (fun b => { b with suspect := b.suspect || timeSuspect d, partialBin := b.partialBin || away, elapsed := b.elapsed + b2n (!away) })
    (restartSecond off y)

/-! ## Every entity -/

/-- A coach's receive is disabled; a tributary has no slot named by an entry in force. -/
def coachOff (d : Dev) (c : Nat) : Bool := (tabGet coachRxReset d.rx.coaches c).state == .disabled
def entityTable (n : Nat) (f : Nat → Entity) : Tab Entity := ((List.range n).map (fun i => (i, f i))).filter (fun e => e.2 != {})
/-- Change every entity; `off` says whether tributary q is disabled. -/
def mapEntities (off : Nat → Bool) (f : Bool → Entity → Entity) (d : Dev) : Dev :=
  { d with defects := { d.defects with
      coaches := entityTable 256 (fun c => f (coachOff d c) (coachEntity d c))
      queues := entityTable 4096 (fun q => f (off q) (queueEntity d q)) } }
/-- A tributary without a slot in either map in force. -/
def tribIdle (d : Dev) (q : Nat) : Bool :=
  let named (t : Tab Word) (p : Nat → Bool) (n : Nat → Nat) : Bool := t.any (fun e =>
    fld e.2 0 2 == 1 && fld e.2 2 12 == q && p (e.1 / 40) && decide (e.1 % 40 < n (e.1 / 40)))
  let pages (c : Nat) : CoachSwap := tabGet (fun _ => {}) d.slots.coaches c
  let tx (c : Nat) : Nat := (coachTx d c).cfg.slots
  let rx (c : Nat) : Nat := (tabGet coachRxReset d.rx.coaches c).slotsNow
  !(named d.slots.txPage0 (fun c => !(pages c).txPage1) tx || named d.slots.txPage1 (fun c => (pages c).txPage1) tx
    || named d.slots.rxPage0 (fun c => !(pages c).rxPage1) rx || named d.slots.rxPage1 (fun c => (pages c).rxPage1) rx)
/-- The number of the 24-hour period of a DEVTIME value in ns, with DAY_START. -/
def dayNo (d : Dev) (t : Nat) : Nat := (t + dayNs - d.defects.dayStartNext * quarterNs) / dayNs
/-- A 24-hour boundary makes a new DAY_START effective; the bin it closes is SUSPECT if it ran for less than 24 hours (R213). -/
def earlyDay (d : Dev) (x : Entity) : Bool := d.defects.dayStart != d.defects.dayStartNext && decide (nowNs d < x.cur24.start + dayNs)
def takeDayStart (d : Dev) : Dev := { d with defects := { d.defects with dayStart := d.defects.dayStartNext } }
/-- DEVTIME has gone from `t0` to now at one tick: boundaries passed close the bins (R208); `mark` flags the bins that run across the
gap. DEDUCED: that takes in the bin that starts at the tick, whose period holds a part of the gap. -/
def binsPass (mark : Bin → Bin) (t0 : Nat) (d : Dev) : Dev :=
  let n := nowNs d / quarterNs - t0 / quarterNs
  let day := dayNo d t0 < dayNo d (nowNs d)
  if !d.defects.cleared then d
  else
    let marks := modBins mark
    let d1 := mapEntities (tribIdle d) (fun off x =>
      let y := if n = 0 then marks x else roll15 d off (n - 1) (marks x)
      marks (if day then roll24 d off true (earlyDay d y) y else y)) d
    if day then takeDayStart d1 else d1
/-- A step of DEVTIME makes bins SUSPECT; a stop of CK_HUB makes them INCOMPLETE. -/
def binsStep (t0 : Nat) (d : Dev) : Dev := binsPass (fun b => { b with suspect := true }) t0 d
def binsWake (t0 : Nat) (d : Dev) : Dev := binsPass (fun b => { b with incomplete := true, suspect := true }) t0 d

end Sys2Proof.Machine
end

