-- ==== Sys2Proof/Machine/Raw.lean ====
section
/-! DEFINITION. Raw defects of coaches, their rank and masking, and what each drives (R190, R193, R194, R198, R199). -/

namespace Sys2Proof.Machine

def frameRx (d : Dev) (c : Nat) : FrameRx := tabGet (fun _ => {}) d.frames.rx c
def setFrameRx (c : Nat) (x : FrameRx) (d : Dev) : Dev :=
  { d with frames := { d.frames with rx := tabPut (fun _ => {}) d.frames.rx c x } }
def frameTx (d : Dev) (c : Nat) : FrameTx := tabGet (fun _ => {}) d.frames.tx c
def setFrameTx (c : Nat) (x : FrameTx) (d : Dev) : Dev :=
  { d with frames := { d.frames with tx := tabPut (fun _ => {}) d.frames.tx c x } }

/-! ## Raw defects (R190) -/

/-- Raw defect `i` of receive coach c: 0 LOS, 1 LOC, 2 LOF, 3 VMM, 4 AIS, 5 RX_HOLD, 6 TIM, 7 SF, 8 SD, 9 RX_BDI. -/
def rawCoach (d : Dev) (c i : Nat) : Bool :=
  let x := frameRx d c
  !coachOff d c &&
  (match i with
   | 0 => (tabGet (fun _ => ({} : EngineRx)) d.rx.engines (engineOf c)).los
   | 1 => (tabGet coachRxReset d.rx.coaches c).loc
   | 2 => x.align == .hunt || x.align == .presync
   | 3 => x.vmm.raw
   | 4 => x.ais.raw
   | 5 => x.hold.raw
   | 6 => x.tim.raw
   | 7 => (coachEntity d c).sf
   | 8 => (coachEntity d c).sd
   | 9 => x.bdi.raw
   | _ => false)
/-- TIM acts unless TIM_ACT_DIS is set. -/
def actsOn (d : Dev) (c i : Nat) : Bool := i != 6 || !(coachEntity d c).timActDis
/-- Some raw defect of a list acts. -/
def anyRaw (d : Dev) (c : Nat) (l : List Nat) : Bool := l.any (fun i => rawCoach d c i && actsOn d c i)
/-- The columns of R190: BDI to the far end, downstream AIS, signal fail (SSF); defect seconds have the AIS column. -/
def drivesBdi (d : Dev) (c : Nat) : Bool := anyRaw d c [0, 1, 2, 3, 4, 6]
def drivesAis (d : Dev) (c : Nat) : Bool := anyRaw d c [0, 1, 2, 3, 4, 5, 6]
def ssf (d : Dev) (c : Nat) : Bool := anyRaw d c [0, 1, 2, 3, 4, 5, 6, 7]

/-! ## Masking (R193, R194) -/

/-- The defects ranked above defect `i`. -/
def rankedAbove (i : Nat) : List Nat :=
  match i with
  | 0 => [] | 1 => [0] | 2 => [0, 1] | 3 => [0, 1, 2] | 4 | 5 => [0, 1, 2, 3] | 6 => [0, 1, 2, 3, 4, 5] | 7 => [0, 1, 2, 3, 4, 5, 6]
  | 8 => [0, 1, 2, 3, 4, 5, 6, 7] | _ => [0, 1, 2, 3]
/-- What an evaluation of masks changes: the entity, whether a declared defect cleared, whether reports began or ended. -/
structure Alarms where
  entity : Entity
  cleared : Bool := false
  began : Bool := false
  ended : Bool := false
/-- Bring one defect's report up to date. A declared defect whose mask has ended with its raw state clear clears unreported; one
declared in this very sample (`fresh`) was not masked before. -/
def settleOne (raw : Nat → Bool) (higher : Nat → List Nat) (fresh : List Nat) (a : Alarms) (i : Nat) : Alarms :=
  let f := defectOf a.entity i
  let masked := (higher i).any (fun j => raw j || (defectOf a.entity j).declared)
  let drop := f.declared && !masked && !f.reported && !raw i && !fresh.contains i
  let g := { f with declared := f.declared && !drop, reported := f.declared && !drop && !masked }
  { entity := setDefect i g a.entity, cleared := a.cleared || drop, began := a.began || (g.reported && !f.reported)
    ended := a.ended || (f.reported && !g.reported) }
def settleAll (n : Nat) (raw : Nat → Bool) (higher : Nat → List Nat) (fresh : List Nat) (x : Entity) : Alarms :=
  (List.range n).foldl (settleOne raw higher fresh) { entity := x }
/-- The causes of R212 for what changed. -/
def alarmCauses (r : CauseReg) (a : Alarms) (d : Dev) : Dev :=
  let d1 := if a.cleared then raiseCause r 1 d else d
  let d2 := if a.began then raiseCause r 2 d1 else d1
  if a.ended then raiseCause r 3 d2 else d2
/-- Masks of a coach after a raw change or a sample. -/
def settleCoachWith (fresh : List Nat) (c : Nat) (d : Dev) : Dev :=
  let a := settleAll 10 (rawCoach d c) rankedAbove fresh (coachEntity d c)
  alarmCauses (.defectCoach c) a
    (setCoachEntity c { a.entity with lastChange := if a.cleared then nowNs d else a.entity.lastChange } d)
def settleCoach (c : Nat) (d : Dev) : Dev := settleCoachWith [] c d

/-! ## A raw defect that clears was set in its millisecond (R195) -/

/-- The defect counts as set in this millisecond; the downstream AIS that ends with a TSF leaves an Ethernet egress hunting (R254). -/
def seeQueue (i q : Nat) (d : Dev) : Dev :=
  let x := queueEntity d q
  let d1 := setQueueEntity q (setDefect i { defectOf x i with seen := true } x) d
  if i = 3 then { d1 with slots := { d1.slots with rx := tabMod (fun _ => {}) d1.slots.rx q (fun x => { x with hunting := true }) } } else d1
/-- Tributaries mapped from a coach's receive slots in force. -/
def ridersOf (d : Dev) (c : Nat) : List Nat :=
  let x : CoachSwap := tabGet (fun _ => {}) d.slots.coaches c
  let t := if x.rxPage1 then d.slots.rxPage1 else d.slots.rxPage0
  ((t.filter (fun e => e.1 / 40 == c && fld e.2 0 2 == 1 && decide (e.1 % 40 < (tabGet coachRxReset d.rx.coaches c).slotsNow))).map
    (fun e => fld e.2 2 12)).eraseDups
/-- Tributary defect 3 stands for TSF, which is sampled for defect seconds only. -/
def seeRaw (c i : Nat) (d : Dev) : Dev :=
  if rawCoach d c i then
    let x := coachEntity d c
    let d1 := setCoachEntity c (setDefect i { defectOf x i with seen := true } x) d
    let d2 := if i ≤ 6 && actsOn d c i then (ridersOf d c).foldl (fun d q => seeQueue 3 q d) d1 else d1
    if i = 5 then (ridersOf d c).foldl (fun d q => seeQueue 1 q d) d2 else d2
  else d
/-- Every raw defect of a coach that is set has been seen. -/
def seeAll (c : Nat) (d : Dev) : Dev := (List.range 10).foldl (fun d i => seeRaw c i d) d

end Sys2Proof.Machine
end

