-- ==== Sys2Proof/Machine/FrameStop.lean ====
section
/-! DEFINITION. What the receive state of a coach does to its framer and its defects (R168, R180, R189, R197). -/

namespace Sys2Proof.Machine

/-- Framing count `i` of R187: 0 FITS to 5 HB_MISSES; event `e` of R188. -/
def frameCount (c i e : Nat) (d : Dev) : Dev := bump (keyCoach c (9 + i)) 1 (tally 1 e c 1 d)
/-- Lose SYNC: SYNC_LOSS, counted (R168). -/
def syncLoss (c : Nat) (d : Dev) : Dev :=
  if (frameRx d c).align = .sync then raiseCause (.frameCoach c) 1 (frameCount c 3 3 d) else d
/-- To HUNT: the frame in progress, which is then not delivered (R172), and what was kept are discarded. DESIGN CHOICE: the raw indications, and the first of two consecutive headers that stands, are left as they are. -/
def toHunt (c : Nat) (d : Dev) : Dev :=
  setFrameRx c { frameRx d c with align := .hunt, kept := [], frame := none, misfits := 0, badWords := 0, failedSegs := 0, bei := 0 } d
/-- The coach leaves LOCKED: its framer hunts (R168). -/
def frameStops (c : Nat) (d : Dev) : Dev :=
  if (frameRx d c).align = .off then d else toHunt c (syncLoss c d)
/-- Receive of the coach is enabled: OFF to HUNT; the received fields read zero until a header fits (R187). -/
def frameOn (c : Nat) (d : Dev) : Dev :=
  setFrameRx c { frameRx d c with align := .hunt, inbox := [], last := none, delivered := none, chg := none, chgApplied := false } d

/-- Every raw and declared defect of an entity is cleared; the counts of R212 stay (R197). -/
def clearDefects (n : Nat) (x : Entity) : Entity :=
  let y := (List.range n).foldl (fun x i =>
    setDefect i { defectOf x i with sets := 0, clears := 0, declared := false, reported := false, seen := false } x) x
  { y with sd := false, sf := false, sdRun := 0, sfRun := 0, ivFrames := 0, ivErrored := 0, absent := true }
def anyReported (n : Nat) (x : Entity) : Bool := (List.range n).any (fun i => (defectOf x i).reported)
def declaredCount (n : Nat) (x : Entity) : Nat := ((List.range n).filter (fun i => (defectOf x i).declared)).length
/-- A raw indication other than LOF stands. -/
def rawBits (x : FrameRx) : List Bool := [x.vmm.raw, x.ais.raw, x.tim.raw, x.bdi.raw, x.hold.raw, x.partner.raw]
/-- Receive of the coach is disabled: OFF, every raw indication and defect cleared; each declared one raises CLEAR, a report that ends REPORT_CLEAR, a raw
indication that was set RAW_CHANGE (R168, R187, R197, R212). The received fields stay until it is enabled again. -/
def frameOff (c : Nat) (d : Dev) : Dev :=
  let x := frameRx d c
  let d1 := setFrameRx c { expTrace := x.expTrace, timEnable := x.timEnable, hostTrace := x.hostTrace, lastSync := x.lastSync
                           count := x.count, last := x.last } (if (rawBits x).any id then raiseCause (.frameCoach c) 4 d else d)
  let e := coachEntity d1 c
  let n := declaredCount 10 e
  let d2 := setCoachEntity c { clearDefects 10 e with lastChange := if n = 0 then e.lastChange else nowNs d } d1
  let d3 := if n = 0 then d2 else raiseCause (.defectCoach c) 1 d2
  if anyReported 10 e then raiseCause (.defectCoach c) 3 d3 else d3

end Sys2Proof.Machine
end

