-- ==== Sys2Proof/Machine/Legs.lean ====
section
/-! DEFINITION. Connection memory and receive map: entries and the legs they form (R217, R218, R223, R234). -/

namespace Sys2Proof.Machine

/-! ## Entries (R223) -/

def entKind (w : Word) : Nat := fld w 0 2
def entQueue (w : Word) : Nat := fld w 2 12
def entOrdinal (w : Word) : Nat := fld w 14 10
def entRxSlot (w : Word) : Nat := fld w 2 14
def engineSwap (d : Dev) (n : Nat) : EngineSwap := tabGet (fun _ => {}) d.slots.engines n
def setEngineSwap (n : Nat) (x : EngineSwap) (d : Dev) : Dev :=
  { d with slots := { d.slots with engines := tabPut (fun _ => {}) d.slots.engines n x } }
def coachSwap (d : Dev) (c : Nat) : CoachSwap := tabGet (fun _ => {}) d.slots.coaches c
def setCoachSwap (c : Nat) (x : CoachSwap) (d : Dev) : Dev :=
  { d with slots := { d.slots with coaches := tabPut (fun _ => {}) d.slots.coaches c x } }
/-- Pages 0 and 1 of connection memory and of the receive map; entry 40 c + j. -/
def txPage (d : Dev) (p : Bool) : Tab Word := if p then d.slots.txPage1 else d.slots.txPage0
def rxPage (d : Dev) (p : Bool) : Tab Word := if p then d.slots.rxPage1 else d.slots.rxPage0
def setTxPage (p : Bool) (t : Tab Word) (d : Dev) : Dev :=
  { d with slots := if p then { d.slots with txPage1 := t } else { d.slots with txPage0 := t } }
def setRxPage (p : Bool) (t : Tab Word) (d : Dev) : Dev :=
  { d with slots := if p then { d.slots with rxPage1 := t } else { d.slots with rxPage0 := t } }
def entry (t : Tab Word) (c j : Nat) : Word := tabGet (fun _ => 0) t (40 * c + j)
/-- The transmit entry of slot j that coach c uses, and its receive entry in force. -/
def txEntry (d : Dev) (c j : Nat) : Word := entry (txPage d (coachSwap d c).txPage1) c j
def rxEntry (d : Dev) (c j : Nat) : Word := entry (rxPage d (coachSwap d c).rxPage1) c j
/-- An entry as the next frame uses it: IDLE where it was uncorrectable (R424). -/
def usable (d : Dev) (c j : Nat) (w : Word) : Word := if (tabGet (fun _ => {}) d.frames.tx c).skip.contains j then 0 else w
/-- The tributary to which receive slot s is mapped in the receive map in force (R234). -/
def mappedTo (d : Dev) (s : Nat) : Option Nat :=
  let w := rxEntry d (s / 40) (s % 40)
  if entKind w = 1 then some (entQueue w) else none
/-- The stream of a transmit entry: tributary q, or 4,096 + r for the groomed stream of tributary r. -/
def streamOf (d : Dev) (w : Word) : Option Nat :=
  if entKind w = 1 then some (entQueue w)
  else if entKind w = 2 then (mappedTo d (entRxSlot w)).map (4096 + ·)
  else none

/-! ## Legs (R218) -/

/-- Put slot j of a stream into a list of legs. -/
def addSlot (s j : Nat) : List (Nat × List Nat) → List (Nat × List Nat)
  | [] => [(s, [j])]
  | (t, l) :: r => if t = s then (t, l ++ [j]) :: r else (t, l) :: addSlot s j r
/-- Legs of a coach with entries `e` at `n` slots: stream and slots, in the order of their lead slots. -/
def legsOf (n : Nat) (e : Nat → Option Nat) : List (Nat × List Nat) :=
  (List.range n).foldl (fun l j => match e j with | some s => addSlot s j l | none => l) []
def txLegs (d : Dev) (c : Nat) : List (Nat × List Nat) := legsOf (coachTx d c).cfg.slots (fun j => streamOf d (usable d c j (txEntry d c j)))
/-- Receive legs at a slot count on a page. -/
def rxLegsOn (d : Dev) (c slots : Nat) (page1 : Bool) : List (Nat × List Nat) :=
  legsOf slots (fun j => let w := entry (rxPage d page1) c j; if entKind w = 1 then some (entQueue w) else none)
def rxSlotsNow (d : Dev) (c : Nat) : Nat := (tabGet coachRxReset d.rx.coaches c).slotsNow
def rxLegs (d : Dev) (c : Nat) : List (Nat × List Nat) := rxLegsOn d c (rxSlotsNow d c) (coachSwap d c).rxPage1
/-- Transmit slots, those that groom it among them (R234), and receive slots, of a tributary in force. -/
def txSlotsOf (d : Dev) (q : Nat) : Nat :=
  ((List.range 256).map (fun c => ((txLegs d c).filter (fun l => l.1 % 4096 == q)).map (fun l => l.2.length) |>.sum)).sum
def rxSlotsOf (d : Dev) (q : Nat) : Nat :=
  ((List.range 256).map (fun c => ((rxLegs d c).filter (fun l => l.1 == q)).map (fun l => l.2.length) |>.sum)).sum
/-- A transmit entry of a coach's page and slots in force has a property. -/
def txNamed (d : Dev) (p : Word → Bool) : Bool :=
  let on (t : Tab Word) (page1 : Bool) : Bool := t.any (fun e =>
    p e.2 && (coachSwap d (e.1 / 40)).txPage1 == page1 && decide (e.1 % 40 < (coachTx d (e.1 / 40)).cfg.slots))
  on d.slots.txPage0 false || on d.slots.txPage1 true
def isEntryOf (q : Nat) (w : Word) : Bool := entKind w == 1 && entQueue w == q
def grooms (d : Dev) (q : Nat) (w : Word) : Bool := entKind w == 2 && mappedTo d (entRxSlot w) == some q
/-- A tributary has a transmit slot for its own transmit queue, or any transmit slot, in force. -/
def hasOwnSlots (d : Dev) (q : Nat) : Bool := txNamed d (isEntryOf q)
def hasSlots (d : Dev) (q : Nat) : Bool := txNamed d (fun w => isEntryOf q w || grooms d q w)
/-- A tributary is groomed, which sets its EGRESS to LINE (R234). -/
def groomed (d : Dev) (q : Nat) : Bool := txNamed d (grooms d q)
/-- The receive coaches that deliver a tributary, the transmit coaches that carry it. -/
def rxCoachesOf (d : Dev) (q : Nat) : List Nat := (List.range 256).filter (fun c => (rxLegs d c).any (fun l => l.1 == q))
def txCoachesOf (d : Dev) (q : Nat) : List Nat := (List.range 256).filter (fun c => (txLegs d c).any (fun l => l.1 == q))

end Sys2Proof.Machine
end

