-- ==== Sys2Proof/Machine/Queues.lean ====
section
/-! DEFINITION. Tributary queues: depot and spill, watermarks, back-pressure, delineation units, reassembly (R232, R233, R235 to
R239, R252). -/

namespace Sys2Proof.Machine

def txQueue (d : Dev) (q : Nat) : TxQueue := tabGet (fun _ => {}) d.slots.tx q
def setTxQueue (q : Nat) (x : TxQueue) (d : Dev) : Dev :=
  { d with slots := { d.slots with tx := tabPut (fun _ => {}) d.slots.tx q x } }
def rxQueue (d : Dev) (q : Nat) : RxQueue := tabGet (fun _ => {}) d.slots.rx q
def setRxQueue (q : Nat) (x : RxQueue) (d : Dev) : Dev :=
  { d with slots := { d.slots with rx := tabPut (fun _ => {}) d.slots.rx q x } }
/-- Count `i` of R242 of a queue direction. -/
def queueCount (q dir i n : Nat) (d : Dev) : Dev := bump (keyQueue q dir i) n d
/-- Event `e` of R246. -/
def queueTally (q e n : Nat) (d : Dev) : Dev := tally 2 e q n d
/-- A queue cause, at most once per millisecond (R242). -/
def queueCause (q b : Nat) (d : Dev) : Dev := raiseCauseMs (.queue q) b d

/-! ## The port or link of a queue (R250) -/

def group (d : Dev) (l : Nat) : Group := tabGet (fun _ => {}) d.clients.groups l
/-- A group owns a queue. -/
def owns (g : Group) (q : Nat) : Bool := g.protocol != 0 && decide (g.first ≤ q) && decide (q < g.first + g.count)
/-- The first lane of the group that owns a queue. -/
def groupOf (d : Dev) (q : Nat) : Option Nat := (List.range 128).find? (fun l => owns (group d l) q)
/-- The counter block of a lane's tile (R491). -/
def tileBlock (l : Nat) : Nat := 3 + l / 64
/-- Event `e` of R279 of a lane. -/
def laneTally (l e n : Nat) (d : Dev) : Dev := tally (tileBlock l) e l n d
/-- The queue belongs to an Ethernet port. -/
def ethQueue (d : Dev) (q : Nat) : Bool :=
  match groupOf d q with
  | some l => (group d l).protocol == 1
  | none => false
/-! ## PAUSE and PFC frames (R238) -/

/-- CRC-32 of IEEE 802.3 over bytes: the FCS of a MAC control frame (PRESUMED). -/
def crc32Bit (r : Word) (b : Bool) : Word := if (r.getLsbD 0 ^^ b) then (r >>> 1) ^^^ 0xEDB88320 else r >>> 1
def fcsOf (bs : List Byte) : List Byte := le 4 (~~~ ((byteBitsLsb bs).foldl crc32Bit 0xFFFFFFFF)).toNat
/-- A frame on the wire: preamble, start delimiter, the frame with its FCS (R253). -/
def wireOf (bs : List Byte) : List Byte := List.replicate 7 0x55 ++ [0xD5] ++ bs
/-- A PAUSE frame, or a PFC frame for one priority, of the port with first lane `l` (PRESUMED: the layouts of IEEE 802.3 and 802.1Qbb). -/
def pauseFrame (l : Nat) (pfc : Bool) (priority quanta : Nat) : List Byte :=
  let times := (List.range 8).flatMap (fun p => be 2 (if p = priority then quanta else 0))
  let params := if pfc then be 2 0x0101 ++ be 2 (2 ^ priority) ++ times else be 2 0x0001 ++ be 2 quanta
  let bs := [0x01, 0x80, 0xC2, 0x00, 0x00, 0x01] ++ (List.range 6).map (Config.macByte l) ++ be 2 0x8808 ++ params
  let padded := bs ++ zeros (60 - bs.length)
  padded ++ fcsOf padded
def setOutput (f : Nat) (o : ClientOut) (d : Dev) : Dev :=
  { d with clients := { d.clients with lastOut := tabPut (fun _ => .idle) d.clients.lastOut f o } }
/-- A PAUSE or PFC frame is sent for a queue of an Ethernet port: PAUSE_QUANTA while back-pressure stands, quanta 0 at its release (R238, R279). -/
def sendPause (q : Nat) (d : Dev) : Dev :=
  match groupOf d q with
  | some l =>
    if (group d l).protocol = 1 then
      let x := txQueue d q
      laneTally l 8 1 (setOutput l (.frame (wireOf (pauseFrame l x.cfg.pfc x.cfg.priority (if x.backpressure then x.cfg.quanta else 0)))) d)
    else d
  | none => d

/-! ## Depot and spill (R235 to R237) -/

/-- Spill pages of 4 KiB in the region, and those in use. -/
def spillPages (d : Dev) : Nat := match d.slots.spillRegion with | some (_, n) => n * 262144 | none => 0
def pagesFor (n : Nat) : Nat := ceilDiv n 512
def spillUsed (d : Dev) : Nat :=
  (d.slots.tx.map (fun e => pagesFor e.2.spill.length)).sum + (d.slots.rx.map (fun e => pagesFor e.2.spill.length)).sum
/-- The spill region has no free page. -/
def regionFull (d : Dev) : Bool := decide (spillPages d ≤ spillUsed d)
/-- A queue spills (R236). -/
def spills (d : Dev) (c : QueueCfg) : Bool := c.spillEnable && d.slots.spillEnable
/-- What a queue holds: depot, spill, and depot words behind spilled ones. -/
structure Store (α : Type) where
  depot : List α
  spill : List α
  late : List α
def Store.total {α : Type} (s : Store α) : Nat := s.depot.length + s.spill.length + s.late.length
def Store.inDepot {α : Type} (s : Store α) : Nat := s.depot.length + s.late.length
def Store.all {α : Type} (s : Store α) : List α := s.depot ++ s.spill ++ s.late
/-- A word enters depot or spill (R237 steps 1 and 2); `sp`: the queue spills. DEDUCED: where it no longer does, a word that comes while spilled
words are still returning waits behind them in the depot (R244). -/
def pushWord {α : Type} (c : QueueCfg) (sp : Bool) (s : Store α) (w : α) : Store α :=
  if s.spill.isEmpty && s.late.isEmpty then
    if !sp || decide (s.depot.length < c.spillOn) then { s with depot := s.depot ++ [w] } else { s with spill := [w] }
  else if sp && s.late.isEmpty then { s with spill := s.spill ++ [w] }
  else { s with late := s.late ++ [w] }
/-- Spilled words return to the depot in order as it drains. -/
def refill {α : Type} (c : QueueCfg) (s : Store α) : Store α :=
  let n := c.spillOn - s.depot.length
  if (s.spill.drop n).isEmpty then { depot := s.depot ++ s.spill ++ s.late, spill := [], late := [] }
  else { s with depot := s.depot ++ s.spill.take n, spill := s.spill.drop n }
/-- The first `n` words leave a store. -/
def takeStore {α : Type} (c : QueueCfg) (n : Nat) (s : Store α) : List α × Store α :=
  (s.all.take n,
   refill c { depot := s.depot.drop n, spill := s.spill.drop (n - s.depot.length), late := s.late.drop (n - s.depot.length - s.spill.length) })
/-- A store has room for what it becomes: QUEUE_MAX, its depot pages, the pages of the spill region. DEDUCED: words without room are discarded as at
QUEUE_MAX. -/
def roomFor {α : Type} (d : Dev) (c : QueueCfg) (s t : Store α) : Bool :=
  decide (t.total ≤ c.max) && decide (t.inDepot ≤ 512 * c.pages)
    && decide (spillUsed d + (pagesFor t.spill.length - pagesFor s.spill.length) ≤ spillPages d)
/-- The causes of words entering or leaving spill: SPILL_START, SPILL_END and the events of R246. -/
def noteSpill (q before after into back : Nat) (d : Dev) : Dev :=
  let d1 := queueTally q 4 back (queueTally q 3 into d)
  let d2 := if before = 0 && 0 < into then queueCause q 0 d1 else d1
  if after = 0 && 0 < back then queueCause q 1 d2 else d2
/-- Words have entered a store: an armed flip on the region of the depot or of the HBM is used (R430). -/
def wroteStore {α : Type} (s t : Store α) (d : Dev) : Dev :=
  let d1 := if s.inDepot < t.inDepot then useFlip 0 d else d
  if s.spill.length < t.spill.length then useFlip 6 d1 else d1
/-- The words of `t` that were not in `s`, the first of them stored XOR an armed flip mask; `hit` is what a read of it then delivers (R430). -/
def flipStore {α : Type} (hit : BitVec 72 → α → α) (s t : Store α) (d : Dev) : Store α :=
  let m := flipMaskFor 0 d
  let h := flipMaskFor 6 d
  let t1 := if m = 0 then t else { t with depot := putAt t.depot s.depot.length (hit m), late := if s.depot.length < t.depot.length then t.late
                                                                                                else putAt t.late s.late.length (hit m) }
  if h = 0 then t1 else { t1 with spill := putAt t1.spill s.spill.length (hit h) }
/-- What a read delivers of a queue's word under a mask: a transmit word zero data, a receive word a fill word where it is uncorrectable (R424). -/
def hitTx (m : BitVec 72) (w : QWord) : QWord := (readFlipped m w).getD 0
def hitRx (m : BitVec 72) (w : RxWord) : RxWord := { w with value := w.value.bind (readFlipped m) }
/-- Spilled words have returned to the depot as `n` words left `s` and made it `t`: the first of them is where `s.depot` ended, less `n`. -/
def spillReturned {α : Type} (s : Store α) (n : Nat) (t : Store α) : Bool := decide (t.spill.length + (n - s.depot.length) < s.spill.length)
def returnFlipped {α : Type} (hit : BitVec 72 → α → α) (s : Store α) (n : Nat) (t : Store α) (d : Dev) : Store α :=
  let m := flipMaskFor 0 d
  if m = 0 || !spillReturned s n t then t else { t with depot := putAt t.depot (s.depot.length - n) (hit m) }
def wroteReturned {α : Type} (s : Store α) (n : Nat) (t : Store α) (d : Dev) : Dev := if spillReturned s n t then useFlip 0 d else d
def txStore (x : TxQueue) : Store QWord := { depot := x.depot, spill := x.spill, late := x.late }
def withTxStore (x : TxQueue) (s : Store QWord) : TxQueue := { x with depot := s.depot, spill := s.spill, late := s.late }
def rxStore (x : RxQueue) : Store RxWord := { depot := x.depot, spill := x.spill, late := x.late }
def withRxStore (x : RxQueue) (s : Store RxWord) : RxQueue := { x with depot := s.depot, spill := s.spill, late := s.late }

/-! ## Back-pressure (R237 step 3, R238, R239) -/

def twinCfg (d : Dev) (w : Nat) : TwinCfg := tabGet (fun _ => {}) d.twins.cfg w
def setTwinCfg (w : Nat) (x : TwinCfg) (d : Dev) : Dev :=
  { d with twins := { d.twins with cfg := tabPut (fun _ => {}) d.twins.cfg w x } }
def twinTx (d : Dev) (w : Nat) : TwinTx := tabGet (fun _ => {}) d.twins.tx w
def setTwinTx (w : Nat) (x : TwinTx) (d : Dev) : Dev :=
  { d with twins := { d.twins with tx := tabPut (fun _ => {}) d.twins.tx w x } }
/-- Data words of a twin stream that are still in their queue. -/
def queuedIn (l : List TwinWord) : Nat := (l.filter (· == .queued)).length
/-- Words at the head of a transmit queue that a path of a twin tributary has taken and another has not (R345): they stay in the queue. -/
def claimed (d : Dev) (q : Nat) : Nat := ((d.twins.cfg.filter (fun e => e.2.tx && e.2.queue == q)).map (fun e => queuedIn (twinTx d e.1).stream)).sum
/-- The occupancy of a transmit queue. -/
def txOccupancy (d : Dev) (q : Nat) : Nat := (txStore (txQueue d q)).total
/-- Every coach that carries a tributary has frames and, where its cipher asks for one, a key. -/
def coachesCarry (d : Dev) (q : Nat) : Bool :=
  (txCoachesOf d q).all (fun c => (coachTx d c).framesRun && !(tabGet (fun _ => {}) d.cipher.tx c).hold)
/-- Whether back-pressure of a transmit queue stands after a change; a queue that a sleep has kept stands under it until its coaches carry
keys and frames again (R520). -/
def pressure (d : Dev) (q : Nat) : Bool :=
  let x := txQueue d q
  let n := txOccupancy d q
  let full := spills d x.cfg && regionFull d
  if decide (x.cfg.xoff ≤ n) || full || !hasSlots d q || x.resumed then true else if n ≤ x.cfg.xon then false else x.backpressure
def channelOf (d : Dev) (q : Nat) : Channel := tabGet (fun _ => {}) d.clients.channels q
def setChannel (q : Nat) (x : Channel) (d : Dev) : Dev :=
  { d with clients := { d.clients with channels := tabPut (fun _ => {}) d.clients.channels q x } }
/-- Channels of a link: under version 2 those below 1,024 alone exist (R250). -/
def inLink (g : Group) (q : Nat) : Bool := decide (g.first ≤ q) && decide (q < g.first + g.count) && (g.version != 2 || decide (q < 1024))
def channelsOf (g : Group) : List Nat := ((List.range g.count).map (g.first + ·)).filter (inLink g)
/-- Credits of an SLP channel whose link is up: granted up to XOFF − occupancy − credits outstanding, none while back-pressure is
asserted (R238, R264). Credits count cells, so they are rounded down to whole cells, at most 32,767 outstanding. -/
def grantCredit (q : Nat) (d : Dev) : Dev :=
  match groupOf d q with
  | some l =>
    if (group d l).protocol = 2 ∧ (group d l).up ∧ inLink (group d l) q ∧ !(txQueue d q).backpressure then
      let x := channelOf d q
      let room := min 32767 (((txQueue d q).cfg.xoff - txOccupancy d q) / 32)
      let out := modSub 65536 x.granted x.received
      if out < room then setChannel q { x with granted := (x.received + room) % 65536 } d else d
    else d
  | none => d
/-- Bring back-pressure up to date: XOFF, XON, SPILL_FULL, PAUSE frames and BP_TIME. -/
def movePressure (q : Nat) (d : Dev) : Dev :=
  let x := txQueue d q
  let p := pressure d q
  if p = x.backpressure then d
  else if p then
    let d1 := queueTally q 5 1 (queueCause q 2 (setTxQueue q { x with backpressure := true, bpSince := nowNs d } d))
    sendPause q (if spills d x.cfg && regionFull d then queueCause q 5 d1 else d1)
  else sendPause q (queueCause q 3 (setTxQueue q { x with backpressure := false, bpTime := x.bpTime + (nowNs d - x.bpSince) / 1000 } d))
/-- After any change of a transmit queue or its slots: back-pressure, then credits. -/
def settlePressure (q : Nat) (d : Dev) : Dev :=
  let x := txQueue d q
  grantCredit q (movePressure q (if x.resumed && coachesCarry d q then setTxQueue q { x with resumed := false } d else d))

/-- The spill region has filled, or has a free page again: SPILL_FULL and back-pressure of every queue that spills (R237). -/
def regionMoved (old d : Dev) : Dev :=
  if regionFull old = regionFull d then d
  else d.slots.tx.foldl (fun d e =>
    if spills d e.2.cfg then settlePressure e.1 (if regionFull d then queueCause e.1 5 d else d) else d) d

/-! ## Transmit queues -/

/-- A delineation unit arrives: it enters whole, or is discarded whole (R237). -/
def arriveUnit (q : Nat) (ws : List QWord) (d : Dev) : Dev :=
  let x := txQueue d q
  let s := txStore x
  let t := ws.foldl (pushWord x.cfg (spills d x.cfg)) s
  let n := ws.length
  if roomFor d x.cfg s t then
    let d1 := setTxQueue q { withTxStore x (flipStore hitTx s t d) with units := x.units ++ [(n, true)] } (queueTally q 0 n (queueCount q 0 0 n d))
    regionMoved d (settlePressure q (wroteStore s t (noteSpill q s.spill.length t.spill.length (t.spill.length - s.spill.length) 0 d1)))
  else settlePressure q (queueCause q 4 (queueTally q 6 n (queueCount q 0 2 n d)))
/-- The units left after `n` words have gone. -/
def takeUnits : Nat → List (Nat × Bool) → List (Nat × Bool)
  | _, [] => []
  | n, (k, whole) :: t => if k ≤ n then takeUnits (n - k) t else (k - n, whole && n == 0) :: t
/-- The first `n` words leave a transmit queue's depot and spill; back-pressure is not yet judged again. -/
def moveTx (q n : Nat) (d : Dev) : List QWord × Dev :=
  let x := txQueue d q
  let r := takeStore x.cfg n (txStore x)
  let t := returnFlipped hitTx (txStore x) n r.2 d
  (r.1, noteSpill q x.spill.length t.spill.length 0 (x.spill.length - t.spill.length) (setTxQueue q (withTxStore x t) (wroteReturned (txStore x) n r.2 d)))
/-- `n` words of a transmit queue are sent: WORDS_OUT, units. -/
def sentTx (q n : Nat) (d : Dev) : Dev :=
  queueCount q 0 1 n (setTxQueue q { txQueue d q with units := takeUnits n (txQueue d q).units } d)
/-- The first `n` words of a transmit queue leave it for good. -/
def dropTx (q n : Nat) (d : Dev) : List QWord × Dev :=
  let r := moveTx q n d
  (r.1, sentTx q r.1.length r.2)
/-- A leg takes up to `n` words at its cut instant (R221): how many. -/
def cutTx (q n : Nat) (d : Dev) : Nat × Dev :=
  let r := moveTx q n d
  (r.1.length, regionMoved d (settlePressure q (setTxQueue q { txQueue r.2 q with cut := (txQueue r.2 q).cut ++ r.1 } r.2)))
/-- A leg that cut `n` words is sent: its words and OFFSET. The stream word number advances by the words sent. -/
def sendTx (q n : Nat) (d : Dev) : List QWord × Nat × Dev :=
  let x := txQueue d q
  let ws := x.cut.take n
  (ws, x.next, sentTx q ws.length (setTxQueue q { x with cut := x.cut.drop n, next := (x.next + ws.length) % 2 ^ 32 } d))
/-- A leg that cut `n` words is not sent: the tributary keeps them (R290). -/
def returnTx (q n : Nat) (d : Dev) : Dev :=
  let x := txQueue d q
  let k := x.cut.length - n
  settlePressure q (setTxQueue q { x with cut := x.cut.take k, depot := x.cut.drop k ++ x.depot } d)

/-! ## Receive queues and delineation (R252, R263) -/

/-- The descriptor word of a frame (R252). -/
def descriptor (len : Nat) (bad : Bool) : QWord :=
  let v := len + 2 ^ 14 * b2n bad + 2 ^ 16 * 0xA5C396
  BitVec.ofNat 64 (v + 2 ^ 56 * (crc8 (le 7 v)).toNat)
def dLength (w : QWord) : Nat := w.toNat % 2 ^ 14
def dErr (w : QWord) : Bool := w.getLsbD 14
/-- MARK and DCHK are right; with a LENGTH in range it ends a hunt (R254). -/
def descriptorMarked (w : QWord) : Bool := w.toNat / 2 ^ 16 % 2 ^ 24 == 0xA5C396 && w.toNat / 2 ^ 56 == (crc8 (le 7 w.toNat)).toNat
def descriptorOk (maxFrame : Nat) (w : QWord) : Bool := descriptorMarked w && within 64 maxFrame (dLength w)
/-- Words of the unit that starts with a word: a cell, a frame with its descriptor, or one word of a groomed queue. -/
def unitWords (d : Dev) (q : Nat) (w : RxWord) : Nat :=
  match groupOf d q with
  | some l =>
    let g := group d l
    if g.protocol = 2 then 32 - w.no % 32
    else match w.value with
      | some v => if descriptorMarked v then 1 + ceilDiv (dLength v) 8 else 1
      | none => 1
  | none => 1
/-- One word enters a receive queue, or is discarded with its unit at QUEUE_MAX (R238). -/
def pushRx (q : Nat) (d : Dev) (w : RxWord) : Dev :=
  let x := rxQueue d q
  let sp := spills d x.cfg
  let s := rxStore x
  let n := unitWords d q w
  let starts := x.unitLeft == 0
  let drop := if starts then !roomFor d x.cfg s ((List.replicate n w).foldl (pushWord x.cfg sp) s) else x.dropping
  let left := if starts then n - 1 else x.unitLeft - 1
  if drop then queueCause q 4 (queueTally q 6 1 (queueCount q 1 2 1 (setRxQueue q { x with unitLeft := left, dropping := true } d)))
  else
    let t := pushWord x.cfg sp s w
    let d1 := setRxQueue q { withRxStore x (flipStore hitRx s t d) with unitLeft := left, dropping := false } d
    regionMoved d (wroteStore s t (noteSpill q s.spill.length t.spill.length (t.spill.length - s.spill.length) 0 d1))
/-- Words enter a receive queue with stream word numbers from `no`. -/
def arriveRx (q no : Nat) (ws : List (Option QWord)) (d : Dev) : Dev :=
  let numbered := ws.zipIdx.map (fun p => { no := (no + p.2) % 2 ^ 32, value := p.1 : RxWord })
  numbered.foldl (pushRx q) (queueCount q 1 0 ws.length d)
/-- The first `n` words leave a receive queue's depot and spill. -/
def moveRx (q n : Nat) (d : Dev) : List RxWord × Dev :=
  let x := rxQueue d q
  let r := takeStore x.cfg n (rxStore x)
  let t := returnFlipped hitRx (rxStore x) n r.2 d
  (r.1, regionMoved d (noteSpill q x.spill.length t.spill.length 0 (x.spill.length - t.spill.length)
    (setRxQueue q (withRxStore x t) (wroteReturned (rxStore x) n r.2 d))))
/-- Words reach the egress: WORDS_OUT, and fill words as event 8 (R246). -/
def egressWords (q : Nat) (ws : List RxWord) (d : Dev) : Dev :=
  queueTally q 8 (ws.filter (fun w => w.value.isNone)).length (queueCount q 1 1 ws.length d)
/-- The egress takes the first `n` words of a receive queue. -/
def takeRx (q n : Nat) (d : Dev) : List RxWord × Dev :=
  let r := moveRx q n d
  (r.1, egressWords q r.1 r.2)
/-- The values of words of a receive queue: the manual gives a fill word none (R253), a free value each. -/
def fillFree : List RxWord → Dev → List QWord × Dev
  | [], d => ([], d)
  | w :: t, d =>
    match w.value with
    | some v => let r := fillFree t d; (v :: r.1, r.2)
    | none => let f := drawFree d; let r := fillFree t f.2; (f.1 :: r.1, r.2)

/-! ## Reassembly (R233) -/

/-- The runs that follow on from an expected offset: the words released and the offset reached. `fuel` bounds the runs. -/
def chainRuns : Nat → Nat → List Run → List (Option QWord) × Nat × List Run
  | 0, e, rs => ([], e, rs)
  | n + 1, e, rs =>
    match rs.find? (fun r => r.offset == e) with
    | some r =>
      let t := chainRuns n ((e + r.words.length) % 2 ^ 32) (rs.erase r)
      (r.words ++ t.1, t.2)
    | none => ([], e, rs)
/-- A run arrives at an expected offset: the words released, the number of the first, the next offset and the runs kept. With no offset expected, or
more than 2³¹ words ahead modulo 2³², it sets E to its own OFFSET (R233). A leg frame without words is no run. -/
def takeRun (e : Option Nat) (rs : List Run) (r : Run) : List (Option QWord) × Nat × Nat × List Run :=
  match e with
  | none => (r.words, r.offset, (r.offset + r.words.length) % 2 ^ 32, [])
  | some v =>
    if r.words.isEmpty then ([], v, v, rs)
    else
      let start := if modSub (2 ^ 32) r.offset v ≤ 2 ^ 31 then v else r.offset
      let t := chainRuns (rs.length + 1) start (rs ++ [r])
      (t.1, start, t.2.1, t.2.2)
/-- A run of a non-twin tributary reaches its queue. -/
def runToQueue (q : Nat) (r : Run) (d : Dev) : Dev :=
  let x := rxQueue d q
  let t := takeRun x.expected x.runs r
  arriveRx q t.2.1 t.1 (setRxQueue q { x with expected := some t.2.2.1, runs := t.2.2.2 } d)
/-- The nearest run ahead of an offset. -/
def nearestRun (e : Nat) : List Run → Option Run
  | [] => none
  | r :: t => match nearestRun e t with
    | none => some r
    | some v => if modSub (2 ^ 32) v.offset e < modSub (2 ^ 32) r.offset e then some v else some r
/-- What a run that has waited releases: while one is kept, the words missing before the nearest run, as fill, and what follows on; how many are
fill, the next offset and the runs kept. -/
def fillGaps (waited : Run → Bool) : Nat → Nat → List Run → List (Option QWord) × Nat × Nat × List Run
  | 0, e, rs => ([], 0, e, rs)
  | n + 1, e, rs =>
    match (if rs.any waited then nearestRun e rs else none) with
    | some r =>
      let g := modSub (2 ^ 32) r.offset e
      let t := chainRuns rs.length r.offset rs
      let u := fillGaps waited n t.2.1 t.2.2
      (List.replicate g none ++ t.1 ++ u.1, g + u.2.1, u.2.2)
    | none => ([], 0, e, rs)
/-- A run has waited REASM_WAIT. -/
def hasWaited (d : Dev) (q : Nat) (r : Run) : Bool := decide (r.at_ + (rxQueue d q).cfg.reasmWait * 1000 ≤ nowNs d)
/-- LOST_WORDS, its event and REASM_GAP (R233). -/
def lostWords (q n : Nat) (d : Dev) : Dev := queueCause q 7 (queueTally q 7 n (queueCount q 1 3 n d))
/-- A run has waited REASM_WAIT: the missing words up to it are released as fill, and what follows on from them. -/
def gapFill (q : Nat) (d : Dev) : Dev :=
  let x := rxQueue d q
  match x.expected with
  | none => d
  | some e =>
    if x.runs.any (hasWaited d q) then
      let t := fillGaps (hasWaited d q) x.runs.length e x.runs
      lostWords q t.2.1 (arriveRx q e t.1 (setRxQueue q { x with expected := some t.2.2.1, runs := t.2.2.2 } d))
    else d

end Sys2Proof.Machine
end

