-- ==== Sys2Proof/Machine/Tributaries.lean ====
section
/-! DEFINITION. Raw defects of tributaries and their masking (R192 to R194, R199). -/

namespace Sys2Proof.Machine

/-- The twin index bound to a tributary's transmit or receive side. -/
def twinOf (d : Dev) (rx : Bool) (q : Nat) : Option Nat :=
  (d.twins.cfg.find? (fun e => (if rx then e.2.rx else e.2.tx) && e.2.queue == q)).map (·.1)
/-- The twin index that a tributary is bound to, in whichever direction it is enabled (R341). -/
def boundOf (d : Dev) (q : Nat) : Option Nat := (d.twins.cfg.find? (fun e => (e.2.tx || e.2.rx) && e.2.queue == q)).map (·.1)
def cipherTx (d : Dev) (c : Nat) : CipherTx := tabGet (fun _ => {}) d.cipher.tx c
def setCipherTx (c : Nat) (x : CipherTx) (d : Dev) : Dev :=
  { d with cipher := { d.cipher with tx := tabPut (fun _ => {}) d.cipher.tx c x } }
def cipherRx (d : Dev) (c : Nat) : CipherRx := tabGet (fun _ => {}) d.cipher.rx c
def setCipherRx (c : Nat) (x : CipherRx) (d : Dev) : Dev :=
  { d with cipher := { d.cipher with rx := tabPut (fun _ => {}) d.cipher.rx c x } }

/-! ## Tributary defects (R192) -/

/-- A client link from the hub to a tile is down (R17). -/
def clientDown (d : Dev) (l : Nat) : Bool := (linkOf d (4 + l / 64)).down
def laneOf (d : Dev) (l : Nat) : LaneSt := tabGet (fun _ => {}) d.clients.lanes l
/-- The client ingress of a group is out of service for a queue: not up, in a loop, Local Fault, or a CSF cell of the host in the
last 100 µs (R255, R265, R272, R280). -/
def ingressOut (d : Dev) (l q : Nat) : Bool :=
  let g := group d l
  !g.up || g.localFault || clientDown d l || tileOff d (l / 64) || (List.range g.width).any (fun i => (laneOf d (l + i)).loop != 0)
    || (match (channelOf d q).csfAt with | some t => decide (nowNs d ≤ t + 100000) | none => false)
/-- Raw CSF. DEDUCED: a tributary with transmit slots of its own and no port or link has no ingress in service. -/
def rawCsf (d : Dev) (q : Nat) : Bool :=
  match groupOf d q with
  | some l => ingressOut d l q
  | none => hasOwnSlots d q
/-- CHD from transmit, and from receive. -/
def chdTx (d : Dev) (q : Nat) : Bool :=
  (List.range 256).any (fun c => (cipherTx d c).mode && (cipherTx d c).hold && (txLegs d c).any (fun l => l.1 % 4096 == q))
def chdRx (d : Dev) (q : Nat) : Bool := (rxCoachesOf d q).any (fun c => rawCoach d c 5)
/-- The twin index whose receive side a tributary has; YLS (R192). -/
def rawYls (d : Dev) (q : Nat) : Bool :=
  match twinOf d true q with
  | some w => (tabGet (fun _ => ({} : TwinRx)) d.twins.rx w).yls
  | none => false
/-- TSF: YLS for a twin tributary, else downstream AIS of any coach that delivers it. -/
def tsf (d : Dev) (q : Nat) : Bool :=
  match twinOf d true q with
  | some _ => rawYls d q
  | none => (rxCoachesOf d q).any (drivesAis d)
def tribOn (d : Dev) (q : Nat) : Bool := !tribIdle d q
/-- Raw defect `i` of a tributary: 0 CSF, 1 CHD, 2 YLS; 3 is TSF. -/
def rawQueue (d : Dev) (q i : Nat) : Bool :=
  tribOn d q &&
  (match i with
   | 0 => rawCsf d q | 1 => chdTx d q || chdRx d q | 2 => rawYls d q | 3 => tsf d q | _ => false)
def aboveQueue (i : Nat) : List Nat := if i = 1 then [2] else []
/-- What an evaluation of a tributary's masks leads to. -/
def queueAlarms (q : Nat) (a : Alarms) (d : Dev) : Dev :=
  alarmCauses (.defectQueue q) a
    (setQueueEntity q { a.entity with lastChange := if a.cleared then nowNs d else a.entity.lastChange } d)
def settleQueueWith (fresh : List Nat) (q : Nat) (d : Dev) : Dev :=
  queueAlarms q (settleAll 3 (rawQueue d q) aboveQueue fresh (queueEntity d q)) d
/-- Raw YLS has changed: the mask of CHD (R193, R194). -/
def settleChd (q : Nat) (d : Dev) : Dev := queueAlarms q (settleOne (rawQueue d q) aboveQueue [] { entity := queueEntity d q } 1) d
/-- A raw defect of a tributary has been set. -/
def seeQueueRaw (i q : Nat) (d : Dev) : Dev := if rawQueue d q i then seeQueue i q d else d
/-- Every raw defect of a tributary that is set has been seen (R195). -/
def seeQueueAll (q : Nat) (d : Dev) : Dev := [0, 1, 2, 3].foldl (fun d i => seeQueueRaw i q d) d

end Sys2Proof.Machine
end

