-- ==== Sys2Proof/Machine/Swaps.lean ====
section
/-! DEFINITION. The switching of pages and what it does to tributaries (R197, R227, R229 to R231, R239). -/

namespace Sys2Proof.Machine

/-! ## Switching (R227, R230, R239) -/

/-- The tributary of a transmit entry, its own or groomed. -/
def entTrib (d : Dev) (w : Word) : Option Nat := (streamOf d w).map (· % 4096)
/-- The tributaries of a page's slots in force on an engine, one for each slot; those of transmit slots `lo` to `hi` − 1 of a coach. -/
def tribsOn (d : Dev) (t : Tab Word) (n : Nat) : List Nat :=
  (t.filter (fun e => e.1 / 640 == n && decide (e.1 % 40 < (coachTx d (e.1 / 40)).cfg.slots))).filterMap (fun e => entTrib d e.2)
def tribsBetween (d : Dev) (c lo hi : Nat) : List Nat := ((List.range hi).drop lo).filterMap (fun j => entTrib d (txEntry d c j))
/-- Slots gained, or lost, added up by tributary. -/
def addSlots (k : Int) (qs : List Nat) (t : Tab Int) : Tab Int := qs.foldl (fun t q => tabMod (fun _ => 0) t q (· + k)) t
/-- SLOTS_LOST of what tributaries have gained or lost (R239). -/
def loseSlots (t : Tab Int) (d : Dev) : Dev :=
  t.foldl (fun d e => if e.2 < 0 then queueCause e.1 6 (queueCount e.1 0 6 (-e.2).toNat d) else d) d
/-- A tributary whose last slot has gone clears its defects; each declared one raises CLEAR, a report that ends REPORT_CLEAR (R197, R212). -/
def tribOff (q : Nat) (d : Dev) : Dev :=
  if txSlotsOf d q = 0 && rxSlotsOf d q = 0 then
    let e := queueEntity d q
    let n := declaredCount 3 e
    let d1 := setQueueEntity q { clearDefects 3 e with lastChange := if n = 0 then e.lastChange else nowNs d } d
    let d2 := if n = 0 then d1 else raiseCause (.defectQueue q) 1 d1
    if anyReported 3 e then raiseCause (.defectQueue q) 3 d2 else d2
  else d
/-- What a completed swap does to one tributary beside SLOTS_LOST: back-pressure, defects. -/
def tribSwapped (q : Nat) (d : Dev) : Dev := tribOff q (settlePressure q d)
/-- Every coach whose swap frame was fixed has switched, and none waits for its first frame boundary. -/
def allSwitched (a : TxSwap) : Bool := a.waits == 0 && a.frames.all (fun f => a.switched.getLsbD (f.1 % 16))
/-- The engines on which the swap armed on engine n is still armed. -/
def swapEngines (d : Dev) (n : Nat) : List Nat :=
  match (engineSwap d n).armed with
  | some a => (List.range 16).filter (fun m => a.mask.getLsbD m
      && (match (engineSwap d m).armed with | some b => b.time == a.time && b.mask == a.mask | none => false))
  | none => []
/-- Change the swap armed on an engine. -/
def modArmed (n : Nat) (f : TxSwap → TxSwap) (d : Dev) : Dev :=
  setEngineSwap n { engineSwap d n with armed := (engineSwap d n).armed.map f } d
/-- A masked coach of engine n has reached its swap frame: no engine of the swap can be cancelled any more (R229). -/
def reachSwap (n : Nat) (d : Dev) : Dev := (swapEngines d n).foldl (fun d m => modArmed m (fun a => { a with late := true }) d) d
/-- The slots that tributaries have gained by a swap and the changes that go with it are judged when the last engine of the swap has switched, so that
a tributary that moves from engine to engine loses none (DEDUCED, R239). -/
def settleMoved (n : Nat) (rest : List Nat) (moved : Tab Int) (d : Dev) : Dev :=
  match rest.filter (· != n) with
  | m :: _ => modArmed m (fun a => { a with moved := moved.foldl (fun t e => tabMod (fun _ => 0) t e.1 (· + e.2)) a.moved }) d
  | [] => loseSlots moved d
/-- Every coach of the engine has switched: the pages exchange roles; SWAP_DONE (R227, R231). An unlit coach follows. -/
def finishSwap (n : Nat) (d : Dev) : Dev :=
  let x := engineSwap d n
  match x.armed with
  | none => d
  | some a =>
    if allSwitched a then
      let old := tribsOn d (txPage d x.active1) n
      let new := tribsOn d (txPage d (!x.active1)) n
      let d1 := setEngineSwap n { armed := none, last := a.time, lastFrames := a.frames, done := a.switched, owed := ~~~a.switched, active1 := !x.active1 } d
      let d2 := (coachesOf n).foldl (fun d c => setCoachSwap c { coachSwap d c with txPage1 := !x.active1 } d) d1
      let d3 := settleMoved n (swapEngines d n) (addSlots 1 new (addSlots (-1) old a.moved)) d2
      raise (0x100 + n) ((a.moved.map (·.1) ++ old ++ new).eraseDups.foldl (fun d q => tribSwapped q d) d3)
    else d
/-- DESIGN CHOICE: a swap with no coach left to switch, on an engine that had none with frames, completes when DEVTIME reaches T. -/
def dueSwaps (d : Dev) : Dev :=
  (List.range 16).foldl (fun d n => match (engineSwap d n).armed with
    | some a => if allSwitched a && decide (a.time ≤ nowNs d) then finishSwap n d else d
    | none => d) d
/-- Coach c takes the new page (R227 step 3, R230). -/
def switchCoach (c : Nat) (d : Dev) : Dev :=
  let n := engineOf c
  let x := engineSwap d n
  match x.armed with
  | none => d
  | some a =>
    if (a.waits.getLsbD (c % 16) || a.frames.any (fun f => f.1 == c)) && !a.switched.getLsbD (c % 16) then
      let d0 := ((txLegs d c).map (·.1 % 4096)).foldl (fun d q => seeQueueAll q d) d
      let d1 := setCoachSwap c { coachSwap d c with txPage1 := !x.active1 } d0
      finishSwap n (modArmed n (fun a => { a with switched := a.switched ||| BitVec.twoPow 16 (c % 16)
                                                  waits := a.waits &&& ~~~ BitVec.twoPow 16 (c % 16) }) d1)
    else d
/-- A change of coach slots affects the back-pressure of its tributaries. -/
def coachPressure (c : Nat) (d : Dev) : Dev :=
  (tribsBetween d c 0 40).eraseDups.foldl (fun d q => settlePressure q d) d
/-- Receive slots `lo` to `hi` − 1 of a coach are no longer in force: tributaries may have none left (R197). -/
def rxBetween (d : Dev) (c lo hi : Nat) : List Nat :=
  (((List.range hi).drop lo).filterMap (fun j => let w := rxEntry d c j; if entKind w = 1 then some (entQueue w) else none)).eraseDups
/-- Change a coach's receive slot count from `hi` down to `lo` by `f`, marking what its tributaries show before and clearing those left without a
slot after. -/
def cutRxSlots (c lo hi : Nat) (f : Dev → Dev) (d : Dev) : Dev :=
  let qs := rxBetween d c lo hi
  qs.foldl (fun d q => tribOff q d) (f (qs.foldl (fun d q => seeQueueAll q d) d))

end Sys2Proof.Machine
end

