-- ==== Sys2Proof/Machine/TwinPaths.lean ====
section
/-! DEFINITION. The paths of twin tributaries: heartbeat chains, failure, path states and preference (R342, R353 to R355). -/

namespace Sys2Proof.Machine

def twinRx (d : Dev) (w : Nat) : TwinRx := tabGet (fun _ => {}) d.twins.rx w
def setTwinRx (w : Nat) (x : TwinRx) (d : Dev) : Dev :=
  { d with twins := { d.twins with rx := tabPut (fun _ => {}) d.twins.rx w x } }
def chainOf (d : Dev) (c : Nat) : CoachChain := tabGet (fun _ => {}) d.twins.chains c
def setChain (c : Nat) (x : CoachChain) (d : Dev) : Dev :=
  { d with twins := { d.twins with chains := tabPut (fun _ => {}) d.twins.chains c x } }
/-- Path A and path B. -/
def pathOf (x : TwinRx) (b : Bool) : TwinPath := if b then x.b else x.a
def withPath (x : TwinRx) (b : Bool) (p : TwinPath) : TwinRx := if b then { x with b := p } else { x with a := p }
def pathEngine (g : TwinCfg) (b : Bool) : Nat := if b then g.engineB else g.engineA
/-- The coaches that deliver the legs of a path. -/
def pathCoaches (d : Dev) (w : Nat) (b : Bool) : List Nat :=
  (coachesOf (pathEngine (twinCfg d w) b)).filter (fun c => (rxLegs d c).any (fun l => l.1 == (twinCfg d w).queue))
def twinCount (w i n : Nat) (d : Dev) : Dev := bump (keyTwin w i) n d
/-- Event `e` of R365. -/
def twinTally (w e n : Nat) (d : Dev) : Dev := tally 6 e w n d
def twinCause (w b : Nat) (d : Dev) : Dev := raiseCause (.twin w) b d

/-! ## Indications (R354) -/

/-- Version 2 coaches are not checked for their role. -/
def roleFailed (d : Dev) (c : Nat) : Bool := (tabGet coachRxReset d.rx.coaches c).version == 3 && (chainOf d c).role.raw
/-- Indication `i` of a path: 0 header chain, 1 Ixtas chain, 2 SSF, 3 role. -/
def indication (d : Dev) (w : Nat) (b : Bool) (i : Nat) : Bool :=
  (pathCoaches d w b).any (fun c =>
    match i with
    | 0 => (chainOf d c).headerFailed | 1 => (chainOf d c).ixtasFailed | 2 => ssf d c | _ => roleFailed d c)
/-- The later path is failed while |D| exceeds MAX_DIFF_DELAY (R350). -/
def delayFailed (x : TwinRx) (b : Bool) : Bool := x.exceeded && x.bEarlier != b
def pathFailed (d : Dev) (w : Nat) (b : Bool) : Bool :=
  (List.range 4).any (indication d w b) || delayFailed (twinRx d w) b

/-! ## The slew of A_USE (R349, R350) -/

/-- D in ns: t_B − t_A averaged over the pairs kept. -/
def measuredD (x : TwinRx) : Int := if x.pairs.isEmpty then 0 else rounded x.pairs.sum x.pairs.length
/-- `v` moved toward `m` by at most `n`. -/
def slewTo (v m n : Nat) : Nat := if v ≤ m then min m (v + n) else max m (v - n)
/-- A_USE brought up to now: 1 µs per s toward |D| while both paths are in service and |D| is within MAX_DIFF_DELAY, else held. -/
def slewNow (d : Dev) (x : TwinRx) : TwinRx :=
  let t := elapsedNs d
  if x.a.state == .inService && x.b.state == .inService && !x.exceeded then
    let v := slewTo (1000000 * x.aUse + x.aPart) (1000000 * mag (measuredD x)) (t - x.slewAt)
    { x with aUse := v / 1000000, aPart := v % 1000000, slewAt := t }
  else { x with slewAt := t }

/-! ## States and preference (R353, R355) -/

def bothOut (x : TwinRx) : Bool := x.a.state != .inService && x.b.state != .inService
/-- The state that the indications give a path. -/
def pathNext (on failed : Bool) (s : PathState) : PathState :=
  if !on then .disabled
  else match s with
    | .waitFill => .waitFill
    | .disabled | .failed => if failed then .failed else .realigning
    | .realigning => if failed then .failed else .realigning
    | .inService => if failed then .failed else .inService
/-- Raw YLS sets; the cause is raised at most once per millisecond (R363). -/
def setYls (w : Nat) (d : Dev) : Dev :=
  let x := twinRx d w
  if x.yls then d else settleChd (twinCfg d w).queue (raiseCauseMs (.twin w) 3 (setTwinRx w { x with yls := true } d))
/-- Preference moves to the other path (R355). -/
def movePref (w : Nat) (d : Dev) : Dev :=
  let x := twinRx d w
  twinTally w 7 1 (twinCause w 0 (setTwinRx w { x with prefB := !x.prefB, moves := sat 0xFFFFFFFF (x.moves + 1), lastMove := nowNs d } d))
/-- What follows from new path states: preference, rebase, YLS. -/
def pathsMoved (w : Nat) (prefWasUp : Bool) (d : Dev) : Dev :=
  let x := twinRx d w
  let d1 := if prefWasUp && (pathOf x x.prefB).state != .inService && (pathOf x (!x.prefB)).state == .inService then movePref w d else d
  if bothOut x && (twinCfg d w).rx then setYls w (setTwinRx w { twinRx d1 w with rebase := true } d1) else d1
/-- Put a path into a state: PATH_FAIL on failing, PATH_REJOIN on coming into service. -/
def enterPath (w : Nat) (b : Bool) (s : PathState) (d : Dev) : Dev :=
  let x := slewNow d (twinRx d w)
  let p := pathOf x b
  if p.state = s then d
  else
    let up := (pathOf x x.prefB).state == .inService
    let y := withPath x b { p with state := s, copies := if s = .realigning then 0 else p.copies }
    let d1 := setTwinRx w { y with pairs := if s = .realigning then [] else y.pairs } d
    let d2 := if s = .failed then twinCause w 1 d1 else if s = .inService then twinCause w 2 d1 else d1
    pathsMoved w up d2
def settlePath (w : Nat) (b : Bool) (d : Dev) : Dev :=
  enterPath w b (pathNext (twinCfg d w).rx (pathFailed d w b) (pathOf (twinRx d w) b).state) d
def settleTwin (w : Nat) (d : Dev) : Dev := settlePath w true (settlePath w false d)
/-- After any change of an indication on an engine. -/
def settleTwinsOn (n : Nat) (d : Dev) : Dev :=
  d.twins.cfg.foldl (fun d e => if e.2.rx && (e.2.engineA == n || e.2.engineB == n) then settleTwin e.1 d else d) d

/-! ## The chains (R342, R354) -/

def headerMiss (x : CoachChain) : CoachChain :=
  let n := sat 4 (x.headerMisses + 1)
  { x with headerMisses := n, headerPresent := 0, headerFailed := x.headerFailed || n == 4 }
def headerSeen (x : CoachChain) : CoachChain :=
  let n := sat 16 (x.headerPresent + 1)
  { x with headerMisses := 0, headerPresent := n, headerFailed := x.headerFailed && n != 16 }
def ixtasMiss (x : CoachChain) : CoachChain :=
  let n := sat 3 (x.ixtasMisses + 1)
  { x with ixtasMisses := n, ixtasPresent := 0, ixtasFailed := x.ixtasFailed || n == 3 }
def ixtasSeen (x : CoachChain) : CoachChain :=
  let n := sat 3 (x.ixtasPresent + 1)
  { x with ixtasMisses := 0, ixtasPresent := n, ixtasFailed := x.ixtasFailed && n != 3 }
def modChain (c : Nat) (f : CoachChain → CoachChain) (d : Dev) : Dev := settleTwinsOn (engineOf c) (setChain c (f (chainOf d c)) d)
/-- The path that a coach's receive legs belong to: 1 for A, 2 for B, 0 without twin legs; and its twin tributaries. -/
def rxTwins (d : Dev) (c : Nat) : List Nat :=
  (d.twins.cfg.filter (fun e => e.2.rx && (e.2.engineA == engineOf c || e.2.engineB == engineOf c)
    && (rxLegs d c).any (fun l => l.1 == e.2.queue))).map (·.1)
def rxRole (d : Dev) (c : Nat) : Nat :=
  match rxTwins d c with
  | [] => 0
  | w :: _ => if (twinCfg d w).engineA = engineOf c then 1 else 2
def txTwins (d : Dev) (c : Nat) : List Nat :=
  (d.twins.cfg.filter (fun e => e.2.tx && (e.2.engineA == engineOf c || e.2.engineB == engineOf c)
    && (txLegs d c).any (fun l => l.1 == e.2.queue))).map (·.1)
def txRole (d : Dev) (c : Nat) : Nat :=
  match txTwins d c with
  | [] => 0
  | w :: _ => if (twinCfg d w).engineA = engineOf c then 1 else 2
/-- A run of a path of a twin tributary: its words follow those reassembled before (R233). -/
def runToPath (w : Nat) (b : Bool) (r : Run) (d : Dev) : Dev :=
  let x := twinRx d w
  let p := pathOf x b
  let t := takeRun p.expected p.runs r
  setTwinRx w (withPath x b { p with words := p.words ++ t.1, expected := some t.2.2.1, runs := t.2.2.2 }) d
/-- A run of a path has waited REASM_WAIT: the words missing up to it are released as fill. -/
def gapFillPath (w : Nat) (b : Bool) (d : Dev) : Dev :=
  let x := twinRx d w
  let p := pathOf x b
  let q := (twinCfg d w).queue
  match p.expected with
  | none => d
  | some e =>
    if p.runs.any (hasWaited d q) then
      let t := fillGaps (hasWaited d q) p.runs.length e p.runs
      lostWords q t.2.1 (setTwinRx w (withPath x b { p with words := p.words ++ t.1, expected := some t.2.2.1, runs := t.2.2.2 }) d)
    else d
/-- IXTAS_HB_MISS: 7.5 ms, then each 5 ms, without a heartbeat on a coach that delivers twin legs. -/
def execIxtasHbMiss (c : Coach) : State → Host.Outcome State Fault Refusal :=
  lift fun d => guard (!(rxTwins d c).isEmpty && !asleep d) (modChain c ixtasMiss) d

/-! ## Legs cut and not sent (R221, R290) -/

def withCut (x : TwinTx) (b : Bool) (n : Nat) : TwinTx := if b then { x with cutB := n } else { x with cutA := n }
def cutOf (x : TwinTx) (b : Bool) : Nat := if b then x.cutB else x.cutA
def ptrOf (x : TwinTx) (b : Bool) : Nat := if b then x.ptrB else x.ptrA
/-- A path's pointer, with what its legs have cut (R345). -/
def posOf (x : TwinTx) (b : Bool) : Nat := ptrOf x b + cutOf x b
/-- The rearmost of the attached paths by a measure. -/
def rearmost (x : TwinTx) (f : Bool → Nat) : Nat := if x.detachedA then f true else if x.detachedB then f false else min (f false) (f true)
def takenWord : TwinWord → Option QWord
  | .taken w => some w
  | .header _ | .queued => none
/-- Words from the queue's head take the places of the data words that were in it. -/
def fillTaken : List TwinWord → List QWord → List TwinWord
  | [], _ => []
  | .queued :: t, w :: ws => .taken w :: fillTaken t ws
  | v :: t, ws => v :: fillTaken t ws
def unTaken : TwinWord → TwinWord
  | .taken _ => .queued
  | v => v
/-- The words that every attached path has taken, and they alone, leave the queue (R345): after a cut, and after one that is not sent. -/
def settleTaken (w : Nat) (d : Dev) : Dev :=
  let x := twinTx d w
  let q := (twinCfg d w).queue
  let k := rearmost x (posOf x) - x.base
  let front := x.stream.take k
  let back := x.stream.drop k
  let r := moveTx q (queuedIn front) d
  let ws := back.filterMap takenWord
  let d1 := setTxQueue q { txQueue r.2 q with depot := ws ++ (txQueue r.2 q).depot } r.2
  regionMoved d (settlePressure q (setTwinTx w { x with stream := fillTaken front r.1 ++ back.map unTaken } d1))
/-- Words cut for a groomed leg return to the head of their queue. -/
def returnRx (r n : Nat) (d : Dev) : Dev :=
  let x := rxQueue d r
  let k := x.groomCut.length - n
  setRxQueue r { x with groomCut := x.groomCut.take k, depot := x.groomCut.drop k ++ x.depot } d
/-- A leg of coach c that was cut is not sent: its words stay with their tributary. -/
def returnLeg (c : Nat) (d : Dev) (l : CutLeg) : Dev :=
  if 4096 ≤ l.stream then returnRx (l.stream - 4096) l.count d
  else match twinOf d false l.stream with
    | some w =>
      let b := (twinCfg d w).engineB == engineOf c
      settleTaken w (setTwinTx w (withCut (twinTx d w) b (cutOf (twinTx d w) b - l.count)) d)
    | none => returnTx l.stream l.count d
/-- Nothing that a coach has cut is sent: the last cut returns first. -/
def dropCuts (c : Nat) (d : Dev) : Dev :=
  let d1 := (frameTx d c).cuts.reverse.foldl (returnLeg c) d
  setFrameTx c { frameTx d1 c with cuts := [] } d1

end Sys2Proof.Machine
end

