-- ==== Sys2Proof/Machine/Transmit.lean ====
section
/-! DEFINITION. The transmit commands (R74 to R82, R549, R555). -/

namespace Sys2Proof.Machine

/-! ## Coach configuration -/

/-- The fields of COACH_CONFIG (R77). -/
def coachCfgOf (b : List Byte) : CoachCfg :=
  { slots := u8 b 2, profile := u8 b 3, version := u8 b 4, power := s16 b 6, seedX := u16 b 8, seedY := u16 b 10 }
/-- A configuration takes effect: frames stop when the coach becomes unlit, which takes the page of an armed swap; the engine
state follows (R72, R230, R552). -/
def takeCoachCfg (c : Nat) (cfg : CoachCfg) (d : Dev) : Dev :=
  let x := coachTx d c
  let seen := (tribsBetween d c cfg.slots x.cfg.slots).foldl (fun d q => seeQueueAll q d) d
  let d0 := if cfg.slots = 0 then dropCuts c seen else seen
  let d1 := setCoachTx c { x with cfg := cfg, atBoundary := none, framesRun := x.framesRun && decide (0 < cfg.slots), starts := x.starts && decide (0 < cfg.slots) } d0
  let d2 := if cfg.slots = 0 && x.cfg.slots != 0 then switchCoach c d1 else d1
  settleEngine (engineOf c) (coachPressure c d2)
/-- A configuration that takes effect without a swap: the slots of a lower count are lost, and defects of tributaries left without one cleared (R197,
R239). -/
def applyCoachCfg (c : Nat) (cfg : CoachCfg) (d : Dev) : Dev :=
  let gone := tribsBetween d c cfg.slots (coachTx d c).cfg.slots
  gone.eraseDups.foldl (fun d q => tribOff q d) (loseSlots (addSlots (-1) gone []) (takeCoachCfg c cfg d))
/-- A configuration that waited for a frame boundary takes effect as the frames end. -/
def takeWaitingCfg (c : Nat) (cfg : Option CoachCfg) (d : Dev) : Dev :=
  match cfg with | some q => applyCoachCfg c q d | none => d
/-- A hitch has TX_ENABLE or RX_ENABLE set (R45, R67). -/
def hitched (d : Dev) (n : Nat) : Bool := (hitchOf d (n / 2)).txEnable || (hitchOf d (n / 2)).rxEnable
/-- Slots of an engine's coaches with `slots` in place of coach c's own (R549). -/
def slotSum (d : Dev) (c slots : Nat) : Nat :=
  ((coachesOf (engineOf c)).map (fun i => if i = c then slots else (coachTx d i).cfg.slots)).sum
/-- The conditions of COACH_CONFIG and COACH_EVAL in the order of R549. -/
def coachChecks (d : Dev) (b : List Byte) : List (Bool × Verdict) :=
  let c := u16 b 0
  let q := coachCfgOf b
  let x := coachTx d c
  let e := engTx d (engineOf c)
  let hitless := u8 b 5 == 1
  [(!(within 0 255 c && within 0 2 q.profile && within 2 3 q.version && within 0 1 (u8 b 5) && withinI (-60) 30 q.power
      && q.seedX != 0 && q.seedY != 0), outOfRange),
   (decide (40 < q.slots) || decide (640 < slotSum d c q.slots), badArg 2),
   (q.version == 2 && q.profile != 1, badArg 3),
   (q.version == 2 && hitched d (engineOf c), badArg 5),
   (entropyOver e.rate q.profile q.slots, badArg 1),
   (hitless && x.cfg.version == 2, badArg 4),
   (hitless && (q.slots == 0 || !litCoach d c || !e.enable || q != { x.cfg with slots := q.slots, power := q.power }), outOfRange),
   (hitless && x.pending.isSome, busy 8)]
/-- The response of COACH_CONFIG and COACH_EVAL (R77). -/
def coachReply (d : Dev) (b : List Byte) : List Byte :=
  let q := coachCfgOf b
  let r := (engTx d (engineOf (u16 b 0))).rate
  if q.slots = 0 then zeros 16
  else
    let h := needH r q.profile q.slots
    let net := netRate r q.profile q.slots
    [0] ++ le 1 (constellation h) ++ le 2 h ++ le 4 net ++ le 4 (net - q.slots * 5000000) ++ zeros 4
/-- The frame at which the waiting change and the armed swap that carries it apply to coach c, if frame `f` lies 1 to 256 frames before it (R161). -/
def changeFrame (d : Dev) (c f : Nat) : Option Nat :=
  match (engineSwap d (engineOf c)).armed with
  | some a =>
    if (coachTx d c).pending.isSome && (coachTx d c).joined then
      (a.frames.find? (fun e => e.1 == c && !a.switched.getLsbD (c % 16))).bind (fun e =>
        let k := modSub (2 ^ 48) e.2 f
        if 1 ≤ k ∧ k ≤ 256 then some e.2 else none)
    else none
  | none => none
/-- The last frame sent has announced the change: its swap cannot be cancelled any more (R161). -/
def changeSent (d : Dev) (c : Nat) : Bool :=
  (match (frameTx d c).sent with | some s => s.header.chgValid | none => false)
    && (changeFrame d c ((frameTx d c).next + 2 ^ 48 - 1)).isSome
/-- The effect of COACH_CONFIG (R78): APPLY_MODE 1 waits for the next swap armed; APPLY_MODE 0 cancels a waiting change and takes
effect at the next frame boundary, or at once while no frames run. DEDUCED: it cancels one that is announced too, as R78 and R230 say of every
one; that R161 withdraws no announcement bars cancelling the swap. -/
def coachApply (b : List Byte) (d : Dev) : Dev :=
  let c := u16 b 0
  let q := coachCfgOf b
  let x := coachTx d c
  if u8 b 5 = 1 then setCoachTx c { x with pending := some (q.slots, q.power), joined := false } d
  else
    let y := { x with pending := none, joined := false }
    if x.framesRun then setCoachTx c { y with atBoundary := some q } d else applyCoachCfg c q (setCoachTx c y d)
def coachConfigService : Service where
  opcode := 0x0202
  targets _ b := 1 :: coachBlock (u16 b 0)
  checks := coachChecks
  run _ b d := let r := coachReply d b; done r (coachApply b d)
def execCoachConfig (mb : Mailbox) : State → Host.Outcome State Fault Refusal := lift (serve coachConfigService mb)
/-- COACH_EVAL: the same judgement, nothing changed and no event; a freeze does not refuse it (R337, R549). -/
def coachEvalService : Service where
  opcode := 0x0203
  targets _ b := 1 :: coachBlock (u16 b 0)
  freeze := .never
  checks := coachChecks
  run _ b d := done (coachReply d b) d
def execCoachEval (mb : Mailbox) : State → Host.Outcome State Fault Refusal := lift (serve coachEvalService mb)

/-! ## ENG_TX_CONFIG (R76) -/

/-- Some enabled receive configuration of the engine would be refused at the new class (R42); the receive chapter's state. -/
def rxEntropy (d : Dev) (n cls : Nat) : Bool :=
  (coachesOf n).any (fun c => let x := tabGet coachRxReset d.rx.coaches c; x.enable && entropyOver cls x.profile x.slots)
def engTxChecks (d : Dev) (b : List Byte) : List (Bool × Verdict) :=
  let n := u8 b 0
  let e := engTx d n
  let change := u8 b 2 != e.rate
  [(!(within 0 15 n && within 0 2 (u8 b 2) && within 1 63 (u8 b 3) && within 0 63 (u8 b 4) && withinI (-20000) 20000 (s32 b 8)
      && withinI (-2000) 2000 (s32 b 12) && withinI (-1000) 1800 (s16 b 16)), outOfRange),
   (change && hitched d n, badArg 5),
   (change && anyLit d n, badArg 6),
   (change && rxEntropy d n (u8 b 2), badArg 1),
   (decide (launchCap d n < u8 b 3), braked 1)]
/-- The settings of ENG_TX_CONFIG; CAPPED clears with a PEAK_TARGET at or below the cap (R60). -/
def engTxSet (b : List Byte) (e : EngineTx) : EngineTx :=
  { e with
    enable := flag b 1 0, hostMute := flag b 1 1, rate := u8 b 2, peak := u8 b 3, carrier := u8 b 4, nl := u8 b 5
    cd := s32 b 8, freq := s32 b 12, laserThreshold := s16 b 16, capped := false
    mute := if flag b 1 1 then e.mute ||| 2 else e.mute &&& 0xD }
/-- ENABLE = 0: gate closed, outputs at 0 V, frames stop, a waiting APPLY_MODE 1 change is discarded, and an
armed swap's new page is taken (R72, R82, R230, R552). -/
def disableTx (n : Nat) (d : Dev) : Dev :=
  let d1 := mapBias n (fun _ x => { x with state := .off, mv := 0, lockPoint := none })
    (setEngTx n { engTx d n with state := .disabled, gateOpen := false } d)
  let stop (d : Dev) (c : Nat) : Dev :=
    let x := coachTx d c
    switchCoach c (dropCuts c (takeWaitingCfg c x.atBoundary (setCoachTx c { x with pending := none, joined := false, framesRun := false, starts := false } d)))
  noteHitch n ((coachesOf n).foldl stop d1)
/-- ENABLE = 1 (DESIGN CHOICE: VDRV is present, which no state or event of the manual tells; what ENABLE = 1 does without it is not said): from
DISABLED to BIAS_ACQ or, with the laser-low condition set, LASER_LOW; from BIAS_FAIL to BIAS_ACQ (R72). -/
def enableTx (n : Nat) (d : Dev) : Dev :=
  let e := engTx d n
  match e.state with
  | .disabled =>
    if e.laserLow then settleEngine n (raiseCause (.engTx n) 2 (waitForLaser n (setEngTx n { e with state := .laserLow } d)))
    else settleEngine n (enterModes n (setEngTx n { e with state := .biasAcq } d))
  | .biasFail => settleEngine n (enterModes n (setEngTx n { e with state := .biasAcq } d))
  | _ => settleEngine n d
/-- A new rate class gives the engine's configured receive coaches the H that R47 chooses at it; 0 where a disabled configuration has
none (R42, R88). -/
def retuneRx (n cls : Nat) (d : Dev) : Dev :=
  { d with rx := { d.rx with coaches := (coachesOf n).foldl (fun t c => tabMod coachRxReset t c (fun x =>
      { x with hNow := if x.slotsNow = 0 || entropyOver cls x.profile x.slotsNow then 0 else needH cls x.profile x.slotsNow })) d.rx.coaches } }
def engTxRun (b : List Byte) (d : Dev) : Dev :=
  let n := u8 b 0
  let e := engTx d n
  let d0 := if u8 b 2 = e.rate then d else retuneRx n (u8 b 2) d
  let d1 := setEngTx n (engTxSet b e) d0
  if flag b 1 0 then enableTx n d1 else if e.state = .disabled then d1 else disableTx n d1
def engTxConfigService : Service where
  opcode := 0x0201
  targets _ b := engineBlock (u8 b 0)
  checks := engTxChecks
  run _ b d := okay (engTxRun b d)
  refused v b d := if v = braked 1 then raiseCause (.engTx (u8 b 0)) 5 d else d
def execEngTxConfig (mb : Mailbox) : State → Host.Outcome State Fault Refusal := lift (serve engTxConfigService mb)

/-! ## HITCH_CONFIG (R64, R79; the receive conditions are those of R94) -/

/-- A coach of the engine is at frame version 2: its transmit configuration in force or the one that waits for its frame boundary, or, where it is
configured to receive, its receive side (R64, R94). -/
def version2On (d : Dev) (n : Nat) : Bool :=
  (coachesOf n).any (fun c =>
    let x := coachTx d c
    let r := tabGet coachRxReset d.rx.coaches c
    x.cfg.version == 2 || (match x.atBoundary with | some q => q.version == 2 | none => false) || (r.slots != 0 && r.version == 2))
def hitchChecks (d : Dev) (b : List Byte) : List (Bool × Verdict) :=
  let h := u8 b 0
  let r := (engTx d (2 * h)).rate
  let s := mag (s32 b 4)
  let wants := flag b 1 0 || flag b 1 1
  [(!(within 0 7 h && within 1 64 (u16 b 8) && within 0 4000 (u32 b 12)), outOfRange),
   (wants && (version2On d (2 * h) || version2On d (2 * h + 1)), badArg 5),
   (wants && !(r == (engTx d (2 * h + 1)).rate && within (channelSlot r) (channelSlot r + 150000) s), badArg 7)]
def hitchRun (b : List Byte) (d : Dev) : Dev :=
  let h := u8 b 0
  let x := hitchOf d h
  setHitch h { x with txEnable := flag b 1 0, rxEnable := flag b 1 1, spacing := s32 b 4, spans := u16 b 8, strength := u8 b 10,
                      dispersion := u32 b 12 } d

/-! ## TX_PREEMPH (R57, R80) -/

def dacOf (d : Dev) (i : Nat) : Preemph := tabGet (fun _ => {}) d.tx.dacs i
/-- The DACs 4 n + i that DAC names: one, or all four with 0xFF. -/
def dacsNamed (n i : Nat) : List Nat := if i = 0xFF then [4 * n, 4 * n + 1, 4 * n + 2, 4 * n + 3] else [4 * n + i]
def tapsOf (b : List Byte) : List Int := (List.range 31).map (fun i => s16 b (8 + 2 * i))
/-- The 31 coefficients in force: as stored at manufacture, with the boost, or the host's (R57). -/
def coefficients (n i : Nat) (x : Preemph) : List Int :=
  if x.mode = 2 then x.taps
  else (List.range 31).map (fun k => (if x.mode = 0 then Config.factoryTap (4 * n + i) k else Config.boostTap n i x.boost k).toInt)
/-- BOOST and TAPS are taken only in the mode that uses them (R555). -/
def preemphSet (b : List Byte) (x : Preemph) : Preemph :=
  { mode := u8 b 2, skew := s16 b 6, boost := if u8 b 2 = 1 then u16 b 4 else x.boost
    taps := if u8 b 2 = 2 then tapsOf b else x.taps }
def setDac (i : Nat) (x : Preemph) (d : Dev) : Dev :=
  { d with tx := { d.tx with dacs := tabPut (fun _ => {}) d.tx.dacs i x } }
/-- TX_PREEMPH (R57, R80). DESIGN CHOICE: the answer is REASON and three zero bytes; the manual gives no further layout. -/
def txPreemphService : Service where
  opcode := 0x0205
  targets _ b := engineBlock (u8 b 0)
  checks _ b :=
    [(!(within 0 15 (u8 b 0) && (within 0 3 (u8 b 1) || u8 b 1 == 0xFF) && within 0 2 (u8 b 2)
        && (u8 b 2 != 1 || within 0 120 (u16 b 4)) && withinI (-256) 256 (s16 b 6)), outOfRange)]
  run _ b d := okay ((dacsNamed (u8 b 0) (u8 b 1)).foldl (fun d i => setDac i (preemphSet b (dacOf d i)) d) d)
def execTxPreemph (mb : Mailbox) : State → Host.Outcome State Fault Refusal := lift (serve txPreemphService mb)

/-! ## BIAS_CONFIG (R69, R81) -/

def outputsNamed (n i : Nat) : List Nat := if i = 0xFF then biasOutputs n else [6 * n + i]
def biasMode (m : Nat) : BiasMode := if m = 0 then .lock else if m = 1 then .hold else .manual
/-- SETPOINT and DITHER_AMPLITUDE are taken only in the mode that uses them (R555); a LOCK output already in LOCK keeps its
loop running. -/
def biasSet (b : List Byte) (x : BiasOutput) : BiasOutput :=
  { x with mode := biasMode (u8 b 2), setpoint := if u8 b 2 = 2 then u16 b 4 else x.setpoint
           dither := if u8 b 2 = 0 then u16 b 6 else x.dither }
/-- The state of an output after BIAS_CONFIG: OFF on a disabled engine; held while muted or waiting for the laser. -/
def biasEnter (d : Dev) (b : Nat) (old x : BiasOutput) : BiasOutput :=
  let s := (engTx d (b / 6)).state
  if s = .disabled then x
  else if x.mode = .lock && old.mode = .lock then x
  else
    let y := enterMode (biasLow d b) (biasHigh d b) x
    if s = .muted || s = .laserLow then holdLock y else y
/-- BIAS_CONFIG (R69, R81). DESIGN CHOICE: the answer is REASON and three zero bytes; the manual gives no further layout. -/
def biasConfigService : Service where
  opcode := 0x0206
  targets _ b := 6 :: engineBlock (u8 b 0)
  checks d b :=
    [(!(within 0 15 (u8 b 0) && (within 0 5 (u8 b 1) || u8 b 1 == 0xFF) && within 0 2 (u8 b 2)
        && (u8 b 2 != 2 || within 0 14000 (u16 b 4)) && (u8 b 2 != 0 || within 10 200 (u16 b 6))), outOfRange),
     (u8 b 2 == 2 && (outputsNamed (u8 b 0) (u8 b 1)).any (fun i => !within (biasLow d i) (biasHigh d i) (u16 b 4)), braked 2)]
  run _ b d := okay (settleEngine (u8 b 0) ((outputsNamed (u8 b 0) (u8 b 1)).foldl
    (fun d i => setBias i (biasEnter d i (biasOf d i) (biasSet b (biasOf d i))) d) d))
def execBiasConfig (mb : Mailbox) : State → Host.Outcome State Fault Refusal := lift (serve biasConfigService mb)

/-! ## ENG_TX_STATUS (R82) -/

def TxState.code : TxState → Nat
  | .disabled => 0 | .biasAcq => 1 | .carrierOnly => 2 | .running => 3 | .muted => 4 | .laserLow => 5 | .biasFail => 6
def BiasState.code : BiasState → Nat
  | .off => 0 | .sweep => 1 | .locking => 2 | .locked => 3 | .held => 4 | .manual => 5 | .windowLimit => 6
/-- Bit k set while coach k is lit and its frames run. -/
def litMask (d : Dev) (n : Nat) : Nat :=
  ((List.range 16).map (fun k => if litCoach d (16 * n + k) && (coachTx d (16 * n + k)).framesRun then 2 ^ k else 0)).sum
def hitchStateCode (d : Dev) (n : Nat) : Nat :=
  if (hitchOf d (n / 2)).txEnable then (if partnerIdle d (if n % 2 = 0 then n + 1 else n - 1) then 2 else 1) else 0
def biasEntry (x : BiasOutput) : List Byte := le 2 x.mv ++ le 1 x.state.code ++ [0]
/-- The status body; `m` holds the measured LASER_IN and TX_MONITOR, which are free values. -/
def engTxStatusBody (n : Nat) (m : BitVec 64) (d : Dev) : List Byte :=
  let e := engTx d n
  le 1 n ++ le 1 e.state.code ++ le 1 e.rate ++ le 1 e.mute.toNat ++ le 2 (litMask d n) ++ le 1 (hitchStateCode d n)
    ++ le 1 (b2n e.capped + 2 * b2n e.laserLow) ++ le 4 m.toNat ++ le 4 (causeOf d (.engTx n)).toNat
    ++ le 8 (countOf d (keyEngine n 0)) ++ (biasOutputs n).flatMap (fun b => biasEntry (biasOf d b))
def engTxStatusService : Service where
  opcode := 0x0207
  targets _ b := engineBlock (u8 b 0)
  freeze := .never
  checks _ b := [(!within 0 15 (u8 b 0), outOfRange)]
  run _ b d :=
    let (m, d1) := drawFree d
    done (engTxStatusBody (u8 b 0) m d) (clearCause (.engTx (u8 b 0)) (flag b 1 0) d1)
def execEngTxStatus (mb : Mailbox) : State → Host.Outcome State Fault Refusal := lift (serve engTxStatusService mb)

end Sys2Proof.Machine
end

