-- ==== Sys2Proof/Machine/Calibration.lean ====
section
/-! DEFINITION. Calibration: triggers, runs, records and commands (R85, R86, R501 to R507). -/

namespace Sys2Proof.Machine

def calOf (d : Dev) (n : Nat) : Calibration := tabGet calReset d.bench.cal n
def setCal (n : Nat) (x : Calibration) (d : Dev) : Dev :=
  { d with bench := { d.bench with cal := tabPut calReset d.bench.cal n x } }
def engRx (d : Dev) (n : Nat) : EngineRx := tabGet (fun _ => {}) d.rx.engines n
def setEngRx (n : Nat) (e : EngineRx) (d : Dev) : Dev :=
  { d with rx := { d.rx with engines := tabPut (fun _ => {}) d.rx.engines n e } }

/-- A coach in this state is acquiring (R86). -/
def acquiring (s : RxState) : Bool := s == .acqCd || s == .acqPol || s == .acqCarrier || s == .cwHunt || s == .warm
/-- An enabled coach of the engine is acquiring. -/
def acquires (d : Dev) (n : Nat) : Bool := (coachesOf n).any (fun c => acquiring (tabGet coachRxReset d.rx.coaches c).state)
/-- A trigger of causes 1 INITIAL, 2 TEMPERATURE, 3 HOST (R502): merges into a pending run, makes one further run pending
during a run, and is deferred with CAL_DEFERRED under raw LOS (R86). -/
def calTrigger (n cause : Nat) (d : Dev) : Dev :=
  let x := calOf d n
  match x.state with
  | .running => setCal n { x with again := if x.again = 0 then cause else x.again } d
  | .pending | .deferred => d
  | .idle =>
    let d1 := setCal n { x with state := if (engRx d n).los then .deferred else .pending, pendingCause := cause
                                waitFrom := if acquires d n then some (elapsedNs d) else none } d
    let d2 := { d1 with bench := { d1.bench with calOrder := d1.bench.calOrder ++ [n] } }
    if (engRx d n).los then raiseCause (.engRx n) 3 d2 else d2
/-- The engines of a line tile. -/
def tileEngines (n : Nat) : List Nat := [n / 4 * 4, n / 4 * 4 + 1, n / 4 * 4 + 2, n / 4 * 4 + 3]
/-- A run triggered during an acquisition waits until no coach is acquiring, but for no more than 100 ms (R86). -/
def acqWaits (d : Dev) (n : Nat) : Bool :=
  match (calOf d n).waitFrom with
  | some t => acquires d n && decide (elapsedNs d < t + 100000000)
  | none => false
/-- The engine's run can start: it waits for nothing but its turn, and there is light. -/
def runReady (d : Dev) (n : Nat) : Bool :=
  ((calOf d n).state == .pending || (calOf d n).state == .deferred) && !(engRx d n).los && !engineOff d n && !acqWaits d n
/-- The first engine of a tile, in trigger order, whose run can start. -/
def nextRun (d : Dev) (n : Nat) : Option Nat := d.bench.calOrder.find? (fun m => m / 4 == n / 4 && runReady d m)
/-- A pending run may start: its tile runs none, it is next in order, no freeze is engaged (R31, R86, R503). -/
def calMayStart (d : Dev) (n : Nat) : Bool :=
  nextRun d n == some n && !(tileEngines n).any (fun m => (calOf d m).state == .running) && !freezeOn d && !engineOff d n
def execCalStart (n : Engine) : State → Host.Outcome State Fault Refusal :=
  lift fun d => guard (calMayStart d n) (fun d =>
    let x := calOf d n
    let d1 := setCal n { x with state := .running, lastCause := x.pendingCause, waitFrom := none, startAt := elapsedNs d } d
    raiseCause (.cal n) 0 { d1 with bench := { d1.bench with calOrder := d1.bench.calOrder.erase n } }) d

/-- The mean of the samples of the engine's calibration tally in the present window; the last mean if there is none. -/
def windowMean (d : Dev) (n : Nat) : Int :=
  let w := tabGet (fun _ => (0, 0)) d.bench.window (calOf d n).tally
  if w.1 = 0 then (calOf d n).tempNow else rounded w.2 w.1
/-- A DAC skew estimated from the monitor tap: a free value in the range of SKEW (R57, R80). -/
def freeSkew (v : BitVec 64) : Int := (v.toNat % 513 : Nat) - 256
/-- The transmit side lets a run estimate the DAC skews (R501). -/
def dacReady (d : Dev) (n : Nat) : Bool := (engTx d n).state == .carrierOnly || (engTx d n).state == .running
/-- A run completes: every estimated value is a free value. -/
def calComplete (n : Nat) (d : Dev) : Dev :=
  let skip := !dacReady d n
  let d1 := if skip then d else (dacsNamed n 0xFF).foldl (fun d i =>
    let (v, d') := drawFree d; setDac i { dacOf d' i with skew := freeSkew v } d') d
  let x := calOf d1 n
  let again := x.again
  let t := windowMean d1 n
  let d2 := setCal n { x with state := .idle, again := 0, converged := true, dacSkipped := skip, tempLast := t, runs := x.runs + 1
                              lastDone := nowNs d1, lastDuration := (elapsedNs d1 - x.startAt) / 1000, draw := some d1.free, record := [] }
    { d1 with free := d1.free + 1 }
  let d3 := raiseCause (.cal n) 1 d2
  if again = 0 then d3 else calTrigger n again d3
/-- The values in force have moved: what they are now is a free value (R85, R501). -/
def calMoves (n : Nat) (d : Dev) : Dev := setCal n { calOf d n with draw := some d.free, record := [] } { d with free := d.free + 1 }
/-- A raw LOS in steps 1 or 2 aborts the run: the values reached so far stay, and it becomes pending again (R501). -/
def calAbort (n : Nat) (d : Dev) : Dev :=
  let d0 := calMoves n d
  let x := calOf d0 n
  let d1 := raiseCause (.cal n) 2 (setCal n { x with state := .idle, again := 0 } d0)
  calTrigger n x.lastCause d1
/-- Steps 1 and 2 of a run take 40 ms. -/
def earlySteps : Nat := 40000000
/-- A raw LOS of the engine. -/
def calLight (n : Nat) (d : Dev) : Dev :=
  if (calOf d n).state = .running ∧ elapsedNs d < (calOf d n).startAt + earlySteps then calAbort n d else d
/-- Its steps have taken their time: 10 ms more where the DAC skews are estimated. -/
def runOver (d : Dev) (n : Nat) : Bool :=
  decide ((calOf d n).startAt + earlySteps + (if dacReady d n then 10000000 else 0) ≤ elapsedNs d)
def execCalDone (n : Engine) : State → Host.Outcome State Fault Refusal :=
  lift fun d => guard ((calOf d n).state == .running && runOver d n) (calComplete n) d

/-- The temperature of the window differs from TEMP_LAST by more than THRESHOLD (0.1 °C against 1/128 °C). DEDUCED: there is no TEMP_LAST before
a completed run or a restored record, and so no trigger. -/
def tempDue (d : Dev) (n : Nat) : Bool :=
  let x := calOf d n
  let w := tabGet (fun _ => (0, 0)) d.bench.window x.tally
  x.auto && x.converged && w.1 != 0 && decide (x.threshold * 128 * w.1 < (10 * (w.2 - x.tempLast * (w.1 : Int))).natAbs)
/-- The evaluation at each DEVTIME multiple of 100 ms, lower engine first; the window restarts (R502, R503). -/
def calEvaluate (d : Dev) : Dev :=
  let d1 := (List.range 16).foldl (fun d n => setCal n { calOf d n with tempNow := windowMean d n } d) d
  let d2 := (List.range 16).foldl (fun d n => if tempDue d1 n && !engineOff d n then calTrigger n 2 d else d) d1
  { d2 with bench := { d2.bench with window := [] } }
/-- Multiples of 100 ms that DEVTIME has reached. -/
def evalIndex (d : Dev) : Nat := nowNs d / 100000000
def execCalTemperatureEval : State → Host.Outcome State Fault Refusal :=
  lift fun d => guard (decide (d.bench.evaluated < evalIndex d)) (fun d =>
    calEvaluate { d with bench := { d.bench with evaluated := evalIndex d } }) d

/-! ## Records (R504, R506) -/

/-- A byte of the values in force: a restored byte, a byte a run estimated, or 0. -/
def calValue (x : Calibration) (i : Nat) : Byte :=
  match x.draw with
  | some k => Config.calByte k i
  | none => tabGet (fun _ => 0) x.record i
def calValues (x : Calibration) : Nat → Nat → List Byte
  | _, 0 => []
  | i, n + 1 => calValue x i :: calValues x (i + 1) n
/-- The record of an engine: 3,136 bytes. -/
def calRecord (d : Dev) (n : Nat) : List Byte :=
  let x := calOf d n
  [1] ++ le 1 n ++ le 1 Config.stepping.toNat ++ le 1 (b2n (x.state == .running) + 2 * b2n x.dacSkipped) ++ leI 2 x.tempLast ++ zeros 2
    ++ le 8 x.lastDone ++ le 8 (Config.serial.toNat % 2 ^ 64) ++ calValues x 24 12
    ++ (dacsNamed n 0xFF).flatMap (fun i => leI 2 (dacOf d i).skew) ++ zeros 20 ++ calValues x 64 3072
/-- The engines a command names. -/
def enginesNamed (n : Nat) : List Nat := if n = 0xFF then List.range 16 else [n]

def calConfigService : Service where
  opcode := 0x0B04
  targets _ b := (enginesNamed (u8 b 0)).flatMap engineBlock
  freeze := .never
  checks _ b := [(!((within 0 15 (u8 b 0) || u8 b 0 == 0xFF) && within 0 31 (u8 b 2) && within 5 100 (u16 b 4)), outOfRange)]
  run _ b d := okay ((enginesNamed (u8 b 0)).foldl
    (fun d n => setCal n { calOf d n with auto := flag b 1 0, tally := u8 b 2, threshold := u16 b 4 } d) d)
def execCalConfig (mb : Mailbox) : State → Host.Outcome State Fault Refusal := lift (serve calConfigService mb)

def calRunService : Service where
  opcode := 0x0B05
  targets _ b := engineBlock (u8 b 0)
  freeze := .never
  checks _ b := [(!within 0 15 (u8 b 0), outOfRange)]
  run _ b d := okay (calTrigger (u8 b 0) 3 d)
def execCalRun (mb : Mailbox) : State → Host.Outcome State Fault Refusal := lift (serve calRunService mb)

def CalState.code : CalState → Nat
  | .idle => 0 | .pending => 1 | .deferred => 2 | .running => 3
def calStatusBody (d : Dev) (n : Nat) : List Byte :=
  let x := calOf d n
  zeros 4 ++ le 1 x.state.code ++ le 1 x.lastCause ++ le 1 (b2n x.converged + 2 * b2n x.dacSkipped + 4 * b2n x.auto) ++ [0]
    ++ leI 2 x.tempLast ++ leI 2 x.tempNow ++ le 4 x.runs ++ le 8 x.lastDone ++ le 4 x.lastDuration ++ le 4 (causeOf d (.cal n)).toNat
def calStatusService : Service where
  opcode := 0x0B06
  targets _ b := engineBlock (u8 b 0)
  freeze := .never
  checks _ b := [(!within 0 15 (u8 b 0), outOfRange)]
  run _ b d := done (calStatusBody d (u8 b 0)) (clearCause (.cal (u8 b 0)) (flag b 1 0) d)
def execCalStatus (mb : Mailbox) : State → Host.Outcome State Fault Refusal := lift (serve calStatusService mb)

/-- CAL_READ returns the values in force; those of a run in progress are on the move (R505). -/
def calReadService : Service where
  opcode := 0x0B07
  targets _ b := engineBlock (u8 b 0)
  freeze := .never
  checks _ b := [(!within 0 15 (u8 b 0), outOfRange)]
  run _ b d :=
    let d1 := if (calOf d (u8 b 0)).state = .running then calMoves (u8 b 0) d else d
    done (zeros 4 ++ calRecord d1 (u8 b 0)) d1
def execCalRead (mb : Mailbox) : State → Host.Outcome State Fault Refusal := lift (serve calReadService mb)

/-- CAL_MISMATCH is REASON 56: FORMAT, ENGINE, STEPPING or SERIAL_LOW differ from the device's (R504). -/
def calMismatch (b : List Byte) : Bool :=
  u8 b 0 != 1 || decide (15 < u8 b 1) || u8 b 2 != Config.stepping.toNat || un b 16 8 != Config.serial.toNat % 2 ^ 64
/-- A restored record takes effect: TEMP_LAST, the values, the DAC skews (R504). -/
def calRestore (b : List Byte) (d : Dev) : Dev :=
  let n := u8 b 1
  let d1 := setCal n { calOf d n with tempLast := s16 b 4, lastCause := 4, converged := true, initialDone := true, draw := none
                                      record := cellsFrom 0 b, lastDone := nowNs d, dacSkipped := flag b 3 1 } d
  (List.range 4).foldl (fun d i => setDac (4 * n + i) { dacOf d (4 * n + i) with skew := s16 b (36 + 2 * i) } d) d1
def calRestoreService : Service where
  opcode := 0x0B08
  targets _ b := engineBlock (u8 b 1)
  checks d b := [((calOf d (u8 b 1)).state != .idle, busy 0), (calMismatch b, badArg 56)]
  run _ b d := okay (calRestore b d)
def execCalRestore (mb : Mailbox) : State → Host.Outcome State Fault Refusal := lift (serve calRestoreService mb)

end Sys2Proof.Machine
end

