-- ==== Sys2Proof/Machine/Memory.lean ====
section
/-! DEFINITION. Memory integrity: device mode and checker tests, error logs, corrected counts, scrubbing, DMA
(chapter 14). -/

namespace Sys2Proof.Machine

/-! ## Error logs (R431) -/

def logGroup (d : Dev) (g : Nat) : LogGroup := if g = 0 then d.mem.group0 else d.mem.group1
def setLog (g : Nat) (x : LogGroup) (d : Dev) : Dev :=
  if g = 0 then { d with mem := { d.mem with group0 := x } } else { d with mem := { d.mem with group1 := x } }
/-- An uncorrectable event enters FIRST, SECOND or OVERFLOW. -/
def logError (g : Nat) (r : ErrorRecord) (d : Dev) : Dev :=
  let x := logGroup d g
  match x.first, x.second with
  | none, _ => raiseCause (.log g) 0 (setLog g { x with first := some r } d)
  | some _, none => raiseCause (.log g) 1 (setLog g { x with second := some r } d)
  | some _, some _ => raiseCauseMs (.log g) 2 (setLog g { x with overflow := sat 0xFFFF (x.overflow + 1), lastAddr := r.addr } d)
/-- Clearing FIRST.VALID empties FIRST and moves SECOND into it. -/
def clearFirst (g : Nat) (v : Word) (d : Dev) : Dev :=
  let x := logGroup d g
  if bit v 0 && x.first.isSome then setLog g { x with first := x.second, second := none } d else d
def execFirstInfo (g : Fin 2) (w : RegWrite) : State → Host.Outcome State Fault Refusal := lift (regWrite 1 w (clearFirst g))
/-- A read of OVERFLOW clears the count and LAST_ADDR. -/
def clearOverflow (g : Nat) (d : Dev) : Dev := setLog g { logGroup d g with overflow := 0, lastAddr := 0 } d
def execOverflowRead (r : RegRead) (g : Fin 2) : State → Host.Outcome State Fault Refusal :=
  lift (regRead 1 r (fun d => BitVec.ofNat 32 (logGroup d g).overflow) (clearOverflow g))
/-- MI_CE_SRAM and MI_CE_HBM: a read returns and clears the count (R432). -/
def clearCe (g : Nat) (d : Dev) : Dev := setLog g { logGroup d g with ce := 0 } d
def execMiCeSram (r : RegRead) : State → Host.Outcome State Fault Refusal :=
  lift (regRead 1 r (fun d => BitVec.ofNat 32 d.mem.group0.ce) (clearCe 0))
def execMiCeHbm (r : RegRead) : State → Host.Outcome State Fault Refusal :=
  lift (regRead 1 r (fun d => BitVec.ofNat 32 d.mem.group1.ce) (clearCe 1))
/-- A corrected read is counted (R430, R432). -/
def countCorrected (g : Nat) (d : Dev) : Dev :=
  let x := logGroup d g
  setLog g { x with ce := sat 0xFFFFFFFF (x.ce + 1), ceSecond := nowSec d, ceIn := if x.ceSecond = nowSec d then x.ceIn + 1 else 1 } d
def execCorrectedRead (hbm : Bool) : State → Host.Outcome State Fault Refusal := lift (countCorrected (b2n hbm))
/-- More than CE_THRESHOLD corrected reads in this second. DESIGN CHOICE: the seconds are those of DEVTIME. -/
def ceBeyond (d : Dev) (g : Nat) : Bool :=
  let x := logGroup d g
  x.ceSecond == nowSec d && decide (d.mem.ceThreshold < x.ceIn)
/-- CE_RATE, at most once per second (R432). -/
def ceRate (g : Nat) (d : Dev) : Dev :=
  if tabGet (fun _ => none) d.mem.ceRateAt g == some (nowSec d) then d
  else raiseCause .memory 0 { d with mem := { d.mem with ceRateAt := tabPut (fun _ => none) d.mem.ceRateAt g (some (nowSec d)) } }
def execCeRate (hbm : Bool) : State → Host.Outcome State Fault Refusal :=
  lift fun d => guard (ceBeyond d (b2n hbm)) (ceRate (b2n hbm)) d

/-! ## Device mode and the flip mask (R429, R430) -/

def devMode (d : Dev) : DevMode :=
  if d.pins.testmode then .test else if !d.mem.everRan then .startUp else if d.fw.state = .failed then .recovery else .service
def DevMode.code : DevMode → Nat
  | .startUp => 0 | .service => 1 | .test => 2 | .recovery => 3
/-- An arm was ignored, or a flip disarmed. -/
def flipIgnored (d : Dev) : Dev :=
  raiseCause .memory 7 { d with mem := { d.mem with flipArmed := false, flipIgnored := true } }
/-- After a change of DEV_MODE: a flip armed in SERVICE is disarmed. -/
def checkMode (d : Dev) : Dev := if devMode d = .service && d.mem.flipArmed then flipIgnored d else d
/-- MI_FLIP_CTRL: TARGET, and ARM outside SERVICE. -/
def writeFlipCtrl (v : Word) (d : Dev) : Dev :=
  let d1 := if fld v 0 3 < 7 then { d with mem := { d.mem with flipTarget := fld v 0 3 } } else d
  if bit v 31 then
    if devMode d = .service then raiseCause .memory 7 { d1 with mem := { d1.mem with flipIgnored := true } }
    else { d1 with mem := { d1.mem with flipArmed := true } }
  else d1
def execMiFlipCtrl (w : RegWrite) : State → Host.Outcome State Fault Refusal := lift (hostWrite 1 w writeFlipCtrl)
def execTestmode (high : Bool) : State → Host.Outcome State Fault Refusal :=
  lift fun d => checkMode { d with pins := { d.pins with testmode := high } }
/-- What a test word reads as that no command has written since its contents were last lost: region 4 is written by the device (DESIGN CHOICE: as
zero, IDLE) and region 3 by boot ROM, with a right check byte; any other is arbitrary (R421, R422). -/
def unwrittenWord (d : Dev) (target i : Nat) : BitVec 72 :=
  if target = 4 then encodeWord 0
  else if target = 3 then
    if 4 ≤ d.fw.stage then encodeWord (dataOf (Config.memoryWord 3 i)) else Config.memoryWord 3 i
  else Config.memoryWord (16 * (if target < 8 then d.mem.sramLosses else d.mem.hbmLosses) + target) i
/-- The test words: 64 in each of regions 0 to 5 and in each HBM stack (target 8 + stack). -/
def testWord (d : Dev) (target i : Nat) : BitVec 72 :=
  (tabGet (fun _ => none) d.mem.testWords (64 * target + i)).getD (unwrittenWord d target i)
def setTestWord (target i : Nat) (w : BitVec 72) (d : Dev) : Dev :=
  { d with mem := { d.mem with testWords := tabPut (fun _ => none) d.mem.testWords (64 * target + i) (some w) } }
/-- The REGION code and log group of a MEM_DIAG target. -/
def targetRegion (t : Nat) : Nat := if t < 8 then t else 6
def targetGroup (t : Nat) : Nat := if t < 8 then 0 else 1
/-- A write of a test word by whichever writer, under an armed flip mask (R430). -/
def writeTestWord (target i : Nat) (w : BitVec 72) (d : Dev) : Dev :=
  useFlip (targetRegion target) (setTestWord target i (w ^^^ flipMaskFor (targetRegion target) d) d)
/-- The test words of some targets lose their contents (R422, R510, R519). -/
def loseTestWords (p : Nat → Bool) (d : Dev) : Dev :=
  { d with mem := { d.mem with testWords := tabMap (fun _ => none) (fun k x => if p (k / 64) then none else x) d.mem.testWords } }
def diagBytes (w : BitVec 72) (cls : Nat) (data : BitVec 64) : List Byte :=
  zeros 4 ++ le 8 data.toNat ++ le 1 (w.toNat / 2 ^ 64) ++ le 1 (syndrome w) ++ le 1 cls ++ [0]
/-- A corrected word is written back, but in the line buffers (R420). -/
def writeBack (t i : Nat) (w : BitVec 72) (d : Dev) : Dev := if t = 1 || t = 2 then d else writeTestWord t i (correctWord w) d
/-- MEM_DIAG: a split write (whose response values are not stated: free values), a raw read, or a checked read, which is
corrected and written back, or logged with CONSUMER 6 (R420, R430). -/
def memDiag (b : List Byte) (d : Dev) : Dev × Option Reply :=
  let t := u8 b 1
  let i := u8 b 2
  if u8 b 0 = 0 then
    let (v, d1) := drawFree (writeTestWord t i (BitVec.ofNat 72 (u64 b 4 + 2 ^ 64 * u8 b 12)) d)
    let (u, d2) := drawFree d1
    done (zeros 4 ++ le 8 v.toNat ++ le 3 u.toNat ++ [0]) d2
  else
    let w := testWord d t i
    if u8 b 0 = 1 then done (diagBytes w (readClass w) (dataOf w)) d
    else match readClass w with
      | 0 => done (diagBytes w 0 (dataOf w)) d
      | 1 => done (diagBytes w 1 (dataOf (correctWord w))) (countCorrected (targetGroup t) (writeBack t i w d))
      | _ => done (diagBytes w 2 (dataOf w)) (logError (targetGroup t)
          { region := targetRegion t, consumer := 6, syndrome := syndrome w, source := 0, addr := i, time := nowNs d } d)
def memDiagService : Service where
  opcode := 0x0C04
  targets _ _ := [1, 5]
  freeze := .never
  checks _ b := [(!(within 0 2 (u8 b 0) && (within 0 5 (u8 b 1) || within 8 11 (u8 b 1)) && within 0 63 (u8 b 2)), outOfRange)]
  run _ b d := memDiag b d
def execMemDiag (mb : Mailbox) : State → Host.Outcome State Fault Refusal := lift (serve memDiagService mb)

/-! ## Scrubbing, fill completion and DMA (R423, R426, R428) -/

/-- The GiB of an HBM word address: 2²⁷ words of 8 data bytes each. -/
def gibOf (addr : Nat) : Nat := addr / 2 ^ 27
/-- A word that may never have been written: the scrubber counts it only. -/
def maybeUnwritten (d : Dev) (region addr : Nat) : Bool :=
  decide (region ≤ 2) || (region == 6 && !d.mem.fillMap.getLsbD (gibOf addr))
/-- The period of a pass in ns. A pass that pauses takes longer; none takes less (R428). -/
def passDue (d : Dev) (hbm : Bool) : Bool :=
  decide ((if hbm then d.mem.hbmAt + d.mem.hbmDays * 86400000000000 else d.mem.sramAt + d.mem.sramHours * 3600000000000) ≤ elapsedNs d)
/-- The scrubber reads a word: corrected it is counted and written back; an uncorrectable one is logged with CONSUMER 4, or counted only where it
may never have been written. -/
def scrubWord (t i : Nat) (d : Dev) : Dev :=
  let w := testWord d t i
  match readClass w with
  | 0 => d
  | 1 => countCorrected (targetGroup t) (writeBack t i w d)
  | _ =>
    if maybeUnwritten d (targetRegion t) i then { d with mem := { d.mem with quiet := (d.mem.quiet + 1) % 2 ^ 32 } }
    else logError (targetGroup t) { region := targetRegion t, consumer := 4, syndrome := syndrome w, source := 0, addr := i, time := nowNs d } d
/-- A pass ends. Of the words it has read, the test words that hold what a command wrote are the model's; any other word that it corrects or finds
uncorrectable comes as its own event. -/
def scrubPass (hbm : Bool) (d0 : Dev) : Dev :=
  let d := d0.mem.testWords.foldl (fun d e => if decide (8 ≤ e.1 / 64) == hbm then scrubWord (e.1 / 64) (e.1 % 64) d else d) d0
  raiseCause .memory 1
    (if hbm then { d with mem := { d.mem with hbmPasses := (d.mem.hbmPasses + 1) % 2 ^ 32, hbmAt := elapsedNs d } }
     else { d with mem := { d.mem with sramPasses := (d.mem.sramPasses + 1) % 2 ^ 32, sramAt := elapsedNs d } })
def execScrubPass (hbm : Bool) : State → Host.Outcome State Fault Refusal :=
  lift fun d => guard (!asleep d && passDue d hbm) (scrubPass hbm) d
def scrubConfigService : Service where
  opcode := 0x0C03
  targets _ _ := [1, 5]
  freeze := .never
  checks _ b := [(!(within 1 168 (u8 b 0) && within 1 30 (u8 b 1)), outOfRange)]
  run _ b d := okay { d with mem := { d.mem with sramHours := u8 b 0, hbmDays := u8 b 1 } }
def execScrubConfig (mb : Mailbox) : State → Host.Outcome State Fault Refusal := lift (serve scrubConfigService mb)

/-- The bits of a range of GiB. -/
def gibMask (first count : Nat) : BitVec 64 := BitVec.ofNat 64 ((2 ^ count - 1) * 2 ^ first)
/-- The HBM of the variant in GiB (R1). -/
def hbmGib : Nat := if Config.isA32 then 32 else 64
/-- The least time that the engine takes for one GiB at 2 TB/s, ns. -/
def gibTime : Nat := 536870
/-- A cycle of the fill engine: the next GiB may have been written by now, no sooner than 2 TB/s allows, and a block of it may have exhausted its
retries; both are free values. Its bit sets with its last word, or FILL_ERR is raised. -/
def fillCycle (d : Dev) : Dev :=
  match d.mem.fill with
  | some (f, n + 1) =>
    if asleep d || decide (elapsedNs d < d.mem.fillAt + gibTime) then d
    else
      let (v, d1) := drawFree d
      let d2 := { d1 with mem := { d1.mem with fill := some (f + 1, n), fillAt := elapsedNs d } }
      if !v.getLsbD 0 then d1
      else if v.getLsbD 1 then raiseCause .memory 4 d2
      else { d2 with mem := { d2.mem with fillMap := d2.mem.fillMap ||| gibMask f 1 } }
  | _ => d
/-- A fill ends: the bits of the GiB that remained and were written completely set; FILL_ERR for those with a block that exhausted its retries. -/
def fillDone (failed : BitVec 64) (d : Dev) : Dev :=
  match d.mem.fill with
  | some (f, n) =>
    let m := gibMask f n
    let d1 := { d with mem := { d.mem with fill := none, fillMap := d.mem.fillMap ||| (m &&& ~~~ failed) } }
    raiseCause .memory 2 (if m &&& failed = 0 then d1 else raiseCause .memory 4 d1)
  | none => d
/-- HBM contents are lost (R423, R510): the map is cleared and a running fill aborted. -/
def loseFill (d : Dev) : Dev :=
  let d1 := { d with mem := { d.mem with fill := none, fillMap := 0 } }
  if d.mem.fill.isSome then raiseCause .memory 3 d1 else d1
/-- Every GiB that a byte range touches is filled (R423). -/
def regionFilled (d : Dev) (firstGib count : Nat) : Bool := gibMask firstGib count &&& ~~~ d.mem.fillMap == 0

/-- A DMA channel halts on an uncorrectable word (R426). -/
def haltDma (ch : Nat) (at_ : Nat × Nat) (host : Bool) (d : Dev) : Dev :=
  raiseCause .memory 5 { d with mem := { d.mem with
    halted := d.mem.halted ||| BitVec.twoPow 16 ch, dmaAt := tabPut (fun _ => (0, 0)) d.mem.dmaAt ch at_
    hostDma := if host then d.mem.hostDma ||| BitVec.twoPow 16 ch else d.mem.hostDma &&& ~~~ BitVec.twoPow 16 ch } }
/-- A firmware restart abandons firmware's channels and leaves host channels halted. -/
def restartDma (d : Dev) : Dev := { d with mem := { d.mem with halted := d.mem.halted &&& d.mem.hostDma } }
/-- DMA_RESUME: the channel runs again, at the failing word or at the next descriptor. DESIGN CHOICE: NOT_HALTED (51) comes
with BAD_ARG. -/
def dmaResumeService : Service where
  opcode := 0x0C05
  targets _ _ := [1, 5]
  freeze := .never
  checks d b := [(!(within 0 15 (u8 b 0) && within 0 1 (u8 b 1)), outOfRange), (!d.mem.halted.getLsbD (u8 b 0), badArg 51)]
  run _ b d := okay { d with mem := { d.mem with
    halted := d.mem.halted &&& ~~~ BitVec.twoPow 16 (u8 b 0)
    dmaAt := if u8 b 1 = 1 then tabMod (fun _ => (0, 0)) d.mem.dmaAt (u8 b 0) (fun p => (p.1 + 1, 0)) else d.mem.dmaAt } }
def execDmaResume (mb : Mailbox) : State → Host.Outcome State Fault Refusal := lift (serve dmaResumeService mb)
def memStatusBody (d : Dev) : List Byte :=
  zeros 4 ++ le 1 (match d.mem.fill with | some (f, _) => f | none => 0xFF) ++ zeros 3 ++ le 8 d.mem.fillMap.toNat ++ le 4 d.mem.sramPasses
    ++ le 4 d.mem.hbmPasses ++ le 4 d.mem.quiet ++ le 2 d.mem.halted.toNat ++ zeros 2
def memStatusService : Service where
  opcode := 0x0C02
  targets _ _ := [1, 5]
  freeze := .never
  run _ _ d := done (memStatusBody d) d
def execMemStatus (mb : Mailbox) : State → Host.Outcome State Fault Refusal := lift (serve memStatusService mb)

end Sys2Proof.Machine
end

