-- ==== Sys2Proof/Machine/Links.lean ====
section
/-! DEFINITION. Die-to-die flits and memory-channel blocks: check, acknowledgement, go-back-N retry (R16 to R19, R433). -/

namespace Sys2Proof.Machine

def setLink (l : Nat) (x : LinkState) (d : Dev) : Dev := { d with links := tabPut (fun _ => {}) d.links l x }
/-- The link carries flits: neither retraining nor down. -/
def linkUp (x : LinkState) : Bool := !x.retraining && !x.down
def sideOf (x : LinkState) (toHub : Bool) : FlitSide := if toHub then x.toHub else x.fromHub
def withSide (x : LinkState) (toHub : Bool) (s : FlitSide) : LinkState := if toHub then { x with toHub := s } else { x with fromHub := s }

/-- Distance from `a` to `b` in the sequence numbers modulo 4,096. -/
def seqAhead (a b : Nat) : Nat := (b + 4096 - a % 4096) % 4096
/-- Acknowledge every flit of a replay buffer up to SEQ `ack`. -/
def acknowledge (ack : Nat) (r : List SentFlit) : List SentFlit := r.filter (fun e => !(seqAhead e.seq ack < 2048))
/-- The clocks and the power of both ends of a link or memory channel (R20, R22): the hub's, and its line tile's, client tile's or HBM
controller's. DESIGN CHOICE: a line link's end runs while any engine of its tile has power. -/
def linkClocked (d : Dev) (l : Nat) : Bool :=
  if l < 4 then [0, 1, 2, 3].any (fun i => !engineOff d (4 * l + i)) else if l < 6 then !tileOff d (l - 4) else !asleep d
/-- Flits or blocks pass. -/
def linkRuns (d : Dev) (l : Nat) : Bool := linkClocked d l && linkUp (linkOf d l)
/-- What a link holds while one of its ends has no clock or power: nothing. Its words are discarded, its replay buffers are empty and its
numbers start again (R22). -/
def stopLink (l : Nat) (d : Dev) : Dev := setLink l { linkOf d l with fromHub := {}, toHub := {}, retraining := false } d
/-- Some SEQ has been sent 8 times without being accepted. -/
def exhausted (s : FlitSide) : Bool := s.replay.any (fun e => decide (8 ≤ e.times))
/-- Flits are sent by the traffic itself, which has no command: one that arrives, or that a NAK or a timeout names, has been sent, and so have
those before it. New ones enter the replay buffer, which holds the 64 last that are not acknowledged (R17). -/
def sentUpTo (q : Nat) (s : FlitSide) : FlitSide :=
  let k := seqAhead s.next q
  if k < 64 then
    let r := s.replay ++ (List.range (k + 1)).map (fun i => { seq := (s.next + i) % 4096 })
    { s with next := (q + 1) % 4096, replay := r.drop (r.length - 64) }
  else s
/-- The flits from SEQ `seq` on, in order, are sent once more. -/
def resendFrom (seq : Nat) (r : List SentFlit) : List SentFlit :=
  r.map (fun e => if seqAhead seq e.seq < 2048 then { e with times := e.times + 1 } else e)
/-- How many flits `resendFrom` sends. -/
def resent (seq : Nat) (r : List SentFlit) : Nat := (r.filter (fun e => seqAhead seq e.seq < 2048)).length
/-- What of a flit is the same each time it is sent: TYPE, STREAM and WORDS. ACK_SEQ, and with it the CRC, is that of the moment (DEDUCED). -/
def flitContent (bs : List Byte) : List Byte := part bs 2 2 ++ part bs 8 244
/-- A good flit is the one that the replay buffer holds under its SEQ, if it holds one whose bytes are known: a resent flit is sent from there. -/
def fromReplay (s : FlitSide) (bs : List Byte) : Bool :=
  s.replay.all (fun e => e.seq != u16 bs 0 % 4096 || e.bytes.isEmpty || flitContent e.bytes == flitContent bs)
/-- The bytes of a flit are kept with its SEQ in the replay buffer. -/
def keepFlit (bs : List Byte) (s : FlitSide) : FlitSide :=
  { s with replay := s.replay.map (fun e => if e.seq = u16 bs 0 % 4096 then { e with bytes := bs } else e) }
/-- The window of one second in which flits or blocks that pass, and resends, are counted (R433). DESIGN CHOICE: the seconds of DEVTIME. -/
def inWindow (passed again : Nat) (d : Dev) (x : LinkState) : LinkState :=
  if x.second = nowSec d then { x with passed := x.passed + passed, resends := x.resends + again }
  else { x with second := nowSec d, passed := passed, resends := again }
/-- More than one retry per 10⁶ flits or blocks in the window. -/
def warnRetries (d : Dev) (x : LinkState) : Bool := x.second == nowSec d && decide (x.passed < 1000000 * x.resends)
/-- The sender of a direction resends from `seq` (R17, R433); a flit that has been sent 8 times is not sent again. -/
def resend (l : Nat) (toHub : Bool) (seq : Nat) (d : Dev) : Dev :=
  let x := linkOf d l
  let s := sentUpTo seq (sideOf x toHub)
  if exhausted s then setLink l (withSide x toHub s) d
  else setLink l (inWindow 0 (resent seq s.replay) d
    { withSide x toHub { s with replay := resendFrom seq s.replay } with retries := sat 0xFFFFFFFF (x.retries + resent seq s.replay) }) d

/-- The 27 words of a flit: 9 bytes each, data first, check byte last (R16). -/
def wordsAt (bs : List Byte) (i : Nat) : Nat → List (BitVec 72)
  | 0 => []
  | n + 1 => BitVec.ofNat 72 (un bs i 9) :: wordsAt bs (i + 9) n
/-- The CRC fits and SEQ is the expected number. -/
def flitGood (bs : List Byte) : Bool := u32 bs 252 == (crc32 (bs.take 252)).toNat
/-- A flit arrives: accepted in sequence, its words passed on and its acknowledgement applied to the reverse direction, or
discarded with a NAK (R17). DESIGN CHOICE: every flit takes a SEQ, idle and acknowledgement-only ones too, and a reserved TYPE is accepted as
any other; R16 and R17 do not say. -/
def receiveFlit (l : Nat) (toHub : Bool) (bs : List Byte) (d : Dev) : Dev :=
  let x := linkOf d l
  let q := u16 bs 0 % 4096
  let s := if flitGood bs then keepFlit bs (sentUpTo q (sideOf x toHub)) else sideOf x toHub
  if flitGood bs && q == s.expected then
    let s1 := { s with expected := (s.expected + 1) % 4096, nak := false, kind := u8 bs 2, stream := u8 bs 3, words := wordsAt bs 8 27 }
    let x1 := withSide x toHub s1
    let r := sideOf x1 (!toHub)
    let ack := u16 bs 4 % 4096
    let d1 := setLink l (inWindow 1 0 d (withSide x1 (!toHub) { r with replay := acknowledge ack r.replay })) d
    if flag bs 5 7 then resend l (!toHub) ((ack + 1) % 4096) d1 else d1
  else setLink l (withSide x toHub { s with nak := true }) d
def execFlitReceived (l : Fin 6) (toHub : Bool) (bytes : List Byte) : State → Host.Outcome State Fault Refusal :=
  liftIf (bytes.length == 256) fun d => guard (linkRuns d l && (!flitGood bytes || fromReplay (sideOf (linkOf d l) toHub) bytes)) (receiveFlit l toHub bytes) d
/-- No acknowledgement 2 µs after a flit was sent: resend from it. -/
def execFlitAckTimeout (l : Fin 6) (toHub : Bool) (seq : Fin 4096) : State → Host.Outcome State Fault Refusal :=
  lift fun d => guard (linkRuns d l) (resend l toHub seq) d

/-- The bytes of a memory-channel block that its CRC covers. -/
def blockBytes (ws : List (BitVec 72)) : List Byte := ws.flatMap (fun w => le 9 w.toNat)
/-- A block that was damaged is sent again, up to 8 times; `seq` numbers the blocks on their way. -/
def resendBlock (l : Nat) (toHub : Bool) (seq : Nat) (d : Dev) : Dev :=
  let x := linkOf d l
  let s := sideOf x toHub
  if exhausted s then d
  else
    let r := if s.replay.any (fun e => e.seq == seq) then s.replay else s.replay ++ [{ seq := seq }]
    setLink l (inWindow 0 1 d { withSide x toHub { s with replay := r.map (fun e => if e.seq == seq then { e with times := e.times + 1 } else e) } with
      retries := sat 0xFFFFFFFF (x.retries + 1) }) d
/-- A memory-channel block arrives: eight words and a CRC-32 (R18). -/
def receiveBlock (l : Nat) (toHub : Bool) (seq : Nat) (ws : List (BitVec 72)) (crc : Word) (d : Dev) : Dev :=
  let x := linkOf d l
  let s := sideOf x toHub
  if crc32 (blockBytes ws) = crc then
    setLink l (inWindow 1 0 d (withSide x toHub { s with words := ws, nak := false, replay := s.replay.filter (fun e => e.seq != seq) })) d
  else resendBlock l toHub seq (setLink l (withSide x toHub { s with nak := true }) d)
def execMemoryBlockReceived (hb : Fin 4) (toHub : Bool) (seq : Fin 4096) (words : List (BitVec 72)) (crc : Word) :
    State → Host.Outcome State Fault Refusal :=
  liftIf (words.length == 8) fun d => guard (linkRuns d (6 + hb.val)) (receiveBlock (6 + hb.val) toHub seq words crc) d

/-- Retry exhaustion: the replay buffer is dropped (on a die-to-die link one record with CONSUMER 7 tells of it), and the link retrains
(R17, R431, R433). DESIGN CHOICE: the receiver then expects the sender's next number, since the dropped flits never come; R17 does not say. The
other direction keeps its flits and its numbers. -/
def exhaustLink (l : Nat) (toHub : Bool) (d : Dev) : Dev :=
  let x := linkOf d l
  let s := sideOf x toHub
  let x1 := withSide x toHub { s with replay := [], dropped := s.dropped + s.replay.length, expected := s.next, nak := false }
  let d1 := setLink l { x1 with exhaust := sat 0xFFFF (x.exhaust + 1), retraining := true, retrains := sat 0xFF (x.retrains + 1) } d
  let d2 := raiseCause (.link l) 2 (raiseCause (.link l) 1 d1)
  if l < 6 then logError 0 { region := 0, consumer := 7, syndrome := 0, source := l, addr := l, time := nowNs d } d2 else d2
/-- More than one retry per 10⁶ flits or blocks in a window of 1 s (R433). -/
def execRetryWarn (l : LinkId) : State → Host.Outcome State Fault Refusal := 
  lift fun d => guard (linkClocked d l && warnRetries d (linkOf d l)) (raiseCause (.link l) 0) d

/-- LINK_RETRIES and LINK_EXHAUST: a read returns and clears the count (R434). -/
def execLinkRetries (r : RegRead) (l : LinkId) : State → Host.Outcome State Fault Refusal :=
  lift (regRead 1 r (fun d => BitVec.ofNat 32 (linkOf d l).retries) (fun d => setLink l { linkOf d l with retries := 0 } d))
def execLinkExhaust (r : RegRead) (l : LinkId) : State → Host.Outcome State Fault Refusal :=
  lift (regRead 1 r (fun d => BitVec.ofNat 32 (linkOf d l).exhaust) (fun d => setLink l { linkOf d l with exhaust := 0 } d))

end Sys2Proof.Machine
end

