-- ==== Sys2Proof/Machine/Timing.lean ====
section
/-! DEFINITION. The timing block: references, selection, states, holdover, steering and the advance of DEVTIME (chapter 13, R23 to R27). -/

namespace Sys2Proof.Machine

def refOf (d : Dev) (r : Nat) : RefState := tabGet (fun _ => {}) d.time.refs r
def setRef (r : Nat) (x : RefState) (d : Dev) : Dev :=
  { d with time := { d.time with refs := tabPut (fun _ => {}) d.time.refs r x } }
def qualified (d : Dev) (r : Nat) : Bool := (refOf d r).q == .qualified

/-! ## States (R405, R408) -/

/-- Seconds of DEVTIME with steps and slews left out. -/
def plainSec (d : Dev) : Nat := d.clock.plain / unitsPerNs / 1000000000
/-- The stored seconds from D − HO_GUARD − HO_WINDOW to D − HO_GUARD, D being now. -/
def holdoverSpan (d : Dev) : List (Nat × Int) :=
  let t := plainSec d
  d.time.ring.filter (fun e => decide (e.1 + d.timeCfg.guard ≤ t) && decide (t < e.1 + d.timeCfg.guard + d.timeCfg.window))
/-- History valid: at least 10 such seconds. -/
def historyValid (d : Dev) : Bool := decide (10 ≤ (holdoverSpan d).length)
/-- Their mean. -/
def holdoverMean (d : Dev) : Int :=
  let s := holdoverSpan d
  if s.isEmpty then d.time.holdoverFreq else rounded (s.map (·.2)).sum s.length
/-- Move to a timing state; every change raises STATE_CHANGE; leaving LOCKED or ACQUIRE sets HOLDOVER_FREQ (R405, R408). -/
def setTState (s : TState) (d : Dev) : Dev :=
  if d.time.state = s then d
  else
    let leaves := (d.time.state == .locked || d.time.state == .acquire) && s != .locked && s != .acquire
    raiseCause .timing 0 { d with time := { d.time with
      state := s, lastChange := nowNs d, lockSum := 0, lockCycles := 0
      holdoverFreq := if leaves then holdoverMean d else d.time.holdoverFreq
      targetAt := if s = .steered then elapsedNs d else d.time.targetAt
      steerStale := if s = .steered then false else d.time.steerStale } }
/-- The highest-ranked QUALIFIED reference other than those excluded, lowest index among equals (R402, R404). -/
def bestRef (d : Dev) (skip : Nat → Bool) : Nat → Option Nat
  | 0 => none
  | n + 1 =>
    let p := bestRef d skip n
    if qualified d n && !skip n then
      match p with
      | none => some n
      | some m => if (refOf d n).rank < (refOf d m).rank then some n else some m
    else p
/-- ACTIVE_REF has left QUALIFIED (R402, R405). -/
def fallBack (d : Dev) : Dev :=
  if d.time.state = .acquire || d.time.state = .locked || d.time.state = .steered then
    match bestRef d (fun _ => false) 28 with
    | some r =>
      let d1 := raiseCause .timing 1 { d with time := { d.time with activeRef := r } }
      if d.time.state = .steered then d1 else setTState .acquire d1
    | none =>
      if d.time.state = .steered then d
      else if historyValid d then setTState .holdover d else setTState .freerun d
  else d
/-- Drop the disagreements of a reference that leaves QUALIFIED (R404). -/
def dropPairs (r : Nat) (d : Dev) : Dev :=
  { d with timeCfg := { d.timeCfg with pairs := d.timeCfg.pairs.filter (fun p => p.1 != r && p.2.1 != r) }
           time := { d.time with differing := d.time.differing.filter (fun p => p.1 != r && p.2.1 != r) } }
/-- A QUALIFIED reference leaves QUALIFIED for `q` with DQ_CAUSE `cause` (R399). -/
def unqualify (r : Nat) (q : QState) (cause : Nat) (d : Dev) : Dev :=
  let d1 := dropPairs r (setRef r { refOf d r with q := q, dqCause := cause, okSince := none } d)
  let d2 := raiseCause .timing 2 d1
  if d.time.activeRef = r then fallBack d2 else d2
/-- The validity condition of R395: a recovered line clock needs RECCLK_ACTIVE; a recovered client clock its lane UP. -/
def refValid (d : Dev) (r : Nat) : Bool :=
  if 4 ≤ r && r < 20 then (tabGet (fun _ => ({} : EngineRx)) d.rx.engines (r - 4)).recclkActive != 0xFF
  else if 20 ≤ r then (tabGet (fun _ => ({} : LaneSt)) d.clients.lanes (nth d.clients.recclk (r - 20) 0xFFFF)).state == .up
  else true
/-- A reference becomes LOST (R397 to R399). DEDUCED: a DISQUALIFIED one too, as R398 says of each enabled reference; its DQ_CAUSE stays. -/
def loseRef (r : Nat) (d : Dev) : Dev :=
  match (refOf d r).q with
  | .qualified => unqualify r .lost 1 d
  | .wait | .disqualified => setRef r { refOf d r with q := .lost, okSince := none } d
  | .disabled | .lost => d
/-- A reference becomes QUALIFIED; in HOLDOVER or FREERUN the loop closes on it if it is ACTIVE_REF (R402, R405). DESIGN CHOICE: DQ_CAUSE
keeps the last cause. -/
def qualify (r : Nat) (d : Dev) : Dev :=
  let d1 := raiseCause .timing 2 (setRef r { refOf d r with q := .qualified, driftOver := 0, okSince := none } d)
  if d.time.activeRef = r && (d.time.state = .freerun || d.time.state = .holdover) then setTState .acquire d1 else d1
/-- History restarts (R397, R399). -/
def restartHistory (r : Nat) (d : Dev) : Dev :=
  setRef r { refOf d r with history := [], drift := none, driftOver := 0 } d
/-- The source of a recovered clock changed: invalid is LOST at once; another source discards the history (R397). -/
def sourceChanged (r : Nat) (valid : Bool) (d : Dev) : Dev :=
  if valid then restartHistory r d else loseRef r d
/-- The timing block runs. -/
def timeRuns (d : Dev) : Bool := !asleep d

/-! ## Selection (R401, R403) -/

/-- A selection that commits (R401, R405). DEDUCED: in LOCKED, another reference takes the loop to ACQUIRE. -/
def selectRef (r : Nat) (d : Dev) : Dev :=
  let d1 := { d with time := { d.time with activeRef := r } }
  if d.time.state = .holdover || d.time.state = .freerun || (d.time.state = .locked && d.time.activeRef ≠ r) then setTState .acquire d1 else d1
def timeSelectService : Service where
  opcode := 0x0903
  targets _ _ := [4]
  freeze := .never
  checks d b := [(!within 0 27 (u8 b 0), outOfRange), (!qualified d (u8 b 0), badArg 48)]
  run _ b d := okay (selectRef (u8 b 0) d)
/-- A TIME_SELECT that commits on the CK_TIME cycle of a disqualification is evaluated before it, but a reference that it disqualifies
counts as no longer QUALIFIED (R403). -/
def besideSelect (sel : Option Mailbox) (f : Dev → Dev) (d : Dev) : Dev :=
  match sel with
  | none => f d
  | some mb =>
    let after := f d
    f (serve { timeSelectService with checks := fun d b => timeSelectService.checks d b ++ [(!qualified after (u8 b 0), badArg 48)] } mb d)

/-! ## Reference events (R398 to R404) -/

def execRefLost (r : Ref) (sel : Option Mailbox) : State → Host.Outcome State Fault Refusal :=
  lift fun d => guard (timeRuns d) (besideSelect sel (loseRef r)) d
def execRefActivityBack (r : Ref) : State → Host.Outcome State Fault Refusal :=
  lift fun d => guard (timeRuns d && (refOf d r).q == .lost && refValid d r)
    (fun d => setRef r { refOf d r with q := .wait, history := [], drift := none, driftOver := 0, okSince := none } d) d
/-- The soft limit with its hysteresis (R398). -/
def softWarnNext (x : RefState) (offset : Int) : Bool :=
  if x.soft < mag offset then true else if mag offset + x.hyst < x.soft then false else x.softWarn
/-- Difference of the means of the newest 16 and the 16 before them, times 16. -/
def driftSum (h : List Int) : Int := (h.take 16).sum - ((h.drop 16).take 16).sum
/-- The drift estimate in ppb per minute, 60 · (mean − mean) / 16 (R400). -/
def driftOf (h : List Int) : Option Int := if h.length < 32 then none else some (rounded (60 * driftSum h) 256)
def driftBeyond (x : RefState) (h : List Int) : Bool := decide (32 ≤ h.length) && decide (x.driftLimit * 256 < mag (60 * driftSum h))
/-- The conditions of R399 for QUALIFIED, as they stand. -/
def meetsTerms (d : Dev) (r : Nat) : Bool :=
  let x := refOf d r
  (x.q == .wait || x.q == .disqualified) && refValid d r && decide (mag x.offset + x.hyst < x.hard) && !driftBeyond x x.history
    && (x.q != .disqualified || x.dqCause != 4 ||
        (match x.arbiter with | none => true | some a => decide (mag (x.offset - (refOf d a).offset) + x.hyst < d.timeCfg.disagree)))
/-- Offsets of two references differ by more than a limit. -/
def differ (d : Dev) (a b lim : Nat) : Bool := decide (lim < mag ((refOf d a).offset - (refOf d b).offset))
/-- Two QUALIFIED references of equal rank differ by more than DISAGREE_LIMIT. -/
def atOdds (d : Dev) (a b : Nat) : Bool :=
  a != b && qualified d a && qualified d b && (refOf d a).rank == (refOf d b).rank && differ d a b d.timeCfg.disagree
def enabledRefs (d : Dev) : List Nat := d.time.refs.map (·.1)
/-- A measurement of `r` has changed what is known: since when it, and those it is the arbiter of, have met the conditions, and since when it
has differed from its equals. DEDUCED: REQUAL_TIME starts at the first measurement that meets the conditions. -/
def noteTerms (s : Nat) (d : Dev) : Dev :=
  setRef s { refOf d s with okSince := if meetsTerms d s then some ((refOf d s).okSince.getD (elapsedNs d)) else none } d
/-- The offsets of a pair differ by less than DISAGREE_LIMIT − HYST, with the larger HYST of the two. -/
def pairAgrees (d : Dev) (a b : Nat) : Bool :=
  decide (mag ((refOf d a).offset - (refOf d b).offset) + max (refOf d a).hyst (refOf d b).hyst < d.timeCfg.disagree)
/-- Since when the disagreeing pairs of `r` agree; one that has agreed for 10 s is resolved (R404). -/
def notePairs (r : Nat) (d : Dev) : Dev :=
  let step (p : Nat × Nat × Option Nat) : Option (Nat × Nat × Option Nat) :=
    if p.1 != r && p.2.1 != r then some p
    else if !pairAgrees d p.1 p.2.1 then some (p.1, p.2.1, none)
    else
      let t := p.2.2.getD (elapsedNs d)
      if t + 10000000000 ≤ elapsedNs d then none else some (p.1, p.2.1, some t)
  { d with timeCfg := { d.timeCfg with pairs := d.timeCfg.pairs.filterMap step } }
def noteMeasured (r : Nat) (d : Dev) : Dev :=
  let d1 := ((enabledRefs d).filter (fun s => s == r || (refOf d s).arbiter == some r)).foldl (fun d s => noteTerms s d) d
  let others := (enabledRefs d1).filter (atOdds d1 r)
  let since (s : Nat) : Nat × Nat × Nat :=
    (d1.time.differing.find? (fun p => p.1 == min r s && p.2.1 == max r s)).getD (min r s, max r s, elapsedNs d1)
  notePairs r { d1 with time := { d1.time with differing := d1.time.differing.filter (fun p => p.1 != r && p.2.1 != r) ++ others.map since } }
def measureOffset (r : Nat) (offset : Int) (d : Dev) : Dev :=
  let x := refOf d r
  let w := softWarnNext x offset
  let d1 := setRef r { x with offset := offset, softWarn := w } d
  let d2 := if w && !x.softWarn then raiseCause .timing 3 d1 else d1
  noteMeasured r (if x.q = .qualified && x.hard < mag offset then unqualify r .disqualified 2 d2 else d2)
def measurable (d : Dev) (r : Nat) : Bool := timeRuns d && (refOf d r).q != .disabled && (refOf d r).q != .lost && refValid d r
def execRefOffsetMeasure (r : Ref) (offset : Int) (sel : Option Mailbox) : State → Host.Outcome State Fault Refusal :=
  lift fun d => guard (measurable d r) (besideSelect sel (measureOffset r offset)) d

/-- In an unresolved disagreement. -/
def inPair (d : Dev) (r : Nat) : Bool := d.timeCfg.pairs.any (fun p => p.1 == r || p.2.1 == r)
/-- Seek an arbiter for a disagreeing pair and act on it (R404). -/
def arbitrate (a b : Nat) (d : Dev) : Dev :=
  match bestRef d (fun r => r == a || r == b || inPair d r) 28 with
  | none => d
  | some r =>
    let lim := d.timeCfg.disagree
    let oa := differ d a r lim
    let ob := differ d b r lim
    if oa = ob then d
    else
      let o := if oa then a else b
      raiseCause .timing 5 (unqualify o .disqualified 4 (setRef o { refOf d o with arbiter := some r } d))
/-- One second of the disagreements whose higher reference is `r`: an arbiter is sought for each that lasts. -/
def tickPairs (r : Nat) (d : Dev) : Dev :=
  d.timeCfg.pairs.foldl (fun d p => if p.2.1 = r && d.timeCfg.pairs.contains p then arbitrate p.1 p.2.1 d else d) d
def estimateDrift (r : Nat) (offset : Int) (d : Dev) : Dev :=
  let x := refOf d r
  let h := (offset :: x.history).take 32
  let beyond := if driftBeyond x h then x.driftOver + 1 else 0
  let d1 := setRef r { x with history := h, drift := driftOf h, driftOver := beyond } d
  let d2 := if x.q = .qualified && x.driftCount ≤ beyond then unqualify r .disqualified 3 d1 else d1
  tickPairs r (noteMeasured r d2)
def execDriftEstimate (r : Ref) (offset : Int) (sel : Option Mailbox) : State → Host.Outcome State Fault Refusal :=
  lift fun d => guard (measurable d r) (besideSelect sel (estimateDrift r offset)) d
/-- The conditions of R399 hold and have held for REQUAL_TIME. -/
def mayQualify (d : Dev) (r : Nat) : Bool :=
  meetsTerms d r && (match (refOf d r).okSince with
    | some t => decide (t + (refOf d r).requal * 1000000000 ≤ elapsedNs d)
    | none => false)
def execRefQualified (r : Ref) : State → Host.Outcome State Fault Refusal :=
  lift fun d => guard (timeRuns d && mayQualify d r) (qualify r) d
/-- Two QUALIFIED references of equal rank have differed by more than DISAGREE_LIMIT for 10 s (R404). -/
def disagree (a b : Nat) (d : Dev) : Dev :=
  let p := (min a b, max a b)
  if d.timeCfg.pairs.any (fun e => e.1 == p.1 && e.2.1 == p.2) then d
  else arbitrate p.1 p.2 (raiseCause .timing 4 { d with timeCfg := { d.timeCfg with pairs := d.timeCfg.pairs ++ [(p.1, p.2, none)] } })
def execRefDisagree (a b : Ref) (sel : Option Mailbox) : State → Host.Outcome State Fault Refusal :=
  lift fun d => guard (timeRuns d && atOdds d a b && d.time.differing.any (fun p =>
    p.1 == min a.val b.val && p.2.1 == max a.val b.val && decide (p.2.2 + 10000000000 ≤ elapsedNs d))) (besideSelect sel (disagree a b)) d

/-! ## Loop events (R405, R408, R409) -/

/-- ACQUIRE reaches LOCKED; DEVTIME_COARSE clears (R26). -/
def execTimingLocked : State → Host.Outcome State Fault Refusal :=
  lift fun d => guard (timeRuns d && d.time.state == .acquire)
    (fun d => let d1 := setTState .locked d; { d1 with clock := { d1.clock with coarse := false } }) d
/-- The mean applied frequency over the cycles of the second. -/
def lockMean (x : Timing) : Int := if x.lockCycles = 0 then x.applied else rounded x.lockSum x.lockCycles
/-- A second spent in LOCKED has ended: its mean enters the ring. -/
def holdoverSample (d : Dev) : Dev :=
  { d with time := { d.time with ring := ((plainSec d, lockMean d.time) :: d.time.ring).take 1024, lockSum := 0, lockCycles := 0 } }
def execHoldoverSample : State → Host.Outcome State Fault Refusal :=
  lift fun d => guard (timeRuns d && d.time.state == .locked) holdoverSample d
def execSteerStale : State → Host.Outcome State Fault Refusal :=
  lift fun d => guard (timeRuns d && d.time.state == .steered && d.timeCfg.steerTimeout != 0 && !d.time.steerStale
      && decide (d.time.targetAt + d.timeCfg.steerTimeout * 1000000000 ≤ elapsedNs d))
    (fun d => raiseCause .timing 7 { d with time := { d.time with steerStale := true } }) d

/-- LOOP_OPEN is written (R405, R409). -/
def setLoop (v : Bool) (d : Dev) : Dev :=
  let d1 := { d with time := { d.time with loopOpen := v } }
  if v then setTState .steered d1
  else if d.time.state = .steered then
    (if qualified d d.time.activeRef then setTState .acquire d1
     else if historyValid d then setTState .holdover d1 else setTState .freerun d1)
  else d1
def execTimeCtrl (w : RegWrite) : State → Host.Outcome State Fault Refusal := lift (regWrite 4 w fun v => setLoop (bit v 0))
/-- A steering value was clamped: STEER_ERR and STEER_CLAMP. -/
def steerClamped (c : Bool) (d : Dev) : Dev :=
  if c then raiseCause .timing 8 { d with time := { d.time with steerErr := true } } else d
/-- A steering target is written (R409). -/
def setTarget (t : Int) (d : Dev) : Dev :=
  { d with time := { d.time with target := t, targetAt := elapsedNs d, steerStale := false } }
def writeSteerFreq (v : Word) (d : Dev) : Dev :=
  let t := clampI 50000000 v.toInt
  steerClamped (decide (t ≠ v.toInt)) (setTarget t d)
def execSteerFreq (w : RegWrite) : State → Host.Outcome State Fault Refusal := lift (hostWrite 4 w writeSteerFreq)
/-- STEER_SLEW: written only by the host; the SLEW value is stored before the lock takes effect (R410). DEDUCED: a SLEW of 0 is
set to 1, the nearer limit, as R333 clamps. -/
def writeSteerSlew (v : Word) (d : Dev) : Dev :=
  let s := fld v 0 14
  let d1 := if d.time.steerLock then d
    else steerClamped (!within 1 10000 s) { d with time := { d.time with steerSlew := clamp 1 10000 s } }
  if bit v 31 then { d1 with time := { d1.time with steerLock := true } } else d1
def execSteerSlew (w : RegWrite) : State → Host.Outcome State Fault Refusal := lift (hostWrite 4 w writeSteerSlew)

/-! ## DEVTIME (R25, R27, R411 to R413) -/

/-- A read of DEVTIME_LO latches DEVTIME_HI and DEVTIME_FRAC from the same tick (R27). DEDUCED: the register DEVTIME_FRAC is latched whole, so
DEVTIME_VALID and DEVTIME_COARSE show as they stood at that read. -/
def latchDevtime (d : Dev) : Dev :=
  { d with clock := { d.clock with
      latchHi := BitVec.ofNat 32 (nowNs d / 2 ^ 32)
      latchFrac := BitVec.ofNat 18 (d.clock.frac / 2 ^ 32 % 65536 + 65536 * b2n d.clock.valid + 131072 * b2n d.clock.coarse) } }
def execDevtimeLoRead (r : RegRead) : State → Host.Outcome State Fault Refusal :=
  lift (regRead 4 r (fun d => BitVec.ofNat 32 (nowNs d)) latchDevtime)

/-- The applied frequency the state asks for (0.001 ppb): the target, where it stands once STEER_STALE is raised, HOLDOVER_FREQ, the XO, or the reference in use (R405,
R409). DEDUCED: the loop of R407 carries the applied frequency to the offset last measured of ACTIVE_REF. -/
def wantedFreq (d : Dev) : Int :=
  match d.time.state with
  | .steered => if d.time.steerStale then d.time.applied else d.time.target
  | .holdover => d.time.holdoverFreq
  | .freerun => 0
  | .acquire | .locked => (refOf d d.time.activeRef).offset * 1000
/-- The largest change per second in ppb: 2 ppm, and STEER_SLEW while steered (R407, R410). -/
def slewLimit (d : Dev) : Nat := if d.time.state = .steered then min d.time.steerSlew 2000 else 2000
/-- One nanosecond of frequency change: `slewPart` gathers 10⁻⁹ of 0.001 ppb. -/
def moveFreq (d : Dev) : Dev :=
  let w := wantedFreq d
  if d.time.applied = w then { d with time := { d.time with slewPart := 0 } }
  else
    let p := d.time.slewPart + slewLimit d * 1000
    if p < 1000000000 then { d with time := { d.time with slewPart := p } }
    else { d with time := { d.time with slewPart := p - 1000000000, applied := d.time.applied + (if d.time.applied < w then 1 else -1) } }
/-- The increment of DEVTIME at the applied frequency, in 2⁻⁴⁸ ns (R411). -/
def increment (d : Dev) : Nat := ((unitsPerNs : Int) + unitsPerNs * d.time.applied / 1000000000000).toNat
/-- What a phase slew adds in one tick, no more than remains (R412). -/
def slewStep (c : Clock) : Int := clampI (c.slewRate * unitsPerNs / 1000000000 : Nat) c.slew
/-- A cycle in LOCKED counts toward the mean of its second. -/
def gatherLock (x : Timing) : Timing :=
  if x.state = .locked then { x with lockSum := x.lockSum + x.applied, lockCycles := x.lockCycles + 1 } else x
/-- One CK_TIME cycle: DEVTIME advances (R23, R411). -/
def tickClock (d : Dev) : Dev :=
  if timeRuns d then
    let s := slewStep d.clock
    let i := increment d
    moveFreq { d with time := gatherLock d.time, clock := { d.clock with frac := ((d.clock.frac + i : Int) + s).toNat, slew := d.clock.slew - s, plain := d.clock.plain + i } }
  else d

/-- The frequencies of REFOUT0 and REFOUT1 by code, in Hz (R414). -/
def refoutRates : List Nat := [10000000, 25000000, 100000000, 125000000, 156250000, 312500000]
/-- The frequency that an output with this selection and code carries; 0 while it is held low: before boot ROM starts (R532), off, or squelched in FREERUN or, with
SQUELCH_HOLDOVER, in HOLDOVER (R414). -/
def refoutHz (d : Dev) (out : Nat × Nat) : Nat :=
  if out.1 == 1 && timeRuns d && d.fw.stage != 0 && d.time.state != .freerun && !(d.time.state == .holdover && d.timeCfg.squelch) then nth refoutRates out.2 0 else 0
/-- TSTATE[2:0] (R406). -/
def TState.code : TState → Nat
  | .freerun => 0 | .acquire => 1 | .locked => 2 | .holdover => 3 | .steered => 4
def tstatePins (d : Dev) : Nat := if timeRuns d && d.fw.stage != 0 then d.time.state.code else 7

/-! ## Commands (R416) -/

def refConfigOk (b : List Byte) : Bool :=
  within 0 27 (u8 b 0) && within 0 7 (u8 b 2) && (3 < u8 b 0 || within 10000000 312500000 (u32 b 4)) && within 100 20000 (u16 b 8)
    && within (u16 b 8) 20000 (u16 b 10) && within 10 5000 (u16 b 12) && within 1 10000 (u16 b 14) && within 1 60 (u8 b 16)
    && within 1 600 (u16 b 18)
/-- TIME_REF_CONFIG: ENABLE takes a DISABLED reference to WAIT, and on to LOST at once where its validity condition fails (R397, R398); clearing it takes any to DISABLED (R399). -/
def refConfigRun (b : List Byte) (d : Dev) : Dev :=
  let r := u8 b 0
  let x := refOf d r
  let y := { x with rank := u8 b 2, nominal := if r ≤ 3 then u32 b 4 else x.nominal, soft := u16 b 8, hard := u16 b 10
                    hyst := u16 b 12, driftLimit := u16 b 14, driftCount := u8 b 16, requal := u16 b 18 }
  if flag b 1 0 then
    (if x.q = .disabled then setRef r { y with q := if refValid d r then .wait else .lost, history := [], drift := none, driftOver := 0, softWarn := false, okSince := none } d else setRef r y d)
  else
    let d1 := dropPairs r (setRef r { y with q := .disabled } d)
    if x.q = .qualified && d.time.activeRef = r then fallBack d1 else d1
def timeRefConfigService : Service where
  opcode := 0x0901
  targets _ _ := [4]
  freeze := .never
  checks _ b := [(!refConfigOk b, outOfRange)]
  run _ b d := okay (refConfigRun b d)
def execTimeRefConfig (mb : Mailbox) : State → Host.Outcome State Fault Refusal := lift (serve timeRefConfigService mb)

/-- PPS_ENABLE set anew. DEDUCED: edges that were not timestamped count for nothing, and the 2.5 s of R413 run from here. -/
def restartPps (on : Bool) (d : Dev) : Dev :=
  if on then { d with time := { d.time with lastEdge := none, ppsFrom := d.clock.plain } } else d
def timeConfigService : Service where
  opcode := 0x0902
  targets _ _ := [4]
  freeze := .never
  checks _ b := [(!(within 0 2 (u8 b 0) && within 0 600 (u16 b 2) && within 10 900 (u16 b 4) && within 0 1000 (u16 b 2 + u16 b 4)
    && within 10 20000 (u16 b 6) && within 0 1 (u8 b 8) && within 0 5 (u8 b 9) && within 0 1 (u8 b 10) && within 0 5 (u8 b 11)
    && within 0 3600 (u16 b 12)), outOfRange)]
  run _ b d := okay (restartPps (flag b 1 0 && !d.timeCfg.ppsEnable) { d with timeCfg := { d.timeCfg with
    bandwidth := u8 b 0, ppsEnable := flag b 1 0, squelch := flag b 1 1, guard := u16 b 2, window := u16 b 4, disagree := u16 b 6
    out0 := (u8 b 8, u8 b 9), out1 := (u8 b 10, u8 b 11), steerTimeout := u16 b 12 } })
def execTimeConfig (mb : Mailbox) : State → Host.Outcome State Fault Refusal := lift (serve timeConfigService mb)

def execTimeSelect (mb : Mailbox) : State → Host.Outcome State Fault Refusal := lift (serve timeSelectService mb)

def QState.code : QState → Nat
  | .disabled => 0 | .lost => 1 | .disqualified => 2 | .wait => 3 | .qualified => 4
/-- A signed value held to 16 bits. -/
def sat16 (v : Int) : Int := if v < -32768 then -32768 else if 32767 < v then 32767 else v
def refEntry (d : Dev) (r : Nat) : List Byte :=
  let x := refOf d r
  le 1 x.q.code ++ le 1 x.rank ++ le 1 x.dqCause ++ le 1 (b2n x.softWarn + 2 * b2n (inPair d r)) ++ leI 2 (sat16 x.offset)
    ++ leI 2 (sat16 (x.drift.getD 0))
def timeStatusBody (d : Dev) : List Byte :=
  [0] ++ le 1 d.time.state.code ++ le 1 d.time.activeRef
    ++ le 1 (b2n (historyValid d) + 2 * b2n d.time.ppsValid + 4 * b2n (!d.timeCfg.pairs.isEmpty) + 8 * b2n d.time.loopOpen + 16 * b2n d.time.steerStale)
    ++ leI 4 d.time.applied ++ leI 4 d.time.holdoverFreq ++ leI 4 d.time.ppsOffset ++ le 8 d.time.lastChange
    ++ le 4 (causeOf d .timing).toNat ++ zeros 4 ++ (List.range 28).flatMap (refEntry d)
def timeStatusService : Service where
  opcode := 0x0904
  targets _ _ := [4]
  freeze := .never
  run _ b d := done (timeStatusBody d) (clearCause .timing (flag b 0 0) d)
def execTimeStatus (mb : Mailbox) : State → Host.Outcome State Fault Refusal := lift (serve timeStatusService mb)

def timeSteerService : Service where
  opcode := 0x0906
  targets _ _ := [4]
  freeze := .never
  checks _ b := [(!withinI (-50000000) 50000000 (s32 b 4), outOfRange)]
  run _ b d := okay (setLoop (flag b 0 0) (setTarget (s32 b 4) d))
def execTimeSteer (mb : Mailbox) : State → Host.Outcome State Fault Refusal := lift (serve timeSteerService mb)

end Sys2Proof.Machine
end

