-- ==== Sys2Proof/Machine/Receive.lean ====
section
/-! DEFINITION. The receive side: acquisition, loss and re-acquisition, recovered clocks, hitch receive (chapter 3). -/

namespace Sys2Proof.Machine

def coachRx (d : Dev) (c : Nat) : CoachRx := tabGet coachRxReset d.rx.coaches c
def setCoachRx (c : Nat) (x : CoachRx) (d : Dev) : Dev :=
  { d with rx := { d.rx with coaches := tabPut coachRxReset d.rx.coaches c x } }
def rxEq (d : Dev) (c : Nat) : RxEq := tabGet (fun _ => {}) d.rx.eq c
def rxState (d : Dev) (c : Nat) : RxState := (coachRx d c).state
def isLocked (d : Dev) (c : Nat) : Bool := rxState d c == .locked
/-- LO_LOW follows the laser-low condition (R83, R553). -/
def loLow (d : Dev) (n : Nat) : Bool := (engTx d n).laserLow
/-- The engine's line link is down (R17). -/
def lineDown (d : Dev) (n : Nat) : Bool := (linkOf d (n / 4)).down

/-! ## Hitch receive (R95) -/

/-- The LOCKED coaches of an engine. -/
def lockedOf (d : Dev) (n : Nat) : List Nat := (coachesOf n).filter (isLocked d)
/-- HITCH_RX_STATE of a hitch. DEDUCED: where several conditions fail, loss of light or lock is reported first, then a missing
identity, then a differing one, then the walk-off. -/
def hitchRxNow (d : Dev) (h : Nat) : Nat :=
  let x := hitchOf d h
  let a := lockedOf d (2 * h)
  let b := lockedOf d (2 * h + 1)
  let ids := (a ++ b).map (fun c => (coachRx d c).far)
  if !x.rxEnable then 0
  else if (engRx d (2 * h)).los || (engRx d (2 * h + 1)).los || a.isEmpty || b.isEmpty then 4
  else if ids.any Option.isNone then 2
  else if !(ids.all (· == ids.headD none)) then 3
  else if 1024 < mag x.walkoff then 5
  else 1
/-- Bring HITCH_RX_STATE up to date; each change raises HITCH_RX_CHANGE on both engines. -/
def noteHitchRx (h : Nat) (d : Dev) : Dev :=
  let s := hitchRxNow d h
  let x := hitchOf d h
  if s = x.rxState then d
  else raiseCause (.engRx (2 * h + 1)) 4 (raiseCause (.engRx (2 * h)) 4 (setHitch h { x with rxState := s } d))
def execHitchWalkoff (h : Hitch) (ns : Int) : State → Host.Outcome State Fault Refusal :=
  lift fun d => noteHitchRx h (setHitch h { hitchOf d h with walkoff := ns } d)
/-- HITCH_CONFIG (R64, R79, R94). -/
def hitchConfigService : Service where
  opcode := 0x0204
  targets _ b := hitchBlocks (u8 b 0)
  checks := hitchChecks
  run _ b d := okay (noteHitchRx (u8 b 0) (hitchRun b d))
def execHitchConfig (mb : Mailbox) : State → Host.Outcome State Fault Refusal := lift (serve hitchConfigService mb)

/-! ## Recovered line clock (R99) -/

/-- The lowest-numbered LOCKED coach position of an engine; 0xFF if none. -/
def lowestLocked (d : Dev) (n : Nat) : Nat := ((List.range 16).find? (fun k => isLocked d (16 * n + k))).getD 0xFF
/-- The coach position in use for the recovered clock. -/
def recclkNow (d : Dev) (n : Nat) : Nat :=
  let e := engRx d n
  if e.recclk ≤ 15 then (if isLocked d (16 * n + e.recclk) then e.recclk else 0xFF)
  else if e.recclkActive ≤ 15 && isLocked d (16 * n + e.recclkActive) then e.recclkActive
  else lowestLocked d n
/-- Bring RECCLK_ACTIVE up to date; a change raises RECCLK_CHANGE and reaches the timing block (R99, R397). -/
def noteRecclk (n : Nat) (d : Dev) : Dev :=
  let k := recclkNow d n
  let e := engRx d n
  if k = e.recclkActive then d
  else sourceChanged (4 + n) (k != 0xFF) (raiseCause (.engRx n) 5 (setEngRx n { e with recclkActive := k } d))
/-- After any change of a coach's receive state: hitch, recovered clock, masks of alarms, twin paths. -/
def settleRx (n : Nat) (d : Dev) : Dev :=
  settleTwinsOn n ((coachesOf n).foldl (fun d c => settleCoach c d) (noteHitchRx (n / 2) (noteRecclk n d)))

/-! ## Losing and acquiring (R100, R101, R105) -/

/-- ps/nm within which dispersion is tracked about the acquired value (R91). -/
def cdTrack (cls : Nat) : Nat := if cls = 0 then 1000 else if cls = 1 then 4000 else 16000
/-- The dispersion of a LOCKED coach, tracked about the acquired value: a free value of draw `k`. -/
def trackedCd (d : Dev) (c k : Nat) : Int :=
  let r := cdTrack (engTx d (engineOf c)).rate
  (coachRx d c).cd + ((Config.free64 (k + 9)).toNat % (2 * r + 1) : Nat) - (r : Int)
/-- Mean and lowest SIQ of the last 1 ms (R116); those last held where it brought no codeword. -/
def recentSiqs (d : Dev) (c : Nat) : List Nat :=
  ((coachRx d c).siqs.takeWhile (fun e => decide (nowNs d ≤ e.1 + 1000000))).map (·.2)
def siqFigures (d : Dev) (c : Nat) : Nat × Nat :=
  match recentSiqs d c with
  | [] => (coachRx d c).heldSiq
  | s :: t => ((rounded (((s :: t).sum : Nat) : Int) (t.length + 1)).toNat, t.foldl min s)
/-- Leave the present state for another, keeping the last measurements of a coach that was LOCKED (R116). -/
def leaveState (c : Nat) (s : RxState) (d : Dev) : Dev :=
  let x := coachRx d c
  if x.state = .locked && s ≠ .locked then
    let d1 := setCoachRx c { x with state := s, held := some d.free, heldCd := trackedCd d c d.free, heldSiq := siqFigures d c, siqs := [], cut := true } d
    frameStops c { d1 with free := d1.free + 16 }
  else setCoachRx c { x with state := s } d
/-- The state that a coach stores: from LOCKED the dispersion it tracked, from CW_HUNT the one it acquired. -/
def storeNow (d : Dev) (c : Nat) : StoredRx :=
  let x := coachRx d c
  { time := nowNs d, cd := if x.state = .locked then trackedCd d c d.free else x.cd, front := x.front }
/-- A coach falls to WAIT_LIGHT: from CW_HUNT or LOCKED its state is stored with its DEVTIME; LOC_SET is raised if LOC was
clear (R100). -/
def fallToLight (c : Nat) (d : Dev) : Dev :=
  let x := coachRx d c
  let keep := x.state == .cwHunt || x.state == .locked
  let d1 := leaveState c .waitLight d
  let y := coachRx d1 c
  let d2 := setCoachRx c { y with loc := true, stored := if keep then some (storeNow d c) else y.stored, since := nowNs d } d1
  settleRx (engineOf c) (if x.loc then d2 else raiseCause (.coachRx c) 0 d2)
/-- An engine condition sends every coach beyond WAIT_LIGHT back to it. -/
def loseEngine (n : Nat) (d : Dev) : Dev :=
  (coachesOf n).foldl (fun d c => if rxState d c = .disabled || rxState d c = .waitLight then d else fallToLight c d) d
/-- A coach is disabled: its stored state is discarded. A codeword that was in progress still arrives, ERASED (R108). -/
def disableRx (c : Nat) (d : Dev) : Dev :=
  let d1 := leaveState c .disabled (seeAll c d)
  frameOff c (settleRx (engineOf c) (setCoachRx c { coachRx d1 c with stored := none, loc := false } d1))
/-- A DISABLED coach is enabled: WAIT_LIGHT with raw LOC set (R100, R101). -/
def enableRx (c : Nat) (d : Dev) : Dev :=
  frameOn c (setCoachRx c { coachRx d c with state := .waitLight, loc := true, since := nowNs d } d)
/-- The stored state is valid: stored no more than WARM_HOLD ago. -/
def storedValid (d : Dev) (c : Nat) : Bool :=
  match (coachRx d c).stored with
  | none => false
  | some t => decide (nowNs d ≤ t.time + (engRx d (engineOf c)).warmHold * 1000000)
/-- The engine conditions under which a coach may leave WAIT_LIGHT. -/
def lightOk (d : Dev) (n : Nat) : Bool := !(engRx d n).los && !loLow d n && !lineDown d n && !engineOff d n

def execLosSet (n : Engine) : State → Host.Outcome State Fault Refusal :=
  lift fun d => guard (!(engRx d n).los && !engineOff d n)
    (fun d => calLight n <| settleRx n (loseEngine n (raiseCause (.engRx n) 0 (setEngRx n { engRx d n with los := true } d)))) d
/-- Raw LOS clears 100 µs after light returned (R102). -/
def execLosClear (n : Engine) : State → Host.Outcome State Fault Refusal :=
  lift fun d => guard ((engRx d n).los && !engineOff d n)
    (fun d =>
      let d1 := (coachesOf n).foldl (fun d c => seeRaw c 0 d) d
      settleRx n (raiseCause (.engRx n) 1 (setEngRx n { engRx d1 n with los := false, lightAt := nowNs d - 100000 } d1))) d
/-- The laser-low condition sets: transmit side, LO_LOW, and every coach (R83, R553). -/
def execLaserLow (n : Engine) : State → Host.Outcome State Fault Refusal :=
  lift fun d => guard (!(engTx d n).laserLow && !engineOff d n)
    (fun d => loseEngine n (raiseCause (.engRx n) 2 (txLaserLow n d))) d
def execLaserRestored (n : Engine) : State → Host.Outcome State Fault Refusal :=
  lift fun d => guard ((engTx d n).laserLow && !engineOff d n) (txLaserRestored n) d

/-- The class range of dispersion in ps/nm and the step of its search; the window set for a coach (R90, R91). -/
def cdRange (cls : Nat) : Nat := if cls = 0 then 200000 else if cls = 1 then 400000 else 800000
def cdStep (cls : Nat) : Nat := if cls = 0 then 500 else if cls = 1 then 2000 else 8000
/-- DESIGN CHOICE: a window stored under one rate class that leaves the range of a class set later is searched as it was stored. -/
def cdSpan (d : Dev) (c : Nat) : Nat :=
  if (rxEq d c).span = 0xFFFFFFFF then cdRange (engTx d (engineOf c)).rate else (rxEq d c).span
/-- Light, LO and gain are there: WARM with a valid stored state, which is loaded, else ACQ_CD. The acquisition keeps the search window it begins
with (R91). -/
def acqStart (c : Nat) (d : Dev) : Dev :=
  let x := { coachRx d c with retried := false, window := ((rxEq d c).centre, cdSpan d c) }
  match x.stored with
  | some s =>
    if storedValid d c then setCoachRx c { x with state := .warm, cd := s.cd, front := s.front } d else setCoachRx c { x with state := .acqCd } d
  | none => setCoachRx c { x with state := .acqCd } d
def execAcqStart (c : Coach) : State → Host.Outcome State Fault Refusal :=
  lift fun d => guard (rxState d c == .waitLight && lightOk d (engineOf c)) (acqStart c) d

/-- M = ⌈CD_SPAN / CD_STEP⌉: the search tests 2 M + 1 candidates (R91). -/
def cdM (d : Dev) (c : Nat) : Nat := ceilDiv (coachRx d c).window.2 (cdStep (engTx d (engineOf c)).rate)
/-- Candidate m, CD_CENTRE + m × CD_SPAN / M. DEDUCED: one that is no whole number of ps/nm is reported as one of its two neighbours. -/
def isCandidateOf (d : Dev) (c : Nat) (v m : Int) : Bool :=
  let w := (coachRx d c).window
  let k : Int := cdM d c
  decide (-k ≤ m ∧ m ≤ k) && (if k = 0 then v == w.1 else decide (mag (k * (v - w.1) - m * w.2) < cdM d c))
def isCandidate (d : Dev) (c : Nat) (v : Int) : Bool :=
  let w := (coachRx d c).window
  let m := (cdM d c : Int) * (v - w.1) / (w.2 : Int)
  isCandidateOf d c v m || isCandidateOf d c v (m + 1)
/-- The search ends: the best candidate is applied, the second best kept; the equaliser starts afresh. -/
def execCdSearchComplete (c : Coach) (best second : Int) : State → Host.Outcome State Fault Refusal :=
  lift fun d => guard (rxState d c == .acqCd && isCandidate d c best && isCandidate d c second && (best != second || cdM d c == 0))
    (fun d => setCoachRx c { coachRx d c with state := .acqPol, cd := best, second := second, front := d.free } { d with free := d.free + 1 }) d
def execPolConverged (c : Coach) : State → Host.Outcome State Fault Refusal :=
  lift fun d => guard (rxState d c == .acqPol) (fun d => setCoachRx c { coachRx d c with state := .acqCarrier } d) d
/-- A stage bound is exceeded: the second-best candidate once, then a new search; ACQ_RETRY each time. -/
def acqRetry (c : Nat) (d : Dev) : Dev :=
  let x := coachRx d c
  raiseCause (.coachRx c) 4
    (setCoachRx c (if x.retried then { x with state := .acqCd, retried := false } else { x with state := .acqPol, cd := x.second, retried := true }) d)
def execAcqRetry (c : Coach) : State → Host.Outcome State Fault Refusal :=
  lift fun d => guard (rxState d c == .acqPol || rxState d c == .acqCarrier) (acqRetry c) d
/-- Carrier lock: CW_HUNT, raw LOC clears, LOC_CLEAR, LAST_LOCK, ACQ_DURATION, ACQ_COUNT (R100, R116). -/
def carrierLock (c : Nat) (d0 : Dev) : Dev :=
  let d := seeRaw c 1 d0
  let x := coachRx d c
  let t0 := max x.since (engRx d (engineOf c)).lightAt
  settleRx (engineOf c) (raiseCause (.coachRx c) 1 (setCoachRx c { x with
    state := .cwHunt, loc := false, lastLock := nowNs d, acqDuration := sat 0xFFFFFFFF ((nowNs d - t0) / 1000)
    acqCount := sat 0xFFFFFFFF (x.acqCount + 1) } d))
def execCarrierLock (c : Coach) : State → Host.Outcome State Fault Refusal :=
  lift fun d => guard (rxState d c == .acqCarrier) (carrierLock c) d
def execWarmLock (c : Coach) : State → Host.Outcome State Fault Refusal :=
  lift fun d => guard (rxState d c == .warm) (carrierLock c) d
def execWarmFail (c : Coach) : State → Host.Outcome State Fault Refusal :=
  lift fun d => guard (rxState d c == .warm)
    (fun d => raiseCause (.coachRx c) 5 (setCoachRx c { coachRx d c with state := .acqCd, retried := false } d)) d
/-- Codeword boundaries found: LOCKED; the first codeword will carry RESYNC (R107). -/
def execCwLock (c : Coach) : State → Host.Outcome State Fault Refusal :=
  lift fun d => guard (rxState d c == .cwHunt)
    (fun d => settleRx (engineOf c) (raiseCause (.coachRx c) 2
      (setCoachRx c { coachRx d c with state := .locked, cwFail := false, resync := true, slip := false, hChange := false } d))) d
/-- No boundary within the codeword bound: CW_FAIL once until the next lock. -/
def execCwFail (c : Coach) : State → Host.Outcome State Fault Refusal :=
  lift fun d => guard (rxState d c == .cwHunt && !(coachRx d c).cwFail)
    (fun d => raiseCause (.coachRx c) 3 (setCoachRx c { coachRx d c with cwFail := true } d)) d
/-- Raw LOC sets on a coach in CW_HUNT or LOCKED (R101). -/
def execLocSet (c : Coach) : State → Host.Outcome State Fault Refusal :=
  lift fun d => guard (rxState d c == .cwHunt || rxState d c == .locked) (fallToLight c) d
/-- A cycle slip of the recovered phase, which a coach has from carrier lock on: counted, and the codeword that holds it carries SLIP; codewords are
delivered only in LOCKED (R98, R107). -/
def execCycleSlip (c : Coach) : State → Host.Outcome State Fault Refusal :=
  lift fun d => guard (isLocked d c || rxState d c == .cwHunt)
    (fun d => bump (keyCoach c 0) 1 (setCoachRx c { coachRx d c with slip := isLocked d c } d)) d
/-- The gain needed comes to lie outside 0 to 40.0 dB: it stays at the nearer end (R84) until `gainFollows`. -/
def execGainLimit (n : Engine) (high : Bool) : State → Host.Outcome State Fault Refusal :=
  lift fun d => guard (!engineOff d n)
    (fun d => raiseCause (.engRx n) 6 (setEngRx n { engRx d n with gainEnd := some (if high then 400 else 0) } d)) d
/-- A cycle in which the gain needed, a free value of draw `k`, lies within 0 to 40.0 dB again: the automatic loop follows it (R84). -/
def gainFollows (k : Nat) (d : Dev) (n : Nat) : Dev :=
  let e := engRx d n
  if e.gainEnd.isSome && withinI 0 400 (Config.gainNeeded k n).toInt then setEngRx n { e with gainEnd := none } d else d
/-- The OFFSET_WARN limit of a class in MHz (R87). -/
def offsetLimit (cls : Nat) : Nat := if cls = 0 then 200 else if cls = 1 then 100 else 50
/-- The offsets of coaches c and c + 1 of one engine differ by `delta` MHz: OFFSET_WARN on both above the limit. -/
def offsetWarn (c delta : Nat) (d : Dev) : Dev :=
  let w := decide (offsetLimit (engTx d (engineOf c)).rate < delta)
  let x := coachRx d c
  let d1 := setCoachRx c { x with offsetWarn := w } d
  if w && !x.offsetWarn then raiseCause (.coachRx (c + 1)) 6 (raiseCause (.coachRx c) 6 d1) else d1
def execOffsetWarn (c : Coach) (delta : Nat) : State → Host.Outcome State Fault Refusal :=
  lift fun d => guard (c.val % 16 != 15 && isLocked d c && isLocked d (c.val + 1)) (offsetWarn c delta) d

/-! ## Commands (R110 to R116) -/

/-- The INITIAL calibration at the first enable of receive after power-up (R502). -/
def initialCal (n : Nat) (d : Dev) : Dev :=
  if (calOf d n).initialDone then d else calTrigger n 1 (setCal n { calOf d n with initialDone := true } d)
def engRxRun (b : List Byte) (d : Dev) : Dev :=
  let n := u8 b 0
  let e := engRx d n
  let on := flag b 1 0
  let d1 := setEngRx n { e with enable := on, gainManual := flag b 1 1, recclk := u8 b 2, rms := u8 b 3
                                gain := if flag b 1 1 then u16 b 4 else e.gain, losThreshold := s16 b 6, warmHold := u16 b 8, gainEnd := none } d
  let d2 := if on && !e.enable then
      initialCal n ((coachesOf n).foldl (fun d c => if (coachRx d c).enable && rxState d c = .disabled then enableRx c d else d) d1)
    else if !on && e.enable then (coachesOf n).foldl (fun d c => disableRx c d) d1
    else d1
  settleRx n d2
def engRxConfigService : Service where
  opcode := 0x0221
  targets _ b := engineBlock (u8 b 0)
  checks _ b := [(!(within 0 15 (u8 b 0) && (within 0 15 (u8 b 2) || u8 b 2 == 0xFF) && within 8 64 (u8 b 3)
    && (!flag b 1 1 || within 0 400 (u16 b 4)) && withinI (-3000) (-500) (s16 b 6) && within 0 60000 (u16 b 8)), outOfRange)]
  run _ b d := okay (engRxRun b d)
def execEngRxConfig (mb : Mailbox) : State → Host.Outcome State Fault Refusal := lift (serve engRxConfigService mb)

/-- The receive configuration of a coach from a request or a capability exchange. -/
structure RxCfg where
  enable : Bool
  slots : Nat
  profile : Nat
  version : Nat
  seedX : Nat
  seedY : Nat
  locThreshold : Nat
  deriving DecidableEq, Repr
def rxCfgOf (b : List Byte) : RxCfg :=
  { enable := flag b 5 0, slots := u8 b 2, profile := u8 b 3, version := u8 b 4, seedX := u16 b 6, seedY := u16 b 8, locThreshold := u16 b 10 }
def storeRxCfg (x : CoachRx) (q : RxCfg) (h : Nat) : CoachRx :=
  { x with enable := q.enable, slots := q.slots, profile := q.profile, version := q.version, seedX := q.seedX, seedY := q.seedY
           locThreshold := q.locThreshold, slotsNow := q.slots, hNow := h }
/-- A receive configuration takes effect (R100, R105), SLOTS being compared with the count in force, which a hitless change has moved (R109): a LOCKED coach returns to CW_HUNT on a change of SLOTS, PROFILE or
FRAME_VERSION, and to WAIT_LIGHT with a valid stored state on a change of seeds; any other change discards the stored state. -/
def applyRxCfg (c : Nat) (q : RxCfg) (d : Dev) : Dev :=
  let x := coachRx d c
  let h := needH (engTx d (engineOf c)).rate q.profile q.slots
  let seeds := x.seedX != q.seedX || x.seedY != q.seedY
  let shape := x.slotsNow != q.slots || x.profile != q.profile || x.version != q.version
  let d1 := cutRxSlots c q.slots x.slotsNow (setCoachRx c (storeRxCfg x q h)) d
  if !q.enable then disableRx c d1
  else if x.state = .disabled then (if (engRx d (engineOf c)).enable then settleRx (engineOf c) (enableRx c d1) else d1)
  else if seeds then
    (if x.state = .cwHunt || x.state = .locked then fallToLight c d1 else setCoachRx c { coachRx d1 c with stored := none } d1)
  else if shape && x.state = .locked then
    settleRx (engineOf c) (leaveState c .cwHunt (setCoachRx c { coachRx d1 c with stored := none } d1))
  else if shape || x.locThreshold != q.locThreshold then setCoachRx c { coachRx d1 c with stored := none } d1
  else d1
def coachRxReply (d : Dev) (b : List Byte) : List Byte :=
  if flag b 5 0 then
    let h := needH (engTx d (engineOf (u16 b 0))).rate (u8 b 3) (u8 b 2)
    [0] ++ le 1 (constellation h) ++ le 2 h ++ zeros 4
  else zeros 8
def coachRxConfigService : Service where
  opcode := 0x0222
  targets _ b := coachBlock (u16 b 0)
  checks d b :=
    let c := u16 b 0
    [(!(within 0 255 c && u8 b 2 != 0 && within 0 2 (u8 b 3) && within 2 3 (u8 b 4) && u16 b 6 != 0 && u16 b 8 != 0
        && within 0 150 (u16 b 10)), outOfRange),
     (decide (40 < u8 b 2), badArg 2),
     (u8 b 4 == 2 && u8 b 3 != 1, badArg 3),
     (u8 b 4 == 2 && hitched d (engineOf c), badArg 5),
     (entropyOver (engTx d (engineOf c)).rate (u8 b 3) (u8 b 2), badArg 1)]
  run _ b d :=
    let c := u16 b 0
    let d1 := setCoachRx c { coachRx d c with hostWrote := true } d
    done (coachRxReply d b) (applyRxCfg c (rxCfgOf b) d1)
def execCoachRxConfig (mb : Mailbox) : State → Host.Outcome State Fault Refusal := lift (serve coachRxConfigService mb)

def rxEqService : Service where
  opcode := 0x0223
  targets _ b := coachBlock (u16 b 0)
  checks d b :=
    let m := cdRange (engTx d (engineOf (u16 b 0))).rate
    let s := if u32 b 8 = 0xFFFFFFFF then m else u32 b 8
    [(!(within 0 255 (u16 b 0) && within 0 3 (u8 b 2) && within 0 m s && within 1 64 (u16 b 12) && within 0 4000 (u32 b 16)), outOfRange),
     (decide (m < mag (s32 b 4) + s), badArg 11)]
  run _ b d :=
    let x : RxEq := { mimo := u8 b 2, nl := u8 b 3, centre := s32 b 4, span := u32 b 8, spans := u16 b 12, dispersion := u32 b 16 }
    okay { d with rx := { d.rx with eq := tabPut (fun _ => {}) d.rx.eq (u16 b 0) x } }
def execRxEqConfig (mb : Mailbox) : State → Host.Outcome State Fault Refusal := lift (serve rxEqService mb)

/-- RX_REACQUIRE: the named coaches return to WAIT_LIGHT; COLD discards their stored state (R114). -/
def reacquire (cold : Bool) (c : Nat) (d : Dev) : Dev :=
  if rxState d c = .disabled then d
  else
    let d1 := fallToLight c d
    if cold then setCoachRx c { coachRx d1 c with stored := none } d1 else d1
def rxReacquireService : Service where
  opcode := 0x0224
  targets _ b := engineBlock (u8 b 0)
  checks _ b := [(!within 0 15 (u8 b 0), outOfRange)]
  run _ b d := okay ((List.range 16).foldl (fun d k => if (u16 b 2).testBit k then reacquire (flag b 1 0) (16 * u8 b 0 + k) d else d) d)
def execRxReacquire (mb : Mailbox) : State → Host.Outcome State Fault Refusal := lift (serve rxReacquireService mb)

def lockedMask (d : Dev) (n : Nat) : Nat := ((List.range 16).map (fun k => b2n (isLocked d (16 * n + k)) * 2 ^ k)).sum
/-- ENG_RX_STATUS: measured levels are free values; an automatic gain held at an end is that end. DESIGN CHOICE: in manual mode the gain in force stays RX_GAIN while GAIN_LIMIT stands: R84 says both that it is held there and that it stays at the nearer end. -/
def engRxStatusBody (n : Nat) (m f : BitVec 64) (d : Dev) : List Byte :=
  let e := engRx d n
  let gain := if e.gainManual then e.gain else match e.gainEnd with | some g => g | none => m.toNat / 65536 % 401
  let x := hitchOf d (n / 2)
  le 1 n ++ le 1 (b2n e.los + 2 * b2n (loLow d n) + 4 * b2n e.gainManual + 8 * b2n ((calOf d n).state == .running)
      + 16 * b2n ((calOf d n).state == .pending || (calOf d n).state == .deferred))
    ++ le 2 (lockedMask d n) ++ le 2 m.toNat ++ le 2 gain ++ (if lockedMask d n = 0 then zeros 4 else le 4 (m.toNat / 2 ^ 32))
    ++ le 1 e.recclkActive ++ le 1 x.rxState ++ (if x.rxState = 1 || x.rxState = 5 then leI 2 x.walkoff else zeros 2)
    ++ le 4 (causeOf d (.engRx n)).toNat ++ zeros 4 ++ le 4 f.toNat ++ zeros 4 ++ le 8 (countOf d (keyEngine n 1))
def engRxStatusService : Service where
  opcode := 0x0225
  targets _ b := engineBlock (u8 b 0)
  freeze := .never
  checks _ b := [(!within 0 15 (u8 b 0), outOfRange)]
  run _ b d :=
    let (m, d1) := drawFree d
    let (f, d2) := drawFree d1
    done (engRxStatusBody (u8 b 0) m f d) (clearCause (.engRx (u8 b 0)) (flag b 1 0) d2)
def execEngRxStatus (mb : Mailbox) : State → Host.Outcome State Fault Refusal := lift (serve engRxStatusService mb)

def RxState.code : RxState → Nat
  | .disabled => 0 | .waitLight => 1 | .acqCd => 2 | .acqPol => 3 | .acqCarrier => 4 | .warm => 5 | .cwHunt => 6 | .locked => 7
/-- The measured fields: of a LOCKED coach the free values of draw `k`, otherwise those held since it left LOCKED; 0 before a
first lock. -/
def measuredAt (d : Dev) (c k i n : Nat) : List Byte :=
  if isLocked d c then le n ((Config.free64 (k + i)).toNat)
  else match (coachRx d c).held with
    | some j => le n ((Config.free64 (j + i)).toNat)
    | none => zeros n
/-- COACH_RX_STATUS. DEDUCED: a DISABLED coach whose line link is down reports DISABLED with LOC clear, as the table of R100 has it; the WAIT_LIGHT with LOC set of R116 is that of an enabled coach. -/
def coachRxStatusBody (c : Nat) (d : Dev) : List Byte :=
  let x := coachRx d c
  let k := d.free
  let warn := x.offsetWarn || (c % 16 != 0 && (coachRx d (c - 1)).offsetWarn)
  let siq := if isLocked d c then siqFigures d c else x.heldSiq
  le 2 c ++ le 1 x.state.code ++ le 1 (if x.state = .disabled then 0 else constellation x.hNow) ++ le 2 x.hNow ++ le 1 x.slotsNow
    ++ le 1 (b2n x.loc + 2 * b2n (storedValid d c) + 4 * b2n warn + 8 * b2n x.cwFail)
    ++ measuredAt d c k 0 2 ++ measuredAt d c k 1 2 ++ measuredAt d c k 2 4 ++ measuredAt d c k 3 2 ++ measuredAt d c k 4 2
    ++ leI 4 (if isLocked d c then trackedCd d c k else x.heldCd) ++ measuredAt d c k 5 2 ++ measuredAt d c k 6 2 ++ le 1 siq.1 ++ le 1 siq.2
    ++ zeros 2 ++ le 8 x.lastLock ++ le 4 x.acqDuration ++ le 4 (causeOf d (.coachRx c)).toNat ++ le 8 (countOf d (keyCoach c 0))
    ++ le 4 x.acqCount ++ zeros 4
def coachRxStatusService : Service where
  opcode := 0x0226
  targets _ b := coachBlock (u16 b 0)
  freeze := .never
  checks _ b := [(!within 0 255 (u16 b 0), outOfRange)]
  run _ b d := done (coachRxStatusBody (u16 b 0) d) (clearCause (.coachRx (u16 b 0)) (flag b 2 0) { d with free := d.free + 10 })
def execCoachRxStatus (mb : Mailbox) : State → Host.Outcome State Fault Refusal := lift (serve coachRxStatusService mb)

end Sys2Proof.Machine
end

