-- ==== Sys2Proof/Machine/Slots.lean ====
section
/-! DEFINITION. Slot and queue commands: pages, swaps, queue configuration, flush and spill (R222 to R247). -/

namespace Sys2Proof.Machine

/-! ## Frame periods and service rates (R153, R222) -/

/-- Frame period of coach c on transmit in ns as a fraction: 16 codewords of R106. -/
def periodDenOf (d : Dev) (c : Nat) (x : CoachCfg) : Nat :=
  let r := (engTx d (engineOf c)).rate
  2 * symbolRate r * needH r x.profile x.slots * 31
def periodDen (d : Dev) (c : Nat) : Nat := periodDenOf d c (coachTx d c).cfg
def periodNum : Nat := 16 * 30720 * 64 * 32 * 1000000
/-- Service rate in kb/s of a leg of n slots, times `rateDen` (R222). -/
def legRate (cls profile slots n : Nat) : Nat :=
  if n = 0 then 0 else payloadPositions profile slots n * 64 * (2 * symbolRate cls * needH cls profile slots * 31)
def rateDen : Nat := 16 * 30720 * 64 * 32
/-- The configuration of a coach from its next frame boundary on. -/
def boundaryCfg (d : Dev) (c : Nat) : CoachCfg := (coachTx d c).atBoundary.getD (coachTx d c).cfg
def coachLegRate (d : Dev) (c profile slots n : Nat) : Nat := legRate (engTx d (engineOf c)).rate profile slots n
/-- The sum over a tributary's transmit legs, groomed ones among them, times `rateDen`. -/
def serviceRate (d : Dev) (q : Nat) : Nat :=
  ((List.range 256).map (fun c => ((txLegs d c).filter (fun l => l.1 % 4096 == q)).map
    (fun l => coachLegRate d c (coachTx d c).cfg.profile (coachTx d c).cfg.slots l.2.length) |>.sum)).sum
/-- The sum over a tributary's receive legs, from each coach's receive configuration (R234, R347). -/
def receiveRate (d : Dev) (q : Nat) : Nat :=
  ((List.range 256).map (fun c =>
    let x := coachRx d c
    ((rxLegsOn d c x.slots (coachSwap d c).rxPage1).filter (fun l => l.1 == q)).map
      (fun l => legRate (engTx d (engineOf c)).rate x.profile x.slots l.2.length) |>.sum)).sum

/-! ## Consistency of pages (R225, R341, R342, R334) -/

/-- The transmit entries of the whole device with masked engines on their standby pages (R225). -/
def judgedTx (d : Dev) (mask : Nat) : Tab Word :=
  let on (p : Bool) (e : Nat × Word) : Bool :=
    let x := engineSwap d (e.1 / 640)
    (if mask.testBit (e.1 / 640) then !x.active1 else x.active1) == p
  d.slots.txPage0.filter (on false) ++ d.slots.txPage1.filter (on true)
/-- The receive entries with masked coaches on their standby pages. -/
def judgedRx (d : Dev) (mask : Nat → Bool) : Tab Word :=
  let on (p : Bool) (e : Nat × Word) : Bool :=
    let x := coachSwap d (e.1 / 40)
    (if mask (e.1 / 40) then !x.rxPage1 else x.rxPage1) == p
  d.slots.rxPage0.filter (on false) ++ d.slots.rxPage1.filter (on true)
/-- QUEUE entries of a tributary. -/
def entriesOf (t : Tab Word) (q : Nat) : Tab Word := t.filter (fun e => entKind e.2 == 1 && entQueue e.2 == q)
def queuesNamed (t : Tab Word) : List Nat := ((t.filter (fun e => entKind e.2 == 1)).map (fun e => entQueue e.2)).eraseDups
/-- Ordinals 0 to N − 1, each exactly once. -/
def ordinalsFull (l : Tab Word) : Bool :=
  decide (l.length ≤ 640) && (List.range l.length).all (fun o => l.any (fun e => entOrdinal e.2 == o))
/-- Ordinals without repeats. -/
def ordinalsUnique (l : Tab Word) : Bool := (l.map (fun e => entOrdinal e.2)).eraseDups.length == l.length
def oneEngine (l : Tab Word) : Bool := l.all (fun e => l.all (fun f => e.1 / 640 == f.1 / 640))
/-- The paths of a twin tributary's entries: those on engine A, those on engine B. -/
def onEngine (l : Tab Word) (n : Nat) : Tab Word := l.filter (fun e => e.1 / 640 == n)
/-- A tributary's entries lie on one engine, a twin tributary's on exactly its two (R225, R341). -/
def spansOk (d : Dev) (t : Tab Word) (q : Nat) : Bool :=
  match boundOf d q with
  | none => oneEngine (entriesOf t q)
  | some w =>
    let used := (entriesOf t q).map (·.1 / 640)
    let two := [(twinCfg d w).engineA, (twinCfg d w).engineB]
    used.all two.contains && two.all used.contains
def ordinalsOk (d : Dev) (rx : Bool) (t : Tab Word) (q : Nat) : Bool :=
  let ok := if rx then ordinalsUnique else ordinalsFull
  match boundOf d q with
  | none => ok (entriesOf t q)
  | some w => ok (onEngine (entriesOf t q) (twinCfg d w).engineA) && ok (onEngine (entriesOf t q) (twinCfg d w).engineB)
/-- The slot count a coach will have in force after the swap: a configuration that waits for its frame boundary comes before it (R78). -/
def slotsAfter (d : Dev) (mask c : Nat) : Nat :=
  match (coachTx d c).pending with
  | some p => if mask.testBit (engineOf c) then p.1 else (boundaryCfg d c).slots
  | none => (boundaryCfg d c).slots
/-- The tributaries groomed by GROOM entries, and the entries of one. -/
def groomedBy (d : Dev) (e : Nat × Word) : Option Nat := if entKind e.2 = 2 then mappedTo d (entRxSlot e.2) else none
def groomEntries (d : Dev) (t : Tab Word) (r : Nat) : Tab Word := t.filter (fun e => groomedBy d e == some r)
def groomedNamed (d : Dev) (t : Tab Word) : List Nat := (t.filterMap (groomedBy d)).eraseDups
def groomSpanOk (d : Dev) (t : Tab Word) (r : Nat) : Bool := oneEngine (groomEntries d t r) && (entriesOf t r).isEmpty
/-- A groomed tributary's transmit service rate on a page is at least 1.0005 times its receive rate (R234). -/
def groomRateOk (d : Dev) (mask : Nat) (t : Tab Word) (r : Nat) : Bool :=
  let es := groomEntries d t r
  let tx := ((List.range 256).map (fun c =>
    let n := (es.filter (fun e => e.1 / 40 == c)).length
    coachLegRate d c (boundaryCfg d c).profile (slotsAfter d mask c) n)).sum
  decide (10005 * receiveRate d r ≤ 10000 * tx)
/-- The path that a coach's twin legs belong to: A and B legs on one coach break R342. -/
def twinRoles (d : Dev) (t : Tab Word) (c : Nat) : List Nat :=
  ((t.filter (fun e => e.1 / 40 == c && entKind e.2 == 1)).filterMap (fun e =>
    (boundOf d (entQueue e.2)).map (fun w => if engineOf c = (twinCfg d w).engineA then 1 else 2))).eraseDups
/-- A transmit entry carries a secure tributary, directly or by grooming (R334). -/
def carriesSecure (d : Dev) (w : Word) : Bool :=
  match streamOf d w with
  | some s => secureQueue d (s % 4096)
  | none => false
/-- The cipher-brake check (R334), on the CIPHER_MODEs last committed. -/
def cipherOkTx (d : Dev) (t : Tab Word) : Bool := t.all (fun e => !carriesSecure d e.2 || (cipherTx d (e.1 / 40)).modeNext)
def cipherOkRx (d : Dev) (t : Tab Word) : Bool :=
  t.all (fun e => !(entKind e.2 == 1 && secureQueue d (entQueue e.2)) || (cipherRx d (e.1 / 40)).modeNext)
/-- Why the transmit pages judged are not consistent. -/
def txPageFaults (d : Dev) (mask : Nat) : List (Bool × Verdict) :=
  let t := judgedTx d mask
  [(!(queuesNamed t).all (ordinalsOk d false t), badArg 14),
   (!((queuesNamed t).all (spansOk d t) && (groomedNamed d t).all (groomSpanOk d t)), badArg 15),
   (!(List.range 256).all (fun c => decide ((twinRoles d t c).length ≤ 1)), badArg 43),
   (t.any (fun e => entKind e.2 != 0 && decide (slotsAfter d mask (e.1 / 40) ≤ e.1 % 40)), badArg 16),
   (!(groomedNamed d t).all (groomRateOk d mask t), badArg 17),
   (!(cipherOkTx d t && cipherOkRx d (judgedRx d (fun _ => false))), braked 3)]
def rxPageFaults (d : Dev) (mask : Nat → Bool) : List (Bool × Verdict) :=
  let t := judgedRx d mask
  [(!(queuesNamed t).all (ordinalsOk d true t), badArg 14),
   (!(queuesNamed t).all (spansOk d t), badArg 15),
   (!(List.range 256).all (fun c => decide ((twinRoles d t c).length ≤ 1)), badArg 43),
   (!cipherOkRx d t, braked 3)]

/-! ## Arming a transmit swap (R227, R228) -/

/-- FRAME_COUNT of the next frame: 0 where the first one is still to come (R159). -/
def frameNo (d : Dev) (c : Nat) : Nat := if (coachTx d c).framesRun then (frameTx d c).next else 0
/-- DEVTIME of the last frame of coach c; now where its frames do not run: DESIGN CHOICE, its first frame is then taken to begin at once. -/
def lastStart (d : Dev) (c : Nat) : Nat :=
  if (coachTx d c).framesRun then (match (frameTx d c).sent with | some f => f.time | none => nowNs d) else nowNs d
/-- FRAME_COUNT modulus of the next frames. -/
def nextMod (d : Dev) (c : Nat) : Nat := fcMod (boundaryCfg d c).version
/-- Frames of coach c from its next frame to frame `f`: negative where it has passed. -/
def framesTo (d : Dev) (c f : Nat) : Int :=
  let m := nextMod d c
  let k := modSub m f (frameNo d c)
  if 2 * k < m then k else (k : Int) - (m : Int)
/-- ns from the last frame to `k` frames after the next one, rounded down: the frame in progress keeps its period, those from the next boundary on
have the period of the configuration that waits for it (R78, R153). -/
def framesNs (d : Dev) (c : Nat) (k : Int) : Int :=
  let now : Int := if (coachTx d c).framesRun then 1 else 0
  let o := periodDen d c
  let n := periodDenOf d c (boundaryCfg d c)
  if 0 ≤ k then (periodNum : Int) * (now * n + k * o) / ((o * n : Nat) : Int) else (periodNum : Int) * (now + k) / (o : Int)
/-- T: DEVTIME in ns at which frame F_ref of the reference coach enters the encoder. -/
def swapInstant (d : Dev) (c f : Nat) : Int := (lastStart d c : Int) + framesNs d c (framesTo d c f)
/-- F_c: the first frame of a coach, of those not yet sent, whose lead codeword enters the encoder at or after T. -/
def swapFrame (d : Dev) (c : Nat) (t : Int) : Nat :=
  let o := periodDen d c
  let a := (t - (lastStart d c : Int)) * (o : Int) - (if (coachTx d c).framesRun then (periodNum : Int) else 0)
  (frameNo d c + ceilDiv (a.toNat * periodDenOf d c (boundaryCfg d c)) (periodNum * o)) % nextMod d c
/-- The engines of a mask; the coaches of its engines whose frames run. -/
def maskEngines (mask : Nat) : List Nat := (List.range 16).filter (fun n => mask.testBit n)
def swapCoaches (d : Dev) (n : Nat) : List Nat := (coachesOf n).filter (fun c => litCoach d c && (coachTx d c).framesRun)
/-- The lit coaches of an engine that is enabled whose frames do not run: their swap frame is fixed at their first frame boundary. A coach of a
disabled engine switches as an unlit one does. -/
def waitCoaches (d : Dev) (n : Nat) : List Nat :=
  (coachesOf n).filter (fun c => litCoach d c && !(coachTx d c).framesRun && (engTx d n).state != .disabled)
/-- Frames from a coach's next frame to frame `f`. -/
def ahead (d : Dev) (c f : Nat) : Nat := modSub (nextMod d c) f (frameNo d c)
/-- DEDUCED: the frames of a coach that has not begun cannot be counted 256 ahead, so with a change waiting on it the swap is TOO_SOON (R161, R228). -/
def slotArmChecks (d : Dev) (b : List Byte) : List (Bool × Verdict) :=
  let mask := u16 b 0
  let ref := u16 b 2
  let refOk := decide (ref < 256) && litCoach d ref && mask.testBit (engineOf ref)
  let t := swapInstant d ref (u64 b 6)
  let now : Int := nowNs d
  let es := maskEngines mask
  let waiting := (es.flatMap coachesOf).filter (fun c => litCoach d c && (coachTx d c).pending.isSome)
  let soon (c : Nat) : Bool := !(coachTx d c).framesRun || decide (ahead d c (swapFrame d c t) < 256)
  [(decide (255 < ref), outOfRange)] ++ txPageFaults d mask ++
  [(refOk && (decide (t < now + 100000) || waiting.any soon), badArg 12),
   (refOk && decide (now + 10000000000 < t), outOfRange),
   (refOk && es.any (fun n => (engineSwap d n).last != 0
      && decide (t < (engineSwap d n).last + (d.brakes.minSwapMs * 1000000 : Nat))), braked 6),
   (es.any (fun n => (engineSwap d n).armed.isSome), busy 18),
   (!refOk, badArg 24)]
/-- Arm the swap on one engine: its coaches' waiting changes go with it (R78). -/
def armEngine (mask : Nat) (t : Int) (n : Nat) (d : Dev) : Dev :=
  let fs := (swapCoaches d n).map (fun c => (c, swapFrame d c t))
  let ws := (waitCoaches d n).map (· % 16)
  let d1 := (coachesOf n).foldl (fun d c => setCoachTx c { coachTx d c with joined := (coachTx d c).pending.isSome } d) d
  setEngineSwap n { engineSwap d n with
    armed := some { time := t.toNat, mask := BitVec.ofNat 16 mask, frames := fs, waits := BitVec.ofNat 16 ((ws.map (2 ^ ·)).sum) }, done := 0, owed := 0 } d1
def slotArmService : Service where
  opcode := 0x0406
  targets _ b := 1 :: (maskEngines (u16 b 0)).map (0x10 + ·)
  checks := slotArmChecks
  run _ b d :=
    let t := swapInstant d (u16 b 2) (u64 b 6)
    okay ((maskEngines (u16 b 0)).foldl (fun d n => armEngine (u16 b 0) t n d) d)
def execSlotArm (mb : Mailbox) : State → Host.Outcome State Fault Refusal := lift (serve slotArmService mb)

/-! ## Receive swaps and cancelling (R229, R231) -/

/-- The masked coaches of RX_SLOT_ARM. -/
def rxMask (b : List Byte) : List Nat := ((List.range 16).filter (fun k => (u16 b 2).testBit k)).map (16 * u8 b 0 + ·)
def rxArmFrame (b : List Byte) (c : Nat) : Nat := u64 b (8 + 8 * (c % 16))
def rxSlotArmService : Service where
  opcode := 0x0407
  targets _ b := 1 :: engineBlock (u8 b 0)
  checks d b :=
    let l := rxMask b
    [(!(within 0 15 (u8 b 0) && l.all (fun c => decide (rxArmFrame b c < 2 ^ 48))), outOfRange)] ++ rxPageFaults d (fun c => l.contains c)
      ++ [(l.any (fun c => (coachSwap d c).armed.isSome), busy 18)]
  run _ b d := okay ((rxMask b).foldl (fun d c =>
    setCoachSwap c { coachSwap d c with armed := some (rxArmFrame b c), done := false } d) d)
def execRxSlotArm (mb : Mailbox) : State → Host.Outcome State Fault Refusal := lift (serve rxSlotArmService mb)

/-- A masked coach of the swap has sent the first header of its announcement (R161). -/
def announcing (d : Dev) (a : TxSwap) : Bool := a.frames.any (fun f => changeSent d f.1)
def anyArmed (d : Dev) (n : Nat) (p : TxSwap → Bool) : Bool :=
  (swapEngines d n).any (fun m => match (engineSwap d m).armed with | some a => p a | none => false)
/-- A transmit swap is withdrawn from an engine: every coach uses the active page, and a waiting change waits for the next swap (R229). -/
def cancelSwap (n : Nat) (d : Dev) : Dev :=
  (coachesOf n).foldl (fun d c => setCoachTx c { coachTx d c with joined := false }
      (setCoachSwap c { coachSwap d c with txPage1 := (engineSwap d n).active1 } d))
    (setEngineSwap n { engineSwap d n with armed := none } d)
/-- DEDUCED: NOT_ARMED and TOO_LATE answer BAD_ARG; a receive cancel names every coach of the engine. -/
def slotCancelService : Service where
  opcode := 0x0408
  targets _ b := 1 :: engineBlock (u8 b 1)
  checks d b :=
    let n := u8 b 1
    [(!(within 0 1 (u8 b 0) && within 0 15 n), outOfRange),
     (u8 b 0 == 0 && (engineSwap d n).armed.isNone, badArg 21),
     (u8 b 0 == 1 && (coachesOf n).all (fun c => (coachSwap d c).armed.isNone), badArg 21),
     (u8 b 0 == 0 && anyArmed d n (announcing d), busy 19),
     (u8 b 0 == 0 && anyArmed d n (·.late), badArg 13)]
  run _ b d :=
    let n := u8 b 1
    okay (if u8 b 0 = 0 then (swapEngines d n).foldl (fun d m => cancelSwap m d) d
      else (coachesOf n).foldl (fun d c => setCoachSwap c { coachSwap d c with armed := none } d) d)
def execSlotCancel (mb : Mailbox) : State → Host.Outcome State Fault Refusal := lift (serve slotCancelService mb)

/-- TX_STATE of R245: 0 idle, 1 armed, 2 announcing, 3 switching. -/
def swapState (d : Dev) (n : Nat) : Nat :=
  match (engineSwap d n).armed with
  | none => 0
  | some a => if a.switched != 0 then 3 else if announcing d a then 2 else 1
def frameOfSwap (l : List (Nat × Nat)) (c : Nat) : Nat := ((l.find? (fun f => f.1 == c)).map (·.2)).getD 0
def slotSwapBody (n : Nat) (d : Dev) : List Byte :=
  let x := engineSwap d n
  let fs := match x.armed with | some a => a.frames | none => x.lastFrames
  let done := match x.armed with | some a => a.switched | none => x.done
  [0] ++ le 1 (swapState d n) ++ le 2 (bitsOf 16 (fun k => (coachSwap d (16 * n + k)).armed.isSome)) ++ zeros 4
    ++ le 8 (x.armed.map (·.time) |>.getD 0) ++ le 8 x.last ++ (coachesOf n).flatMap (fun c => le 8 (frameOfSwap fs c))
    ++ le 2 done.toNat ++ le 2 (bitsOf 16 (fun k => (coachSwap d (16 * n + k)).done)) ++ zeros 4
def slotSwapStatusService : Service where
  opcode := 0x0409
  targets _ b := 1 :: engineBlock (u8 b 0)
  freeze := .never
  checks _ b := [(!within 0 15 (u8 b 0), outOfRange)]
  run _ b d := done (slotSwapBody (u8 b 0) d) d
def execSlotSwapStatus (mb : Mailbox) : State → Host.Outcome State Fault Refusal := lift (serve slotSwapStatusService mb)

/-! ## Pages (R223, R226, R243) -/

/-- An entry in the layout of R223. -/
def entryOk (rx : Bool) (w : Word) : Bool :=
  if entKind w = 0 then true
  else if entKind w = 1 then decide (entOrdinal w ≤ 639)
  else if entKind w = 2 && !rx then decide (entRxSlot w ≤ 10239)
  else false
def entriesIn (b : List Byte) : List Word := (List.range (u16 b 6)).map (fun i => BitVec.ofNat 32 (u32 b (8 + 4 * i)))
/-- Number of the first entry of an engine's or coach's page. -/
def pageBase (b : List Byte) (index : Nat) : Nat := if u8 b 0 = 0 then 640 * index else 40 * index
def pageSize (b : List Byte) : Nat := if u8 b 0 = 0 then 640 else 40
/-- The request names an existing page and range. -/
def rangeOk (b : List Byte) : Bool :=
  within 0 1 (u8 b 0) && within 0 (if u8 b 0 = 0 then 15 else 255) (u16 b 2) && within 0 (pageSize b) (u16 b 4 + u16 b 6)
/-- A swap is armed for the page. -/
def pageArmed (d : Dev) (b : List Byte) : Bool :=
  if u8 b 0 = 0 then (engineSwap d (u16 b 2)).armed.isSome else (coachSwap d (u16 b 2)).armed.isSome
/-- Which of the two pages is standby. -/
def standby1 (d : Dev) (b : List Byte) : Bool :=
  if u8 b 0 = 0 then !(engineSwap d (u16 b 2)).active1 else !(coachSwap d (u16 b 2)).rxPage1
def pageOf (d : Dev) (b : List Byte) (p : Bool) : Tab Word := if u8 b 0 = 0 then txPage d p else rxPage d p
def setPageOf (b : List Byte) (p : Bool) (t : Tab Word) (d : Dev) : Dev := if u8 b 0 = 0 then setTxPage p t d else setRxPage p t d
def pageTargets (b : List Byte) : List Nat := 1 :: (if u8 b 0 = 0 then engineBlock (u16 b 2) else coachBlock (u16 b 2))
/-- Entries, two to a word, the first word stored XOR an armed flip mask: IDLE or DISCARD where it is then uncorrectable (R424, R430). -/
def hitEntries (m : BitVec 72) (ws : List Word) : List Word :=
  let v := ((ws.drop 1).headD 0 ++ ws.headD 0 : BitVec 64)
  if m = 0 then ws else match readFlipped m v with
    | some u => putAt (putAt ws 0 (fun _ => u.setWidth 32)) 1 (fun _ => (u >>> 32).setWidth 32)
    | none => putAt (putAt ws 0 (fun _ => 0)) 1 (fun _ => 0)
/-- Entries placed from a number upwards. -/
def putEntries (t : Tab Word) (i : Nat) (ws : List Word) : Tab Word :=
  ws.zipIdx.foldl (fun t p => tabPut (fun _ => 0) t (i + p.2) p.1) t
def slotWriteService : Service where
  opcode := 0x0403
  targets _ b := pageTargets b
  checks d b :=
    [(!(rangeOk b && (entriesIn b).all (entryOk (u8 b 0 == 1))), outOfRange), (pageArmed d b, busy 18)]
  run _ b d :=
    let p := standby1 d b
    okay (useFlip 4 (setPageOf b p (putEntries (pageOf d b p) (pageBase b (u16 b 2) + u16 b 4) (hitEntries (flipMaskFor 4 d) (entriesIn b))) d))
def execSlotWrite (mb : Mailbox) : State → Host.Outcome State Fault Refusal := lift (serve slotWriteService mb)
def slotReadService : Service where
  opcode := 0x0404
  targets _ b := pageTargets b
  freeze := .never
  checks _ b := [(!(rangeOk b && within 0 1 (u8 b 1)), outOfRange)]
  run _ b d :=
    let t := pageOf d b (if u8 b 1 = 1 then standby1 d b else !standby1 d b)
    done (zeros 4 ++ (List.range (u16 b 6)).flatMap
      (fun i => le 4 (tabGet (fun _ => (0 : Word)) t (pageBase b (u16 b 2) + u16 b 4 + i)).toNat)) d
def execSlotRead (mb : Mailbox) : State → Host.Outcome State Fault Refusal := lift (serve slotReadService mb)
/-- DEDUCED: a copy into a standby page is refused like a write while a swap is armed for it (R226). -/
def slotCopyService : Service where
  opcode := 0x0405
  targets _ b := pageTargets b
  checks d b :=
    [(!(within 0 1 (u8 b 0) && within 0 (if u8 b 0 = 0 then 15 else 255) (u16 b 2)), outOfRange), (pageArmed d b, busy 18)]
  run _ b d :=
    let p := standby1 d b
    let base := pageBase b (u16 b 2)
    okay (useFlip 4 (setPageOf b p (putEntries (pageOf d b p) base
      (hitEntries (flipMaskFor 4 d) ((List.range (pageSize b)).map (fun i => tabGet (fun _ => (0 : Word)) (pageOf d b (!p)) (base + i))))) d))
def execSlotCopy (mb : Mailbox) : State → Host.Outcome State Fault Refusal := lift (serve slotCopyService mb)

/-! ## Queues (R235 to R242) -/

/-- A FILL has completed on a whole region since the last loss of HBM contents (R236, R357, R423). -/
def filled (d : Dev) (region : Option (Nat × Nat)) : Bool :=
  match region with
  | some (b, n) => (List.range n).all (fun i => d.mem.fillMap.getLsbD (b + i))
  | none => false
def queueCfgOf (b : List Byte) : QueueCfg :=
  { spillEnable := flag b 3 0, egressLine := flag b 3 1, pfc := flag b 3 2, pages := u16 b 4, priority := u8 b 6
    reasmWait := u8 b 7, spillOn := u32 b 8, xon := u32 b 12, xoff := u32 b 16, max := u32 b 20, quanta := u16 b 24 }
def cfgOf (d : Dev) (q dir : Nat) : QueueCfg := if dir = 0 then (txQueue d q).cfg else (rxQueue d q).cfg
def depotLen (d : Dev) (q dir : Nat) : Nat := if dir = 0 then (txStore (txQueue d q)).inDepot else (rxStore (rxQueue d q)).inDepot
def spillLen (d : Dev) (q dir : Nat) : Nat := if dir = 0 then (txQueue d q).spill.length else (rxQueue d q).spill.length
/-- Depot pages given to all queues (R235). -/
def depotGiven (d : Dev) : Nat := (d.slots.tx.map (fun e => e.2.cfg.pages)).sum + (d.slots.rx.map (fun e => e.2.cfg.pages)).sum
/-- The watermark order of R237. -/
def watermarksOk (c : QueueCfg) : Bool :=
  decide (c.spillOn ≤ 512 * c.pages) && decide (c.spillOn < c.xon) && decide (c.xon < c.xoff) && decide (c.xoff ≤ c.max)
    && (c.spillEnable || decide (c.xoff ≤ 512 * c.pages))
/-- DEDUCED: DEPOT_FULL answers BAD_ARG and QUEUE_ACTIVE BUSY, as in R244. -/
def queueConfigService : Service where
  opcode := 0x0401
  targets _ _ := [1]
  checks d b :=
    let c := queueCfgOf b
    let q := u16 b 0
    let dir := u8 b 2
    [(!(within 0 4095 q && within 0 1 dir && (dir == 1 || !c.egressLine) && within 0 16128 c.pages && within 0 7 c.priority
        && within 1 64 c.reasmWait), outOfRange),
     (!watermarksOk c, badArg 22),
     (decide (16128 < depotGiven d - (cfgOf d q dir).pages + c.pages), badArg 23),
     (decide (c.pages < pagesFor (depotLen d q dir)), busy 25),
     (c.spillEnable && !filled d d.slots.spillRegion, { status := .uninitialised })]
  run _ b d :=
    let q := u16 b 0
    okay (if u8 b 2 = 0 then settlePressure q (setTxQueue q { txQueue d q with cfg := queueCfgOf b } d)
      else setRxQueue q { rxQueue d q with cfg := queueCfgOf b } d)
def execQueueConfig (mb : Mailbox) : State → Host.Outcome State Fault Refusal := lift (serve queueConfigService mb)

/-- BP_TIME in µs (R242). -/
def bpTimeOf (d : Dev) (q : Nat) : Nat :=
  let x := txQueue d q
  x.bpTime + (if x.backpressure then (nowNs d - x.bpSince) / 1000 else 0)
def queueStatusBody (q dir : Nat) (d : Dev) : List Byte :=
  let slots := if dir = 0 then txSlotsOf d q else rxSlotsOf d q
  let bp := dir == 0 && (txQueue d q).backpressure
  [0] ++ le 1 (b2n bp + 2 * b2n (spillLen d q dir != 0) + 4 * b2n (slots == 0)) ++ le 2 slots ++ le 4 (depotLen d q dir)
    ++ le 4 (spillLen d q dir) ++ le 4 (if dir = 0 then serviceRate d q / rateDen else 0) ++ le 4 (causeOf d (.queue q)).toNat ++ zeros 4
    ++ (List.range 8).flatMap (fun i => le 8 (countOf d (keyQueue q dir i))) ++ le 8 (if dir = 0 then bpTimeOf d q % 2 ^ 48 else 0)
def queueStatusService : Service where
  opcode := 0x0402
  targets _ _ := [1]
  freeze := .never
  checks _ b := [(!(within 0 4095 (u16 b 0) && within 0 1 (u8 b 2)), outOfRange)]
  run _ b d := done (queueStatusBody (u16 b 0) (u8 b 2) d) (clearCause (.queue (u16 b 0)) (flag b 3 0) d)
def execQueueStatus (mb : Mailbox) : State → Host.Outcome State Fault Refusal := lift (serve queueStatusService mb)

/-- A delineation unit arrives at a transmit queue (R237). An Ethernet unit is a descriptor and its frame's words, an SLP unit one
cell of 32 words (R252, R263); other lists are no unit. -/
def unitOk (d : Dev) (q : Nat) (ws : List QWord) : Bool :=
  match groupOf d q, ws with
  | some l, w :: _ =>
    if (group d l).protocol = 2 then ws.length == 32
    else descriptorOk (group d l).maxFrame w && ws.length == 1 + ceilDiv (dLength w) 8
  | _, _ => false
def execQueueWordArrival (q : Queue) (unit : List QWord) : State → Host.Outcome State Fault Refusal :=
  lift fun d => guard (unitOk d q unit && !asleep d) (arriveUnit q unit) d
/-- PAUSE or PFC frames repeat while back-pressure holds (R238). -/
def execPauseRepeat (q : Queue) : State → Host.Outcome State Fault Refusal :=
  lift fun d => guard ((txQueue d q).backpressure && ethQueue d q && !asleep d) (sendPause q) d
/-- REASM_GAP: the oldest run has waited REASM_WAIT; the two paths of a twin tributary are reassembled separately (R233). -/
def reasmGap (q : Nat) (d : Dev) : Dev :=
  match twinOf d true q with
  | some w => gapFillPath w true (gapFillPath w false d)
  | none => gapFill q d
def execReasmGap (q : Queue) : State → Host.Outcome State Fault Refusal :=
  lift fun d => guard (!asleep d) (reasmGap q) d

/-! ## Flush and spill region (R236, R244) -/

/-- Words still held of a unit that has in part been sent, or cut by a leg, at the head of a transmit queue with `cut` words cut, and the units up to
it. Every unit behind is complete. -/
def partialHead : Nat → List (Nat × Bool) → Nat × List (Nat × Bool)
  | _, [] => (0, [])
  | cut, (k, whole) :: t =>
    if cut = 0 && whole then (0, [])
    else if k ≤ cut then ((partialHead (cut - k) t).1, (k, whole) :: (partialHead (cut - k) t).2)
    else (k - cut, [(k, whole)])
/-- A transmit flush removes every complete unit of which no path has taken a word; stream word numbers do not move. -/
def flushTx (q : Nat) (d : Dev) : Nat × Dev :=
  let x := txQueue d q
  let c := claimed d q
  let keep := partialHead (x.cut.length + c) x.units
  let all := (txStore x).all
  let k := c + keep.1
  let n := all.length - k
  (n, regionMoved d (settlePressure q (queueCount q 0 7 n
    (setTxQueue q { withTxStore x { depot := all.take k, spill := [], late := [] } with units := keep.2 } d))))
/-- A receive flush removes every word; the egress restarts as after fill. -/
def flushRx (q : Nat) (d : Dev) : Nat × Dev :=
  let x := rxQueue d q
  let n := (rxStore x).total
  (n, regionMoved d (queueCount q 1 7 n
    (setRxQueue q { withRxStore x { depot := [], spill := [], late := [] } with hunting := true, unitLeft := 0, dropping := false } d)))
def queueFlushService : Service where
  opcode := 0x040A
  targets _ _ := [1]
  checks _ b := [(!(u8 b 0 == 0 && within 0 1 (u8 b 1) && within 0 4095 (u16 b 2)), outOfRange)]
  run _ b d :=
    let r := if u8 b 1 = 0 then flushTx (u16 b 2) d else flushRx (u16 b 2) d
    done (zeros 4 ++ le 8 r.1) r.2
/-- The opcode carries two commands: SELECT 1 is SPILL_CONFIG, any other value is judged as QUEUE_FLUSH. -/
def selects (mb : Nat) (one : Bool) (d : Dev) : Bool := (u8 (reqBody (box d mb)) 0 == 1) == one
def execQueueFlush (mb : Mailbox) : State → Host.Outcome State Fault Refusal :=
  lift fun d => guard (selects mb false d) (serve queueFlushService mb) d

def regionsOverlap (a b : Option (Nat × Nat)) : Bool :=
  match a, b with
  | some (x, n), some (y, m) => decide (x < y + m) && decide (y < x + n)
  | _, _ => false
def spillHeld (d : Dev) : Bool := d.slots.tx.any (fun e => !e.2.spill.isEmpty) || d.slots.rx.any (fun e => !e.2.spill.isEmpty)
/-- The back-pressure of every queue that may spill, after a change of what spilling can do. -/
def settleSpills (d : Dev) : Dev := d.slots.tx.foldl (fun d e => if e.2.cfg.spillEnable then settlePressure e.1 d else d) d
def spillConfigService : Service where
  opcode := 0x040A
  targets _ _ := [1, 5]
  checks d b :=
    let r := some (u8 b 2, u8 b 3)
    [(!(u8 b 0 == 1 && within 1 64 (u8 b 3) && within 0 hbmGib (u8 b 2 + u8 b 3)), outOfRange),
     (regionsOverlap r d.twins.yard, badArg 20),
     (r != d.slots.spillRegion && (d.slots.spillEnable || spillHeld d), busy 25),
     (flag b 1 0 && !filled d r, { status := .uninitialised })]
  run _ b d := okay (settleSpills { d with slots := { d.slots with spillEnable := flag b 1 0, spillRegion := some (u8 b 2, u8 b 3) } })
def execSpillConfig (mb : Mailbox) : State → Host.Outcome State Fault Refusal :=
  lift fun d => guard (selects mb true d) (serve spillConfigService mb) d

end Sys2Proof.Machine
end

