-- ==== Sys2Proof/Machine/Vault.lean ====
section
/-! DEFINITION. The brake block as registers, the vault and its handles, zeroisation, identity, attestation and the tag area
(R314 to R320, R327 to R335, R338, R339). -/

namespace Sys2Proof.Machine

/-! ## The brake block as registers (R332) -/

def brakeLockWord (d : Dev) : Word := d.brakes.lock.setWidth 32
def brakeStatusWord (d : Dev) : Word :=
  pack [(0, b2n (freezeOn d)), (4, d.brakes.last), (8, b2n d.brakes.writeErr), (16, d.brakes.refusals)]
def engBrakeWord (d : Dev) (n : Nat) : Word := pack [(0, launchCap d n), (8, ixtasAirtime d n), (16, ixtasDepth d n)]
/-- The brake register at an offset of the window 0x0007_0000; unused offsets read zero. -/
def brakeWord (d : Dev) (o : Nat) : Word :=
  if o = 0 then brakeLockWord d
  else if o = 4 then brakeStatusWord d
  else if o = 8 then BitVec.ofNat 32 d.brakes.ceilingM1
  else if o = 0xC then BitVec.ofNat 32 d.brakes.minSwapMs
  else if o = 0x10 then pack [(0, b2n d.brakes.hostFreeze)]
  else if 0x100 ≤ o && o < 0x140 then engBrakeWord d ((o - 0x100) / 4)
  else if 0x200 ≤ o && o < 0x500 then
    (let b := (o - 0x200) / 8
     if o % 8 < 4 then pack [(0, biasLow d b), (16, biasHigh d b)] else pack [(0, biasSlewOf d b)])
  else if 0x800 ≤ o && o < 0xA00 then tabGet (fun _ => 0) d.brakes.secure ((o - 0x800) / 4)
  else 0
/-- The bytes of the brake block, 0x0007_0000 to 0x0007_09FF (R317). -/
def brakeBytes (d : Dev) : List Byte := (List.range 640).flatMap (fun i => le 4 (brakeWord d (4 * i)).toNat)

/-! ## Handles (R318) -/

def vaultEntry (d : Dev) (i : Nat) : VaultEntry := tabGet (fun _ => {}) d.trust.vault i
def setVault (i : Nat) (x : VaultEntry) (d : Dev) : Dev :=
  { d with trust := { d.trust with vault := tabPut (fun _ => {}) d.trust.vault i x } }
/-- The handle of an entry. -/
def handleOf (i : Nat) (x : VaultEntry) : Nat := i + 2 ^ 32 * x.generation + 2 ^ 48 * x.attr + 2 ^ 56 * x.kind
/-- The entry a handle names. -/
def findKey (d : Dev) (h : Nat) : Option Nat :=
  let i := h % 4096
  if (vaultEntry d i).used && handleOf i (vaultEntry d i) == h then some i else none
def hostOwned (x : VaultEntry) : Bool := x.attr.testBit 1
/-- The entry, where its KIND is `k` and it serves host requests. -/
def hostKey (d : Dev) (h k : Nat) : Option Nat :=
  match findKey d h with
  | some i => if (vaultEntry d i).kind == k && hostOwned (vaultEntry d i) then some i else none
  | none => none
/-- Entries in use (R338). -/
def vaultUsed (d : Dev) : Nat := (d.trust.vault.filter (fun e => e.2.used)).length
/-- The lowest free entry (DESIGN CHOICE: the manual does not say which). -/
def freeEntry (d : Dev) : Option Nat := (List.range 4096).find? (fun i => !(vaultEntry d i).used)
/-- A new key in the vault: its handle, none if the vault is full, which raises VAULT_FULL (R320, R338). -/
def storeKey (kind attr limit : Nat) (key : BitVec 256) (salt : BitVec 64) (d : Dev) : Option Nat × Dev :=
  match freeEntry d with
  | some i =>
    let x : VaultEntry := { used := true, generation := (vaultEntry d i).generation, kind := kind, attr := attr, key := key, salt := salt, limit := limit }
    (some (handleOf i x), setVault i x d)
  | none => (none, d)
/-- Erase an entry and advance its GENERATION. -/
def eraseKey (i : Nat) (d : Dev) : Dev := setVault i { generation := ((vaultEntry d i).generation + 1) % 2 ^ 16 } d
/-- CEILING_M1 + 1, the usage ceiling (R335). -/
def ceiling (d : Dev) : Nat := d.brakes.ceilingM1 + 1
/-- The effective limit of a vault key (R335). -/
def effectiveLimit (d : Dev) (x : VaultEntry) : Nat := min x.limit (ceiling d)
/-- A further message would exceed the limit (R300). -/
def spent (d : Dev) (i : Nat) : Bool := decide (effectiveLimit d (vaultEntry d i) ≤ (vaultEntry d i).count)
/-- One invocation of a key is used. -/
def useKey (i : Nat) (d : Dev) : Dev := setVault i { vaultEntry d i with count := (vaultEntry d i).count + 1 } d
def pinLow (d : Dev) : Bool := d.pins.zeroizeLow
def vaultFull (d : Dev) : Bool := (freeEntry d).isNone
/-- The refusals of key creation (R320, R327, R335). DEDUCED: the range of a requested usage limit is that of R289. -/
def createChecks (d : Dev) (b : List Byte) : List (Bool × Verdict) :=
  [(!(((u8 b 0 == 2) || (u8 b 0 == 4) || (u8 b 0 == 5)) && within (2 ^ 20) (2 ^ 32) (u64 b 4)), outOfRange),
   (pinLow d, denied 0), (decide (ceiling d < u64 b 4), braked 4)]
def noteFull (v : Verdict) (d : Dev) : Dev := if v = busy 39 then raiseCause .vault 0 d else d
/-- A job refused for its key's limit raises JOB_KEY_EXHAUSTED (R312). -/
def noteSpent (v : Verdict) (d : Dev) : Dev := if v.status = .keyExhausted then raiseCause .job 1 d else d
/-- The answer with a new handle. -/
def handleReply (r : Option Nat × Dev) : Dev × Option Reply := done (zeros 4 ++ le 8 (r.1.getD 0)) r.2

def keyGenerateService : Service where
  opcode := 0x0623
  freeze := .never
  targets _ _ := [1]
  checks d b := createChecks d b ++ [(vaultFull d, busy 39)]
  run _ b d :=
    let (k, d1) := drawKey d
    let (s, d2) := drawFree d1
    handleReply (storeKey (u8 b 0) (u8 b 1 % 2 + 2) (u64 b 4) k s d2)
  refused v _ d := noteFull v d
def execKeyGenerate (mb : Mailbox) : State → Host.Outcome State Fault Refusal := lift (serve keyGenerateService mb)

/-- The 40 bytes key ‖ salt of an entry; key bytes most significant first, salt byte 0 in its low bits. -/
def keyBlob (x : VaultEntry) : List Byte := be 32 x.key.toNat ++ le 8 x.salt.toNat

/-! ## The job engine's slots (R299, R301, R302) -/

def heldBy (d : Dev) (r : Requester) (i : Nat) : Option JobContext :=
  match tabGet (fun _ => none) d.cipher.contexts i with
  | some (s, x) => if s = r then some x else none
  | none => none
def putContext (i : Nat) (v : Option (Requester × JobContext)) (d : Dev) : Dev :=
  { d with cipher := { d.cipher with contexts := tabPut (fun _ => none) d.cipher.contexts i v } }
/-- A slot for a host job: free among 0 to 4, the host holding fewer than four; the lowest (DESIGN CHOICE). -/
def hostSlot (d : Dev) : Option Nat :=
  if 4 ≤ ((List.range 8).filter (fun i => (heldBy d .host i).isSome)).length then none
  else (List.range 5).find? (fun i => (tabGet (fun _ => none) d.cipher.contexts i).isNone)
def slotFree (d : Dev) (i : Nat) : Bool := (tabGet (fun _ => none) d.cipher.contexts i).isNone
/-- The slot that a job of its own of the device finds: 7 for IXTAS, 6 for VAULT, for FIRMWARE 5 or one of 0 to 4. -/
def innerSlot (d : Dev) : Requester → Option Nat
  | .ixtas => if slotFree d 7 then some 7 else none
  | .vault => if slotFree d 6 then some 6 else none
  | .firmware => if slotFree d 5 then some 5 else (List.range 5).find? (slotFree d)
  | .host => none
/-- A job enters the engine, behind those that arrived before it. -/
def addJob (j : CipherJob) (d : Dev) : Dev := { d with cipher := { d.cipher with jobs := d.cipher.jobs ++ [j], jobNumber := d.cipher.jobNumber + 1 } }
/-- The context of a job of the device itself, whose chaining state nothing reads. -/
def innerContext (r : Requester) : JobContext := { mode := match r with | .vault => 3 | .firmware => 2 | _ => 0, op := 0, handle := 0 }
/-- The first job that waits for a slot and finds one takes it; it counts as arriving now (R301). -/
def giveSlot (d : Dev) : Dev :=
  match d.cipher.jobs.find? (fun j => j.slot.isNone && (innerSlot d j.requester).isSome) with
  | some j =>
    let s := (innerSlot d j.requester).getD 0
    putContext s (some (j.requester, innerContext j.requester))
      { d with cipher := { d.cipher with jobs := d.cipher.jobs.filter (fun k => k.number != j.number) ++ [{ j with slot := some s }] } }
  | none => d
/-- A job of IXTAS (priority 3), VAULT (2) or FIRMWARE of `n` blocks. DESIGN CHOICE: its output serves the step that needs it, while the engine goes through
its blocks in the cycles that follow, ahead of the host's jobs; a FIRMWARE job, which a key confirmation's CMAC is, has priority 2. -/
def innerJob (r : Requester) (n : Nat) (d : Dev) : Dev :=
  giveSlot (addJob { number := d.cipher.jobNumber, requester := r, priority := if r = .ixtas then 3 else 2, left := max 1 n } d)
def unwrapBlob (d : Dev) (b : List Byte) : Option (List Byte) :=
  match hostKey d (u64 b 12) 4 with
  | some i => kwUnwrap (vaultEntry d i).key (part b 20 48)
  | none => none
def keyImportService : Service where
  opcode := 0x0624
  freeze := .never
  targets _ _ := [1]
  checks d b := createChecks d b ++
    [((hostKey d (u64 b 12) 4).isNone, badArg 30), ((unwrapBlob d b).isNone, denied 0), (vaultFull d, busy 39)]
  run _ b d :=
    let p := (unwrapBlob d b).getD []
    handleReply (storeKey (u8 b 0) (u8 b 1 % 2 + 2) (u64 b 4) (BitVec.ofNat 256 (beNat (part p 0 32))) (BitVec.ofNat 64 (u64 p 32))
      (innerJob .vault 3 d))
  refused v _ d := noteFull v (if v = denied 0 && !pinLow d then innerJob .vault 3 d else d)
def execKeyImport (mb : Mailbox) : State → Host.Outcome State Fault Refusal := lift (serve keyImportService mb)

/-- DEDUCED: any host-owned key may be named for export; only EXPORTABLE decides. The wrap is a job of the vault and uses one
invocation of the KEK (R299, R300). -/
def hostAny (d : Dev) (h : Nat) : Option Nat :=
  match findKey d h with
  | some i => if hostOwned (vaultEntry d i) then some i else none
  | none => none
def keyExportService : Service where
  opcode := 0x0625
  freeze := .never
  targets _ _ := [1]
  checks d b :=
    [((hostAny d (u64 b 0)).isNone || (hostKey d (u64 b 8) 4).isNone, badArg 30),
     (!(vaultEntry d ((hostAny d (u64 b 0)).getD 0)).attr.testBit 0, denied 35),
     (spent d ((hostKey d (u64 b 8) 4).getD 0), { status := .keyExhausted })]
  run _ b d :=
    let x := vaultEntry d ((hostAny d (u64 b 0)).getD 0)
    let i := (hostKey d (u64 b 8) 4).getD 0
    done (zeros 4 ++ kwWrap (vaultEntry d i).key (keyBlob x)) (innerJob .vault 3 (useKey i d))
  refused v _ d := noteSpent v d
def execKeyExport (mb : Mailbox) : State → Host.Outcome State Fault Refusal := lift (serve keyExportService mb)

def keyDestroyService : Service where
  opcode := 0x0626
  freeze := .never
  targets _ _ := [1]
  checks d b := [((hostAny d (u64 b 0)).isNone, badArg 30)]
  run _ b d := okay (eraseKey ((hostAny d (u64 b 0)).getD 0) d)
def execKeyDestroy (mb : Mailbox) : State → Host.Outcome State Fault Refusal := lift (serve keyDestroyService mb)

/-- The derived KEK bytes: label "KEK", context the request. -/
def kekBytes (b : List Byte) (i n : Nat) : List Byte := (List.range n).map (fun j => Config.deriveKey [0x4B, 0x45, 0x4B] b (i + j))
/-- DEDUCED: a KEK has the greatest usage limit, since the request names none. -/
def kekEstablishService : Service where
  opcode := 0x0627
  freeze := .never
  targets _ _ := [1]
  checks d _ := [(d.trust.identityErased, denied 38), (pinLow d, denied 0), (vaultFull d, busy 39)]
  run _ b d := handleReply (storeKey 4 2 (2 ^ 32) (BitVec.ofNat 256 (beNat (kekBytes b 0 32))) (BitVec.ofNat 64 (leNat (kekBytes b 32 8))) d)
  refused v _ d := noteFull v d
def execKekEstablish (mb : Mailbox) : State → Host.Outcome State Fault Refusal := lift (serve kekEstablishService mb)

/-! ## Zeroisation (R297, R327, R328) -/

/-- A sent frame's remaining segments are blanked: how many had gone is not stated, a free value (R297). -/
def blankFrame (v : Nat) (x : FrameTx) : FrameTx :=
  match x.sent with
  | some f => if f.key.isSome then { x with sent := some { f with zeroFrom := min f.zeroFrom (v % 5) } } else x
  | none => x
/-- Every lane key slot and job context slot is emptied. -/
def emptyLanes (d : Dev) : Dev :=
  let (v, d1) := drawFree d
  { d1 with
    cipher := { d1.cipher with
      tx := tabMap (fun _ => {}) (fun _ x => { x with slot0 := none, slot1 := none, current := none }) d1.cipher.tx
      rx := tabMap (fun _ => {}) (fun _ x => { x with slot0 := none, slot1 := none }) d1.cipher.rx
      contexts := [], jobs := (d.cipher.jobs.filter (·.requester == .host)).map (fun j => { j with kept := none, left := 0, erased := true }) }
    frames := { d1.frames with tx := tabMap (fun _ => {}) (fun _ => blankFrame v.toNat) d1.frames.tx } }
/-- Every vault entry and the device wrapping key are erased; ZEROIZED (R328). DEDUCED: what R327 says of the next reset concerns the wrapping key,
which only a reset draws anew: what needs none is served again as soon as the pin is high. -/
def zeroizeVault (d : Dev) : Dev :=
  let d1 := (List.range 4096).foldl (fun d i => if (vaultEntry d i).used then eraseKey i d else d) d
  raiseCause .vault 1 { d1 with trust := { d1.trust with wrapping := none, zeroized := true } }
def zeroizeAll (d : Dev) : Dev := zeroizeVault (emptyLanes d)
/-- ZEROIZE_N: low for 1 µs erases everything, identity keys too; a rise only shows in ZEROIZE_PIN (R327). The pin is not sampled
in OFF. -/
def execZeroizeN (low : Bool) : State → Host.Outcome State Fault Refusal :=
  lift fun d =>
    let d1 := { d with pins := { d.pins with zeroizeLow := low } }
    if low && d.power.state != .off then
      (let d2 := zeroizeAll d1
       { d2 with trust := { d2.trust with identityErased := true } })
    else d1
def zeroizeService : Service where
  opcode := 0x062B
  freeze := .never
  checks _ b := [(u8 b 0 != 0, outOfRange)]
  run _ _ d := okay (zeroizeAll d)
def execZeroize (mb : Mailbox) : State → Host.Outcome State Fault Refusal := lift (serve zeroizeService mb)

/-! ## Certificates, attestation, SVN (R314 to R317) -/

def certBytes (c o : Nat) : Nat → List Byte
  | 0 => []
  | n + 1 => Config.certByte c o :: certBytes c (o + 1) n
/-- The part of a certificate that a read returns; DESIGN CHOICE: bytes beyond its end are left out. -/
def certPart (b : List Byte) : List Byte :=
  let total := (Config.certLength (u8 b 0)).toNat
  certBytes (u8 b 0) (u32 b 4) (min (u32 b 8) (total - u32 b 4))
def secCertReadService : Service where
  opcode := 0x0621
  freeze := .never
  checks _ b := [(!(within 0 5 (u8 b 0) && within 0 4000 (u32 b 8)), outOfRange)]
  run _ b d := done (zeros 4 ++ le 4 (Config.certLength (u8 b 0)).toNat ++ certPart b) d
def execSecCertRead (mb : Mailbox) : State → Host.Outcome State Fault Refusal := lift (serve secCertReadService mb)

/-- A byte of the user tag area (R329): as written here, else as supplied. -/
def tagLine (d : Dev) (l : Nat) : List Byte :=
  match tabGet (fun _ => none) d.trust.tagLines l with
  | some bs => bs
  | none => (List.range 64).map (fun i => if Config.tagWrites l = 0 then 0xFF else Config.tagByte (64 * l + i))
def tagArea (d : Dev) : List Byte := (List.range 64).flatMap (tagLine d)
/-- The report (R317). -/
def reportBytes (d : Dev) (nonce : List Byte) : List Byte :=
  le 4 1 ++ le 4 d.trust.reportCount ++ nonce ++ le 8 (nowNs d) ++ be 48 d.fw.running.digest.toNat ++ le 4 d.fw.running.version.toNat
    ++ le 1 d.fw.running.svn.toNat ++ le 1 d.trust.svnFloor.toNat ++ le 1 Config.bootRomVersion.toNat
    ++ le 1 (b2n (freezeOn d) + 2 * b2n d.fw.fallback + 4 * b2n d.trust.zeroized) ++ le 4 (brakeLockWord d).toNat ++ zeros 4
    ++ digest (brakeBytes d) ++ be 48 ownFingerprint.toNat ++ digest (tagArea d)
def signature (f : List Byte → Nat → Byte) (m : List Byte) (i n : Nat) : List Byte := (List.range n).map (fun j => f m (i + j))
def reportOf (d : Dev) (id : Nat) : Option Report := d.trust.reports.find? (fun r => r.ident == id)
/-- REPORT_ID counts the reports since reset from 0 (DESIGN CHOICE); the four most recent are kept. -/
def attest (b : List Byte) (d : Dev) : Dev × Option Reply :=
  if u8 b 0 = 0 then
    let r := reportBytes d (part b 8 32)
    done (zeros 4 ++ r ++ signature Config.ecdsaSign r 0 96)
      { d with trust := { d.trust with reports := ({ ident := d.trust.reportCount, bytes := r } :: d.trust.reports).take 4
                                       reportCount := d.trust.reportCount + 1 } }
  else
    let r := match reportOf d (u32 b 4) with | some r => r.bytes | none => []
    done (zeros 4 ++ (if u8 b 0 = 1 then signature Config.mldsaSign r 0 2048 else signature Config.mldsaSign r 2048 2579)) d
def secAttestService : Service where
  opcode := 0x0622
  freeze := .never
  checks d b :=
    [(!within 0 2 (u8 b 0), outOfRange), (d.trust.identityErased, denied 38),
     (u8 b 0 != 0 && (reportOf d (u32 b 4)).isNone, outOfRange)]
  run _ b d := attest b d
def execSecAttest (mb : Mailbox) : State → Host.Outcome State Fault Refusal := lift (serve secAttestService mb)

/-- SVN_COMMIT raises the floor to the SVN of the running image; it never falls (R316). -/
def svnCommitService : Service where
  opcode := 0x062E
  freeze := .never
  run _ _ d :=
    let f := if d.trust.svnFloor.toNat < d.fw.running.svn.toNat then d.fw.running.svn else d.trust.svnFloor
    done (zeros 4 ++ le 1 f.toNat) { d with trust := { d.trust with svnFloor := f } }
def execSvnCommit (mb : Mailbox) : State → Host.Outcome State Fault Refusal := lift (serve svnCommitService mb)

/-! ## The user tag area (R329) -/

def tagWritesOf (d : Dev) (l : Nat) : Nat := tabGet (fun l => (Config.tagWrites l).toNat) d.trust.tagWrites l
def tagWriteService : Service where
  opcode := 0x062C
  freeze := .never
  checks d b :=
    [(!within 0 63 (u8 b 0), outOfRange), (d.trust.tagLocked.getLsbD (u8 b 0), denied 36), (decide (1000 ≤ tagWritesOf d (u8 b 0)), denied 37)]
  run _ b d :=
    let l := u8 b 0
    let n := tagWritesOf d l + 1
    done (zeros 4 ++ le 2 (1000 - n))
      { d with trust := { d.trust with tagLines := tabPut (fun _ => none) d.trust.tagLines l (some (part b 4 64))
                                       tagWrites := tabPut (fun l => (Config.tagWrites l).toNat) d.trust.tagWrites l n } }
def execTagWrite (mb : Mailbox) : State → Host.Outcome State Fault Refusal := lift (serve tagWriteService mb)
def tagLockService : Service where
  opcode := 0x062D
  freeze := .never
  checks _ b := [(!within 0 63 (u8 b 0), outOfRange)]
  run _ b d := okay { d with trust := { d.trust with tagLocked := d.trust.tagLocked ||| BitVec.twoPow 64 (u8 b 0) } }
def execTagLock (mb : Mailbox) : State → Host.Outcome State Fault Refusal := lift (serve tagLockService mb)

end Sys2Proof.Machine
end

