-- ==== Sys2Proof/Machine/Cipher.lean ====
section
/-! DEFINITION. Line cipher configuration and key slots, and the cipher job engine (R281 to R312). -/

namespace Sys2Proof.Machine

/-! ## Counts and causes of a coach (R310, R313) -/

/-- Count `i` of R310: 0 SEGMENTS_OK to 10 HOLD_FRAMES_RX. -/
def cipherCount (c i n : Nat) (d : Dev) : Dev := bump (keyCoach c (15 + i)) n d
/-- Event `e` of R313 in the counters of the coach's lane. -/
def laneCipherTally (c e n : Nat) (d : Dev) : Dev := tally (8 + engineOf c) e c n d
def cipherCause (c b : Nat) (d : Dev) : Dev := raiseCause (.cipherCoach c) b d

/-! ## CIPHER_CONFIG (R285, R289, R308) -/

/-- The transmit pages of a coach's engine that are active or armed place a secure tributary on the coach. -/
def secureOnTx (d : Dev) (c : Nat) : Bool :=
  let x := engineSwap d (engineOf c)
  let on (p : Bool) : Bool := (List.range 40).any (fun j => carriesSecure d (entry (txPage d p) c j))
  on x.active1 || (x.armed.isSome && on (!x.active1))
/-- The receive pages of a coach that are active or armed map slots to a secure tributary. -/
def secureOnRx (d : Dev) (c : Nat) : Bool :=
  let x := coachSwap d c
  let on (p : Bool) : Bool := (List.range 40).any (fun j =>
    let w := entry (rxPage d p) c j
    entKind w == 1 && secureQueue d (entQueue w))
  on x.rxPage1 || (x.armed.isSome && on (!x.rxPage1))
/-- The cipher brake on a change to mode 0. -/
def cipherBrake (d : Dev) (c dir : Nat) : Bool :=
  if dir = 0 then (cipherTx d c).modeNext && secureOnTx d c else (cipherRx d c).modeNext && secureOnRx d c
/-- DEDUCED: MISMATCH_FRAMES is receive only, so a transmit request's value is not judged. -/
def cipherConfigService : Service where
  opcode := 0x0601
  targets _ _ := [1]
  checks d b :=
    [(!(within 0 255 (u16 b 0) && within 0 1 (u8 b 2) && within 0 1 (u8 b 3) && within (2 ^ 20) (2 ^ 32) (u64 b 4)
        && within 50 99 (u8 b 12) && (u8 b 2 == 0 || within 1 1024 (u16 b 14))), outOfRange),
     (decide (ceiling d < u64 b 4), braked 4),
     (u8 b 3 == 0 && cipherBrake d (u16 b 0) (u8 b 2), braked 3)]
  run _ b d :=
    let c := u16 b 0
    let m := u8 b 3 == 1
    let t := cipherTx d c
    let r := cipherRx d c
    okay (useFlip 5 <| if u8 b 2 = 0 then
        setCipherTx c { t with modeNext := m, mode := if (coachTx d c).framesRun then t.mode else m, limit := u64 b 4, warn := u8 b 12 } d
      else setCipherRx c { r with modeNext := m, mode := if (frameRx d c).frame.isSome then r.mode else m, limit := u64 b 4
                                  warn := u8 b 12, mismatch := u16 b 14 } d)
def execCipherConfig (mb : Mailbox) : State → Host.Outcome State Fault Refusal := lift (serve cipherConfigService mb)

/-! ## Key slots (R286, R287) -/

def txSlot (x : CipherTx) (i : Nat) : Option KeySlot := if i = 0 then x.slot0 else x.slot1
/-- A key as it is stored under an armed flip mask: its first word XOR the mask, or, where that is uncorrectable, an empty slot (R424, R430). -/
def hitKey (m : BitVec 72) (k : KeySlot) : Option KeySlot :=
  if m = 0 then some k else (readFlipped m (k.key.setWidth 64)).map (fun v => { k with key := ((k.key >>> 64) <<< 64) ||| v.setWidth 256 })
def putTxSlot (i : Nat) (k : Option KeySlot) (x : CipherTx) : CipherTx := if i = 0 then { x with slot0 := k } else { x with slot1 := k }
def rxSlot (x : CipherRx) (i : Nat) : Option KeySlot := if i = 0 then x.slot0 else x.slot1
def putRxSlot (i : Nat) (k : Option KeySlot) (x : CipherRx) : CipherRx := if i = 0 then { x with slot0 := k } else { x with slot1 := k }
/-- The slot that is not current: the one a transmit load goes to; slot 0 where no key has come into use (DESIGN CHOICE). -/
def nextSlot (x : CipherTx) : Nat := match x.current with | some i => 1 - i.val | none => 0
/-- The count from which a load is judged, and its modulus: on transmit the present frame's, 0 on a coach that sends no frames
(DESIGN CHOICE); on receive the last delivered, none before the first. -/
def loadBase (d : Dev) (c dir : Nat) : Option Nat :=
  if dir = 0 then some (if (coachTx d c).framesRun then modSub (fcMod (coachTx d c).cfg.version) (frameTx d c).next 1 else 0)
  else (frameRx d c).delivered
def loadMod (d : Dev) (c dir : Nat) : Nat :=
  if dir = 0 then fcMod (coachTx d c).cfg.version
  else match (frameRx d c).last with | some h => fcMod h.version | none => fcMod (coachRx d c).version
/-- Frames from the base to START_FC. -/
def loadLead (d : Dev) (c dir start : Nat) : Nat :=
  match loadBase d c dir with
  | some f => modSub (loadMod d c dir) start f
  | none => 64
/-- The slot a load goes to, and the key pending there. -/
def loadSlot (d : Dev) (b : List Byte) : Nat := if u8 b 2 = 0 then nextSlot (cipherTx d (u16 b 0)) else u8 b 3
/-- A pending key in the slot will come into use within 64 frames. -/
def pendingClose (d : Dev) (c dir i : Nat) : Bool :=
  let k := if dir = 0 then txSlot (cipherTx d c) i else rxSlot (cipherRx d c) i
  match k, loadBase d c dir with
  | some k, some f =>
    let n := modSub (loadMod d c dir) k.startFc f
    decide (n < 64) && (dir == 0 || decide (0 < n))
  | _, _ => false
/-- The key slot that a vault entry gives (R287). -/
def keySlotOf (x : VaultEntry) (start limit : Nat) : KeySlot := { key := x.key, salt := x.salt, startFc := start, limit := limit }
/-- DEDUCED: a load fewer than 64 frames ahead, or past, is TOO_LATE; one more than 2²⁶ ahead is FIELD_RANGE; a transmit request
with a KEY_INDEX is FIELD_RANGE as for any reserved field. -/
def cipherKeyLoadService : Service where
  opcode := 0x0602
  targets _ _ := [1]
  checks d b :=
    let c := u16 b 0
    let dir := u8 b 2
    let lead := loadLead d c dir (u64 b 16)
    let past := decide (loadMod d c dir ≤ 2 * lead)
    [(!(within 0 255 c && within 0 1 dir && within 0 1 (u8 b 3)), outOfRange),
     (pinLow d, denied 0),
     ((hostKey d (u64 b 8) 2).isNone, badArg 30),
     (decide (lead < 64) || past, badArg 13),
     (decide (2 ^ 26 < lead), outOfRange),
     (pendingClose d c dir (loadSlot d b), badArg 13),
     (dir == 1 && (frameRx d c).delivered.isSome && (cipherRx d c).lastSlot == some (u8 b 3), badArg 31)]
  run _ b d :=
    let c := u16 b 0
    let x := vaultEntry d ((hostKey d (u64 b 8) 2).getD 0)
    okay (useFlip 5 <| if u8 b 2 = 0 then
        setCipherTx c (putTxSlot (loadSlot d b) (hitKey (flipMaskFor 5 d) (keySlotOf x (u64 b 16) (cipherTx d c).limit)) (cipherTx d c)) d
      else setCipherRx c (putRxSlot (u8 b 3) (hitKey (flipMaskFor 5 d) (keySlotOf x (u64 b 16) (cipherRx d c).limit)) (cipherRx d c)) d)
def execCipherKeyLoad (mb : Mailbox) : State → Host.Outcome State Fault Refusal := lift (serve cipherKeyLoadService mb)

/-! ## CIPHER_STATUS (R310) -/

/-- TX_STATE. DEDUCED: a coach that is not lit sends nothing and reads 0. -/
def cipherTxState (lit : Bool) (x : CipherTx) : Nat := if lit && x.mode then (if x.hold then 2 else 1) else 0
def slotBits (s0 s1 : Option KeySlot) (i : Nat) : Nat := b2n s0.isSome + 2 * b2n s1.isSome + 4 * (i % 2)
def startOf (k : Option KeySlot) : Nat := (k.map (·.startFc)).getD 0
def cipherStatusBody (c : Nat) (d : Dev) : List Byte :=
  let t := cipherTx d c
  let r := cipherRx d c
  [0] ++ le 1 (cipherTxState (litCoach d c) t) ++ le 1 (slotBits t.slot0 t.slot1 ((t.current.map (·.val)).getD 0))
    ++ le 1 (slotBits r.slot0 r.slot1 (r.lastSlot.getD 0)) ++ le 4 t.invocation ++ le 8 (startOf (txSlot t (nextSlot t)))
    ++ le 8 (startOf r.slot0) ++ le 8 (startOf r.slot1) ++ le 4 (causeOf d (.cipherCoach c)).toNat ++ zeros 4
    ++ (List.range 11).flatMap (fun i => le 8 (countOf d (keyCoach c (15 + i))))
def cipherStatusService : Service where
  opcode := 0x0603
  targets _ _ := [1]
  freeze := .never
  checks _ b := [(!within 0 255 (u16 b 0), outOfRange)]
  run _ b d := done (cipherStatusBody (u16 b 0) d) (clearCause (.cipherCoach (u16 b 0)) (flag b 2 0) d)
def execCipherStatus (mb : Mailbox) : State → Host.Outcome State Fault Refusal := lift (serve cipherStatusService mb)

/-! ## Job contexts (R302 to R304) -/

/-- The 104 clear bytes of a context (R303). PARTIAL_LEN 0 with payload beside it stands for a full block that CMAC keeps back
(DEDUCED: the manual's length has no 16). -/
def contextBytes (x : JobContext) : List Byte :=
  le 1 x.mode ++ le 1 x.op ++ le 1 x.phase ++ le 1 (x.part.length % 16) ++ le 4 x.invocation ++ le 8 x.handle ++ cipherBytes x.j0
    ++ cipherBytes x.counter ++ cipherBytes x.acc ++ (x.part ++ zeros (16 - x.part.length)) ++ le 8 x.aadBits ++ le 8 x.dataBits
    ++ le 8 x.serial
def contextOf (b : List Byte) : JobContext :=
  let n := if u8 b 0 = 2 && u8 b 3 = 0 && u64 b 88 != 0 then 16 else u8 b 3
  { mode := u8 b 0, op := u8 b 1, phase := u8 b 2, invocation := u32 b 4, handle := u64 b 8, j0 := cipherBlock (part b 16 16)
    counter := cipherBlock (part b 32 16), acc := cipherBlock (part b 48 16), part := part b 64 n, aadBits := u64 b 80
    dataBits := u64 b 88, serial := u64 b 96 }
/-- Wrap and unwrap under the device wrapping key. -/
def wrapContext (d : Dev) (x : JobContext) : List Byte :=
  match d.trust.wrapping with
  | some k => [1] ++ zeros 7 ++ kwWrap k (contextBytes x)
  | none => zeros 120
def unwrapContext (d : Dev) (b : List Byte) : Option JobContext :=
  match d.trust.wrapping with
  | some k => if part b 0 8 = [1] ++ zeros 7 then (kwUnwrap k (part b 8 112)).map contextOf else none
  | none => none
/-- A wrapped context that may be restored: its serial is outstanding. -/
def restorable (d : Dev) (b : List Byte) : Option JobContext :=
  match unwrapContext d b with
  | some x => if d.cipher.serials.contains x.serial then some x else none
  | none => none
/-- A slot that the host holds between the parts of a message: no job of its own is in the engine. -/
def heldIdle (d : Dev) (i : Nat) : Option JobContext := if d.cipher.jobs.any (·.slot == some i) then none else heldBy d .host i

/-! ## Modes over parts (R299, R300, R305) -/

/-- Full blocks into GHASH; the rest is kept. -/
def absorb (h : Block16) (acc : Block16) (held bs : List Byte) : Block16 × List Byte :=
  let all := held ++ bs
  let n := all.length / 16 * 16
  (ghash h acc (all.take n), all.drop n)
/-- Pad and absorb what is kept. -/
def flushHeld (h acc : Block16) (held : List Byte) : Block16 := if held.isEmpty then acc else ghash h acc held
/-- The counter block `n` steps on. -/
def counterOn : Nat → Block16 → Block16
  | 0, c => c
  | n + 1, c => counterOn n (inc32 c)
/-- Counter mode where `used` bytes of the first keystream block are spent. -/
def ctrPart (key : BitVec 256) (c : Block16) (used : Nat) (bs : List Byte) : List Byte := (ctrMode key c (zeros used ++ bs)).drop used
/-- What a part of a job yields: the context after it, the output, the tag and whether a verification passed. -/
structure PartResult where
  ctx : JobContext
  out : List Byte := []
  tag : List Byte := zeros 16
  verdict : Nat := 0
/-- DEDUCED: every payload byte yields its output byte in the same part. -/
def gcmPart (key : BitVec 256) (x : JobContext) (aad data : List Byte) (last : Bool) (tag : List Byte) : PartResult :=
  let h := aes256 key 0
  let a := absorb h x.acc x.part aad
  let toData := x.phase == 0 && (!data.isEmpty || last)
  let acc0 := if x.phase = 1 then x.acc else if toData then flushHeld h a.1 a.2 else a.1
  let part0 := if x.phase = 1 then x.part else if toData then [] else a.2
  let used := x.dataBits / 8 % 16
  let out := ctrPart key x.counter used data
  let e := absorb h acc0 part0 (if x.op = 0 then out else data)
  let y := { x with phase := if toData then 1 else x.phase, acc := if data.isEmpty then acc0 else e.1
                    part := if data.isEmpty then part0 else e.2, counter := counterOn ((used + data.length) / 16) x.counter
                    aadBits := x.aadBits + 8 * aad.length, dataBits := x.dataBits + 8 * data.length }
  let lens := cipherBlock (be 8 y.aadBits ++ be 8 y.dataBits)
  let t := cipherBytes (gfMul (flushHeld h y.acc y.part ^^^ lens) h ^^^ aes256 key x.j0)
  { ctx := y, out := out, tag := if last && x.op == 0 then t else zeros 16
    verdict := if last && x.op == 1 then (if t = tag then 1 else 2) else 0 }
/-- DESIGN CHOICE: the bytes of the unfinished block that a CTR context holds are those of the input. -/
def ctrJob (key : BitVec 256) (x : JobContext) (data : List Byte) : PartResult :=
  let used := x.dataBits / 8 % 16
  { ctx := { x with phase := 1, counter := counterOn ((used + data.length) / 16) x.counter, dataBits := x.dataBits + 8 * data.length
                    part := (x.part ++ data).drop ((x.part.length + data.length) / 16 * 16) }
    out := ctrPart key x.counter used data }
def cmacPart (key : BitVec 256) (x : JobContext) (data : List Byte) (last : Bool) (tag : List Byte) : PartResult :=
  let all := x.part ++ data
  let n := (all.length - 1) / 16 * 16
  let acc := (cipherBlocks (all.take n)).foldl (fun a b => aes256 key (a ^^^ cipherBlock b)) x.acc
  let y := { x with phase := 1, acc := acc, part := all.drop n, dataBits := x.dataBits + 8 * data.length }
  let t := cipherBytes (cmacLast key acc y.part)
  { ctx := y, tag := if last && x.op == 0 then t else zeros 16, verdict := if last && x.op == 1 then (if t = tag then 1 else 2) else 0 }
/-- DEDUCED: an unwrap that fails its check returns no output. -/
def wrapPart (key : BitVec 256) (x : JobContext) (data : List Byte) : PartResult :=
  if x.op = 0 then { ctx := x, out := kwWrap key data }
  else match kwUnwrap key data with
    | some o => { ctx := x, out := o, verdict := 1 }
    | none => { ctx := x, verdict := 2 }
def runPart (key : BitVec 256) (x : JobContext) (aad data : List Byte) (last : Bool) (tag : List Byte) : PartResult :=
  if x.mode = 0 then gcmPart key x aad data last tag
  else if x.mode = 1 then ctrJob key x data
  else if x.mode = 2 then cmacPart key x data last tag
  else wrapPart key x data
/-- The context a first part starts with; `iv` is the engine's for encryption, the requester's for decryption. DEDUCED: CTR
decryption takes its IV from the same field as GCM decryption, since the engine builds none for it. -/
def newContext (mode op handle inv : Nat) (iv : List Byte) : JobContext :=
  { mode := mode, op := op, handle := handle, invocation := inv
    j0 := if mode = 0 then preCounter iv else 0
    counter := if mode = 0 then inc32 (preCounter iv) else if mode = 1 then preCounter iv else 0 }

/-! ## CIPHER_JOB (R311) -/

def jobFirst (b : List Byte) : Bool := flag b 3 0
def jobLast (b : List Byte) : Bool := flag b 3 1
def jobIn (b : List Byte) : Bool := flag b 3 2
def jobSave (b : List Byte) : Bool := flag b 3 3
def jobKeep (b : List Byte) : Bool := flag b 3 4
/-- A key for a host job: any host-owned handle but a line key (R299). -/
def jobKey (d : Dev) (h : Nat) : Option Nat :=
  match findKey d h with
  | some i => if hostOwned (vaultEntry d i) && (vaultEntry d i).kind != 2 then some i else none
  | none => none
/-- The context that a later part continues. -/
def continued (d : Dev) (b : List Byte) : Option JobContext :=
  if jobIn b then restorable d (part b 64 120) else heldIdle d (u8 b 4)
def jobHandle (d : Dev) (b : List Byte) : Nat :=
  if jobFirst b then u64 b 8 else match continued d b with | some x => x.handle | none => 0
/-- Flags and lengths that fit no message. DEDUCED: a part has exactly one source (FIRST, CTX_IN or a slot), a part with LAST keeps
nothing, and a wrap whose output would not fit the body is refused. -/
def jobShape (b : List Byte) : Bool :=
  let sources := b2n (jobFirst b) + b2n (jobIn b) + b2n (u8 b 4 != 0xFF)
  sources == 1 && !(jobLast b && (jobSave b || jobKeep b)) && !(jobSave b && jobKeep b)
    && (u8 b 0 == 0 || u16 b 48 == 0)
    && (u8 b 0 != 3 || (jobFirst b && jobLast b && u16 b 50 % 8 == 0 && decide (16 ≤ u16 b 50) && (u8 b 1 == 1 || decide (u16 b 50 ≤ 3888))))
/-- A later part names the message's own mode and operation, and no additional data follows payload. -/
def jobFits (d : Dev) (b : List Byte) : Bool :=
  if jobFirst b then true
  else match continued d b with
    | some x => x.mode == u8 b 0 && x.op == u8 b 1 && (x.phase == 0 || u16 b 48 == 0)
    | none => true
/-- The serials outstanding once the part's own restore is done. -/
def serialsAfter (d : Dev) (b : List Byte) : List Nat :=
  if jobIn b then d.cipher.serials.erase ((continued d b).map (·.serial) |>.getD 0) else d.cipher.serials
def jobChecks (d : Dev) (b : List Byte) : List (Bool × Verdict) :=
  [(!(within 0 3 (u8 b 0) && within 0 1 (u8 b 1) && within 0 1 (u8 b 2) && (within 0 7 (u8 b 4) || u8 b 4 == 0xFF)), outOfRange),
   (!jobShape b, badArg 34),
   (jobIn b && (continued d b).isNone, denied 33),
   (!jobFirst b && !jobIn b && (continued d b).isNone, badArg 32),
   (!jobFits d b, badArg 34),
   ((jobKey d (jobHandle d b)).isNone, badArg 30),
   (jobFirst b && u8 b 1 == 0 && spent d ((jobKey d (jobHandle d b)).getD 0), { status := .keyExhausted }),
   ((jobFirst b || jobIn b) && (hostSlot d).isNone, busy 32),
   (jobSave b && decide (64 ≤ (serialsAfter d b).length), busy 32)]
/-- The context a part runs on, and the device after its invocation and restore. -/
def openJob (b : List Byte) (i : Nat) (d : Dev) : JobContext × Dev :=
  if jobFirst b then
    let k := vaultEntry d i
    if u8 b 1 = 0 then (newContext (u8 b 0) 0 (u64 b 8) k.count (ivOf k.salt k.count), useKey i d)
    else (newContext (u8 b 0) 1 (u64 b 8) 0 (part b 16 12), d)
  else ((continued d b).getD { mode := 0, op := 0, handle := 0 }, { d with cipher := { d.cipher with serials := serialsAfter d b } })
/-- IV_OUT: the IV that the engine built. -/
def ivOut (k : VaultEntry) (x : JobContext) : List Byte := if x.op = 0 && x.mode != 2 then ivOf k.salt x.invocation else zeros 12
/-- The slot a part used. -/
def slotUsed (d : Dev) (b : List Byte) : Nat := if u8 b 4 = 0xFF then (hostSlot d).getD 0 else u8 b 4
/-- What becomes of the context at the end of a part: the device with a serial taken for a save, what stays in the slot, CTX_SLOT and WRAPPED_CTX. -/
def closeJob (b : List Byte) (s : Nat) (x : JobContext) (d : Dev) : Dev × Option JobContext × Nat × List Byte :=
  if jobSave b then
    let y := { x with serial := d.cipher.nextSerial }
    ({ d with cipher := { d.cipher with serials := d.cipher.serials ++ [y.serial], nextSerial := d.cipher.nextSerial + 1 } }, none, 0xFF, wrapContext d y)
  else if jobKeep b then (d, some x, s, zeros 120)
  else (d, none, 0xFF, zeros 120)
/-- A context written into its slot XOR a flip mask, as the part that goes on from it reads it (R424, R430). DESIGN CHOICE: the word hit is the lower
half of the accumulator. -/
def hitContext (m : BitVec 72) (x : JobContext) : JobContext :=
  if m = 0 then x else match readFlipped m (x.acc.setWidth 64) with
    | some v => { x with acc := ((x.acc >>> 64) <<< 64) ||| v.setWidth 128 }
    | none => { x with bad := true }
/-- A host job enters the engine, which it leaves block by block; its output does not depend on when it runs (R301), so it is formed here. -/
def runJob (mb : Nat) (b : List Byte) (d : Dev) : Dev × Option Reply :=
  let i := (jobKey d (jobHandle d b)).getD 0
  let k := vaultEntry d i
  let aad := part b 184 (u16 b 48)
  let data := part b (184 + u16 b 48) (u16 b 50)
  let (x, d1) := openJob b i d
  let r := runPart k.key x aad data (jobLast b) (part b 32 16)
  let s := slotUsed d b
  let (d2, kept, slot, wrapped) := closeJob b s r.ctx d1
  let reply := [0] ++ le 1 r.verdict ++ le 1 slot ++ [0] ++ le 4 x.invocation ++ ivOut k x ++ zeros 12 ++ r.tag ++ le 2 r.out.length ++ zeros 14
    ++ wrapped ++ r.out
  let job : CipherJob :=
    { number := d2.cipher.jobNumber, mailbox := some mb, priority := u8 b 2, left := max 1 (ceilDiv aad.length 16 + ceilDiv data.length 16), slot := some s
      kept := if x.bad then none else kept.map (hitContext (flipMaskFor 5 d)), reply := reply, memError := x.bad }
  (useFlip 5 (addJob job (putContext s (some (.host, r.ctx)) d2)), none)
/-- The job that runs: of those that have a slot, the first to arrive of the highest priority (R301). -/
def nextJob (l : List CipherJob) : Option CipherJob :=
  [3, 2, 1, 0].findSome? (fun p => l.find? (fun j => decide (0 < j.left) && j.slot.isSome && j.priority == p))
def setJobs (l : List CipherJob) (running : Option Nat) (d : Dev) : Dev := { d with cipher := { d.cipher with jobs := l, running := running } }
/-- The engine processes one block; a job that another displaces before its end is suspended. -/
def runBlock (j : CipherJob) (d : Dev) : Dev :=
  let other := d.cipher.jobs.any (fun k => some k.number = d.cipher.running && k.number != j.number && decide (0 < k.left))
  let d1 := tally 5 6 0xFFFF 1 (if other then tally 5 7 0xFFFF 1 d else d)
  setJobs (d1.cipher.jobs.map (fun k => if k.number = j.number then { k with left := k.left - 1 } else k)) (some j.number) d1
/-- A job ends: it frees its slot, or a host job leaves its context there. A job of firmware that waited takes the slot that it finds. -/
def endJob (j : CipherJob) (d : Dev) : Dev :=
  let d1 := match j.slot with | some s => putContext s (j.kept.map (Requester.host, ·)) d | none => d
  giveSlot (if j.requester = .host then d1 else setJobs (d1.cipher.jobs.filter (fun k => k.number != j.number)) d1.cipher.running d1)
def jobBlock (d : Dev) : Dev :=
  match nextJob d.cipher.jobs with
  | none => d
  | some j => if j.left = 1 then endJob j (runBlock j d) else runBlock j d
/-- Firmware posts the responses of jobs that have ended; a job whose context was uncorrectable ends with MEM_ERROR (R424), one whose
key was erased under it with HANDLE (DEDUCED). -/
def postJobs (d : Dev) : Dev :=
  if firmwareTakes d then
    let ended := d.cipher.jobs.filter (fun j => j.left == 0)
    let d1 := setJobs (d.cipher.jobs.filter (fun j => j.left != 0)) d.cipher.running d
    let answer (j : CipherJob) (mb : Nat) (d : Dev) : Dev :=
      let n := fullSize 0x0604 (reqBody (box d mb))
      if j.memError then refuse n mb (denied 52) d else if j.erased then refuse n mb (badArg 30) d else post mb { body := j.reply } d
    ended.foldl (fun d j => match j.mailbox with | some mb => answer j mb d | none => d) d1
  else d
/-- One cycle of the job engine. -/
def jobCycle (d : Dev) : Dev := if asleep d || d.cipher.jobs.isEmpty then d else postJobs (jobBlock d)
/-- The causes of a refused job (R312). -/
def noteJob (v : Verdict) (b : List Byte) (d : Dev) : Dev :=
  if v = busy 32 && jobSave b && decide (64 ≤ (serialsAfter d b).length) then raiseCause .job 0 d else noteSpent v d
def cipherJobService : Service where
  opcode := 0x0604
  targets _ _ := [1]
  freeze := .never
  checks := jobChecks
  run mb b d := runJob mb b d
  refused := noteJob
def execCipherJob (mb : Mailbox) : State → Host.Outcome State Fault Refusal := lift (serve cipherJobService mb)

/-- DEDUCED: a slot that the host does not hold is refused with BAD_ARG and CONTEXT, a serial that is not outstanding with DENIED
and CONTEXT_STALE. -/
def cipherCtxService : Service where
  opcode := 0x0605
  targets _ _ := [1]
  freeze := .never
  checks d b :=
    [(!(within 0 1 (u8 b 0) && (u8 b 0 == 1 || within 0 7 (u8 b 1))), outOfRange),
     (u8 b 0 == 0 && (heldIdle d (u8 b 1)).isNone, badArg 32),
     (u8 b 0 == 1 && !d.cipher.serials.contains (u64 b 4), denied 33)]
  run _ b d :=
    okay (if u8 b 0 = 0 then putContext (u8 b 1) none d
      else { d with cipher := { d.cipher with serials := d.cipher.serials.erase (u64 b 4) } })
def execCipherCtx (mb : Mailbox) : State → Host.Outcome State Fault Refusal := lift (serve cipherCtxService mb)

end Sys2Proof.Machine
end

