-- ==== Sys2Proof/Machine/Figures.lean ====
section
/-! DEFINITION. Figures computed from reals: SIQ from the LLRs, log10 of an error ratio and Q (R106, R107, R140, R147). Each is computed exactly but for the
last step of its rounding, which the manual states only for SIQ. -/

namespace Sys2Proof.Machine

/-! ## LLRs and SIQ (R106, R107) -/

/-- Saturate: the value −32 is not produced (R106). -/
def llrNormal (x : Llrs) : Llrs := { x with p0 := x.p0 ||| (x.p5 &&& ~~~ (x.p4 ||| x.p3 ||| x.p2 ||| x.p1)) }
/-- The signs: 1 where the LLR is negative, that is where bit 1 is the more likely value. -/
def llrSigns (x : Llrs) : BitVec 30720 := x.p5
/-- Bit planes of the magnitudes, lowest first: a negative LLR is inverted and incremented. -/
def llrMagnitudes (x : Llrs) : List (BitVec 30720) :=
  (([x.p0, x.p1, x.p2, x.p3, x.p4] : List (BitVec 30720)).foldl (fun (a : BitVec 30720 × List (BitVec 30720)) p =>
    let v := p ^^^ x.p5
    (v &&& a.1, a.2 ++ [v ^^^ a.1])) (x.p5, [])).2
/-- How many LLRs have magnitude `k`. -/
def llrCount (x : Llrs) (k : Nat) : Nat :=
  ones (((llrMagnitudes x).zipIdx).foldl (fun a p => a &&& (if k.testBit p.2 then p.1 else ~~~ p.1)) (BitVec.allOnes 30720))
/-- log2(1 + e^(−k/4)) × 2⁶⁴ for an LLR of magnitude k in units of 0.25, to the nearest. -/
def llrWeights : List Nat :=
  [18446744073709551616, 15327490868365385240, 12616623198758250433, 10295808220088254158, 8336841496028094912, 6704595241300184234,
   5360216843114508876, 4264049512790773652, 3377938482853284657, 2666799777431211113, 2099494565298539939, 1649145069425792604,
   1293056460211131320, 1012396021246900762, 791748660821945229, 618632152274294383] ++
  [483024507126531284, 376932450339649833, 294013923058911517, 229257482025112592, 178715745254077324, 139287207315284119,
   108539717597328667, 84568917826365622, 65885473422697504, 51325701464717481, 39981019635589948, 31142421562572742,
   24256880610785407, 18893181680676417, 14715179838197645, 11460894345729926]
/-- SIQ = round(255 (1 − m)), m the mean of log2(1 + e^(−|L|)) over the codeword (R107). -/
def siqOf (x : Llrs) : Nat :=
  let one := 30720 * 2 ^ 64
  let s := (llrWeights.zipIdx.map (fun w => w.1 * llrCount x w.2)).sum
  (2 * 255 * (one - s) + one) / (2 * one)

/-! ## log10 and Q (R140, R147) -/

/-- The greatest k below 2ⁿ for which `p k` holds, p true up to some k and false above it. -/
def greatest (p : Nat → Bool) : Nat → Nat → Nat
  | 0, k => k
  | n + 1, k => greatest p n (if p (k + 2 ^ n) then k + 2 ^ n else k)
/-- The whole part of −100 log10(n/m), 0 < n ≤ m. -/
def logWhole (n m : Nat) : Nat := greatest (fun k => decide (10 ^ k * n ^ 100 ≤ m ^ 100)) 12 0
/-- log10 of a ratio in units of 0.01 (R147): the whole number where it is one. DEDUCED: else the example of R147, which reads −169.897 as −170 and 625.07
as 625, fits rounding down and rounding to the nearest, so that below one half the number is the lower one, and from one half on it is either, a free value. -/
def berLog (n m : Nat) : Int :=
  let k := logWhole n m
  if 10 ^ k * n ^ 100 = m ^ 100 then -(k : Int)
  else -(k : Int) - 1 + (if decide (m ^ 200 ≤ 10 ^ (2 * k + 1) * n ^ 200) && !Config.logRoundsDown n m then 1 else 0)
/-- One in the fixed point of 256 fraction bits; the product; a power. -/
def fix1 : Nat := 2 ^ 256
def fixMul (a b : Nat) : Nat := a * b / fix1
def fixPow (a : Nat) : Nat → Nat → Nat
  | 0, _ => fix1
  | n + 1, k => let s := fixMul (fixPow a n (k / 2)) (fixPow a n (k / 2)); if k % 2 = 1 then fixMul s a else s
/-- 10^(v/4000) and 10^(−v/4000). -/
def tenth (v : Int) : Nat :=
  if 0 ≤ v then fixPow 115858763710572188465278763427547383255938865192093501212690195415303821682026 17 v.toNat
  else fixPow 115725453133927457908929499509101019078140600427962455228285606440504628619772 17 (-v).toNat
/-- Σ (−1)^k (x²/2)^k / (k! (2k+1)), which times x/√(2π) is Φ(x) − 1/2: `t` is the term of `k` without its divisor. -/
def phiSum (h : Nat) : Nat → Nat → Nat → Int → Int
  | 0, _, _, a => a
  | n + 1, k, t, a =>
    let v : Int := (t / (2 * k + 1) : Nat)
    phiSum h n (k + 1) (fixMul t h / (k + 1)) (if k % 2 = 0 then a + v else a - v)
/-- The tail 1 − Φ(x) of the normal distribution, which is erfc(x/√2)/2: a coach with Q = x has that error ratio (R140). -/
def tail (x : Nat) : Int :=
  let s := phiSum (fixMul x x / 2) 400 0 fix1 0
  (fix1 : Int) / 2 - s * (fixMul x 46194360132781112550002021175736725500524138381534012844286371432913401257263 : Nat) / (fix1 : Int)
/-- A Q of v/200 dB has an error ratio of at least n/m; beyond 20.47 dB the ratio lies below any that counts can show. -/
def tailAbove (n m : Nat) (v : Int) : Bool := decide (v ≤ 4094) && decide ((fix1 * n : Nat) ≤ tail (tenth v) * (m : Int))
/-- Q_DB in 0.01 dB: 20 log10(√2 erfc⁻¹(2 n/m)) (R140), rounded as log10 is. A ratio of 1/2 or more has no Q: a free value. -/
def berQDb (n m : Nat) : Int :=
  if m ≤ 2 * n then (Config.qNone n m).toInt
  else
    let v : Int := (greatest (fun u => tailAbove n m (2 * ((u : Int) - 32768))) 16 0 : Nat) - (32768 : Int)
    v + (if tailAbove n m (2 * v + 1) && Config.qRoundsUp n m then 1 else 0)

end Sys2Proof.Machine
end

