-- ==== Sys2Proof/Machine/Pool.lean ====
section
/-! DEFINITION. The decoder pool: base beads, the extension set and bead budget, release, surge demand, interval figures and
commands (chapter 4). -/

namespace Sys2Proof.Machine

def setPool (p : Pool) (d : Dev) : Dev := { d with pool := p }
def setCws (l : List PoolCw) (d : Dev) : Dev := { d with pool := { d.pool with cws := l } }
/-- MAX_BEADS in force. -/
def capOf (d : Dev) (c : Nat) : Nat := tabGet (fun _ => 24) d.pool.caps c
def ivNow (d : Dev) (c : Nat) : Interval := tabGet (fun _ => {}) d.pool.now c
def setIv (c : Nat) (x : Interval) (d : Dev) : Dev :=
  { d with pool := { d.pool with now := tabPut (fun _ => {}) d.pool.now c x } }
/-- A coach's pool cause, at most once per interval (R141): 0 UNCORR, 1 STARVED, 2 DISPLACED. -/
def poolCause (c b : Nat) (d : Dev) : Dev :=
  if d.pool.raised.contains (32 * c + b) then d
  else raiseCause (.poolCoach c) b (setPool { d.pool with raised := (32 * c + b) :: d.pool.raised } d)
/-- Pool entity count `i` of R139 (1 CODEWORDS to 8 DISPLACED in the coach's snapshot row). -/
def poolCount (c i n : Nat) (d : Dev) : Dev := bump (keyCoach c i) n d

/-! ## Points and capacity (R121 to R124) -/

/-- Beads per epoch at a point. -/
def capacity (point : Nat) : Nat := nth [8000, 10400, 12800, 16000] point 16000
/-- CW_RATE × 1 µs of a coach as a numerator over `cwRateDen` (R106). -/
def cwRateNum (d : Dev) (c : Nat) : Nat :=
  let x := coachRx d c
  let r := (engTx d (engineOf c)).rate
  if x.enable && (engRx d (engineOf c)).enable then 2 * symbolRate r * needH r x.profile x.slotsNow * 31 else 0
def cwRateDen : Nat := 64 * 32 * 30720 * 1000
/-- A_CFG: the configured codeword arrivals of an epoch, rounded up (R122). -/
def aCfg (d : Dev) : Nat := ceilDiv ((List.range 256).map (cwRateNum d)).sum cwRateDen
def baseReserve (d : Dev) : Nat := 4 * (aCfg d + 256)
/-- The lowest point from `m` to P2 whose capacity covers the base reserve; P2 covers every configuration (R123). -/
def coverPoint (d : Dev) (m : Nat) : Nat :=
  if m = 0 && decide (baseReserve d ≤ 8000) then 0 else if m ≤ 1 && decide (baseReserve d ≤ 10400) then 1 else 2
/-- The point the pool is to run at (R123, R137): P0 from stage 5 of an entry on (R514). -/
def wantedPoint (d : Dev) : Nat :=
  if d.power.state = .entering && decide (5 ≤ d.power.stage) then 0 else if d.power.surge = .granted then 3 else coverPoint d d.pool.cfg.minPoint
/-- Command a higher VPOOL voltage, unless a transition is in progress (R523). -/
def orderRail (point : Nat) (d : Dev) : Dev :=
  if d.power.poolRise.isSome then d else { d with power := { d.power with poolRise := some (point, elapsedNs d) } }
/-- Take the point of the coming epoch: never above the voltage in force; a lower clock first, then the lower voltage (R523). A
change raises POINT_CHANGE (R141). -/
def takePoint (d : Dev) : Dev :=
  let w := wantedPoint d
  let now := if d.pool.point < d.pool.rail then d.pool.rail else min w d.pool.rail
  let d1 := if d.pool.rail < w then orderRail w d else if d.pool.point = d.pool.rail then setPool { d.pool with rail := w } d else d
  let d2 := setPool { d1.pool with point := now } d1
  if d.power.poolRise.isSome then d else if now = d.pool.point then d2 else raiseCause .pool 1 d2

/-! ## Arrival and base beads (R125 to R129) -/

/-- The hard decisions after bead `n`, 1 upwards; a decoder that gives no more keeps its last. -/
def hardAfter (w : PoolCw) (n : Nat) : BitVec 30720 := nth w.hard (n - 1) (w.hard.getLastD w.signs)
/-- Run up to `n` beads on a codeword, stopping when it clears (R125). -/
def runBeads (w : PoolCw) : Nat → PoolCw
  | 0 => w
  | n + 1 =>
    let v := { w with beads := w.beads + 1 }
    if isCodeword w.profile (hardAfter w v.beads) then { v with state := .done 0 } else runBeads v n
/-- Count beads run for a coach: `sel` 0 base, 1 extra (R139, R142). -/
def countBeads (sel c n : Nat) (d : Dev) : Dev :=
  let p := d.pool
  poolCount c 5 n (tally 0 sel 0 n (setPool { p with
    baseRun := if sel = 0 then p.baseRun + n else p.baseRun, extraRun := if sel = 0 then p.extraRun else p.extraRun + n } d))
/-- The codeword that arrives: the receiver's record and the facts (R107, R127). DESIGN CHOICE: the codeword in progress when PROFILE of a LOCKED coach changes arrives erased with the new PROFILE. -/
def arriving (c : Nat) (f : CodewordFacts) (d : Dev) : PoolCw :=
  let x := coachRx d c
  { coach := c, seq := x.cwSeq, profile := x.profile, siq := siqOf f.llrs, slip := x.slip, resync := x.resync
    hChange := x.hChange, order := d.pool.arrivals, cap := capOf d c, signs := llrSigns f.llrs, hard := f.hard }
/-- All LLRs of an ERASED codeword are zero, so its SIQ is 0 (R107); no LLR is −32 (R106). -/
def delivered (f : CodewordFacts) (erased : Bool) : CodewordFacts :=
  if erased then { f with erased := true, llrs := ⟨0, 0, 0, 0, 0, 0⟩ } else { f with llrs := llrNormal f.llrs }
/-- The SIQ of a codeword enters the figures of the last 1 ms. -/
def noteSiq (c v : Nat) (d : Dev) : Dev :=
  let x := coachRx d c
  setCoachRx c { x with siqs := (nowNs d, v) :: x.siqs.takeWhile (fun e => decide (nowNs d ≤ e.1 + 1000000)) } d
/-- The receiver hands over a codeword: CW_SEQ advances and its flags are spent; a codeword with RESYNC has a discontinuous
CW_SEQ, a free value (R107). -/
def spendRecord (c : Nat) (d : Dev) : Dev :=
  let x := coachRx d c
  setCoachRx c { x with cwSeq := (x.cwSeq + 1) % 2 ^ 32, slip := false, resync := false, hChange := false, cut := false } d
def jumpSeq (c : Nat) (d : Dev) : Dev :=
  if (coachRx d c).resync then
    let (v, d1) := drawFree d
    setCoachRx c { coachRx d1 c with cwSeq := v.toNat % 2 ^ 32 } d1
  else d
/-- A codeword's last LLR arrives: an ERASED one is done without a bead, any other runs its base beads (R125, R127). One that a flip
makes uncorrectable in region 1 is ERASED (R424, R430). -/
def enterPool (c : Nat) (f : CodewordFacts) (erased : Bool) (d : Dev) : Dev :=
  let d1 := jumpSeq c d
  let erased := erased || (readFlipped (flipMaskFor 1 d) 0).isNone
  let w := if erased then { arriving c (delivered f true) d1 with siq := 0 } else arriving c (delivered f false) d1
  let v := if erased then { w with state := .done 2 } else runBeads w 4
  let d2 := (if isLocked d c then noteSiq c w.siq else id) (spendRecord c d1)
  let d3 := useFlip 1 <| setPool { d2.pool with arrivals := d2.pool.arrivals + 1, cws := d2.pool.cws ++ [v] } d2
  if erased then d3 else countBeads 0 c v.beads d3
/-- CODEWORD_ARRIVAL: from a LOCKED coach, or ERASED the one that was in progress when it left LOCKED (R107, R108). -/
def codewordArrival (c : Nat) (f : CodewordFacts) (d : Dev) : Dev :=
  if asleep d then d
  else if isLocked d c then enterPool c f f.erased d
  else if (coachRx d c).cut then enterPool c f true d
  else d
def execCodewordArrival (c : Coach) (cw : CodewordFacts) : State → Host.Outcome State Fault Refusal :=
  lift (codewordArrival c cw)

/-- The SIQ that ranks a codeword: 0 for one marked SLIP (R127). -/
def rankSiq (w : PoolCw) : Nat := if w.slip then 0 else w.siq
/-- Ranking: lower SIQ first, then earlier arrival (R130). -/
def ranksBefore (a b : PoolCw) : Bool := decide (rankSiq a < rankSiq b) || (rankSiq a == rankSiq b && decide (a.order < b.order))
/-- The codeword ranked last of a list. -/
def lastRanked : List PoolCw → Option PoolCw
  | [] => none
  | w :: t => match lastRanked t with
    | none => some w
    | some v => if ranksBefore w v then some v else some w
/-- Change the codeword with this order of arrival. -/
def modCw (order : Nat) (f : PoolCw → PoolCw) (d : Dev) : Dev :=
  setCws (d.pool.cws.map (fun w => if w.order = order then f w else w)) d
def setCwState (s : CwState) (w : PoolCw) : PoolCw := { w with state := s }
def collecting (d : Dev) : List PoolCw := d.pool.cws.filter (fun w => w.state == .waiting)
/-- A codeword joins the set being collected; beyond 1,024 the one ranked last is displaced (R129). -/
def joinSet (w : PoolCw) (d : Dev) : Dev :=
  let d1 := modCw w.order (setCwState .waiting) d
  if (collecting d1).length ≤ 1024 then d1
  else match lastRanked (collecting d1) with
    | some v => raiseCause .pool 2 (poolCause v.coach 2 (poolCount v.coach 8 1 (tally 0 8 0 1 (modCw v.order (setCwState (.done 1)) d1))))
    | none => d1
/-- The judgement of a codeword that failed base: hopeless, at a cap of 4, or into the extension set (R128, R129). -/
def judgeBase (w : PoolCw) (d : Dev) : Dev :=
  let bad := unsatisfied w.profile (hardAfter w w.beads)
  let checks := 512 * blockRows w.profile
  let limit := d.pool.cfg.hopeless
  if limit != 0 && decide (limit * checks < 256 * bad) then
    poolCount w.coach 7 1 (tally 0 9 0 1 (modCw w.order (setCwState (.done 1)) d))
  else if w.cap = 4 then modCw w.order (setCwState (.done 1)) d
  else joinSet w d
/-- The oldest codeword of a coach with this CW_SEQ whose base has failed and is not judged. -/
def findFailed (d : Dev) (c seq : Nat) : Option PoolCw :=
  d.pool.cws.find? (fun w => w.coach == c && w.seq == seq && w.state == .failedBase)
def baseComplete (c seq : Nat) (d : Dev) : Dev :=
  match findFailed d c seq with
  | some w => judgeBase w d
  | none => d
def execBaseComplete (c : Coach) (seq : Word) : State → Host.Outcome State Fault Refusal := lift (baseComplete c seq.toNat)

/-! ## Epochs (R130, R131, R135, R136) -/

/-- Insert a codeword in rank order. -/
def insertRanked (w : PoolCw) : List PoolCw → List PoolCw
  | [] => [w]
  | v :: t => if ranksBefore w v then w :: v :: t else v :: insertRanked w t
def rankOrder (l : List PoolCw) : List PoolCw := l.foldl (fun a w => insertRanked w a) []
/-- The codewords to be considered for a tranche, in rank order. -/
def liveSet (d : Dev) : List PoolCw := rankOrder (d.pool.cws.filter (fun w => w.state == .live))
/-- One codeword's turn in a round: at its cap, starved for budget or for time, or granted (R130). -/
def grantOne (late : Bool) (d : Dev) (w : PoolCw) : Dev :=
  if w.cap < w.beads + 4 then modCw w.order (setCwState .marked) d
  else if decide (d.pool.remaining < 4) || late then modCw w.order (fun v => { v with state := .marked, starved := true }) d
  else
    let d1 := modCw w.order (setCwState .granted) d
    setPool { d1.pool with remaining := d1.pool.remaining - 4, granted := d1.pool.granted + 4 } d1
/-- A round over the live set. -/
def grantRound (late : Bool) (d : Dev) : Dev := (liveSet d).foldl (grantOne late) d
/-- The tranches granted have run: a codeword clears within its tranche, or is live again. -/
def runGranted (d : Dev) : Dev :=
  (d.pool.cws.filter (fun w => w.state == .granted)).foldl
    (fun d w =>
      let v := runBeads { w with state := .live } 4
      countBeads 1 w.coach (v.beads - w.beads) (modCw w.order (fun _ => v) d)) d
/-- POOL_CONFIG and POOL_COACH_CONFIG apply from an epoch boundary. -/
def applyPoolCfg (d : Dev) : Dev := setPool { d.pool with cfg := d.pool.cfgNext, caps := d.pool.capsNext } d
/-- The budget of the epoch that starts (R124); BUDGET_ZERO below one tranche (R141). -/
def takeBudget (d : Dev) : Dev :=
  let b := capacity d.pool.point - baseReserve d
  let d1 := setPool { d.pool with budget := b, remaining := b, granted := 0, baseRun := 0, extraRun := 0, epochOn := true } d
  if b < 4 then raiseCause .pool 0 d1 else d1
/-- The set collected becomes the extension set of this epoch. -/
def openSet (d : Dev) : Dev :=
  let l := d.pool.cws.map (fun w => if w.state = .waiting then { w with state := .live } else w)
  setPool { d.pool with cws := l, extSize := (collecting d).length } d
/-- EPOCH_START: configuration, point, budget, extension set and the first round (R121, R130). -/
def epochStart (d : Dev) : Dev := grantRound false (openSet (takeBudget (takePoint (applyPoolCfg d))))
def execEpochStart : State → Host.Outcome State Fault Refusal :=
  lift fun d => guard (!asleep d && !d.pool.epochOn) epochStart d
/-- EXTENSION_ROUND: the tranches of a round have run and the next round is granted; `late`: the round could not complete before
the epoch ends. -/
def execExtensionRound (late : Bool) : State → Host.Outcome State Fault Refusal :=
  lift fun d => guard (!asleep d && d.pool.epochOn) (fun d => grantRound late (runGranted d)) d

/-- A change of SURGE_STATE raises its cause on source 0x191 (R138, R146). DEDUCED: a change to 3 raises SURGE_REFUSED, a change
to 0 SURGE_ENDED. -/
def setSurge (s : SurgeState) (d : Dev) : Dev :=
  if s = d.power.surge then d
  else raiseCause .pool (match s with | .none => 5 | .requested => 3 | .granted => 4 | .revoked => 6)
    { d with power := { d.power with surge := s } }
/-- At the end of an epoch every codeword of the extension set is done; starved ones are counted (R131). -/
def closeSet (d : Dev) : Dev :=
  let ended := d.pool.cws.filter (fun w => w.state == .live || w.state == .marked)
  let starved := ended.filter (·.starved)
  let d1 := starved.foldl (fun d w => poolCause w.coach 1 (poolCount w.coach 6 1 (tally 0 5 0 1 d))) d
  let l := d1.pool.cws.map (fun w => if w.state = .live || w.state = .marked then { w with state := .done 1 } else w)
  setPool { d1.pool with cws := l, extStarved := starved.length } d1
/-- The demand indicator of the epoch that ends (R135). -/
def demandOf (d : Dev) : Bool :=
  if d.pool.point ≤ 2 then decide (0 < d.pool.extStarved) else decide (capacity 2 + d.pool.budget < capacity 3 + d.pool.granted)
/-- D enters the window of 64 epochs. -/
def noteDemand (d : Dev) : Dev :=
  let v := demandOf d
  let p := d.pool
  let q := if v then 0 else p.quiet + 1
  let w := (p.window <<< 1) ||| BitVec.ofNat 64 (b2n v)
  let d1 := setPool { p with demand := v, window := w, quiet := q, epochOn := false, lastBudget := p.budget, lastSize := p.extSize } d
  if v then tally 0 6 0 1 d1 else d1
/-- The governor's conditions of R524 that the device holds: SURGE_ENABLE, the estimate at P3, the last thermal revocation, the credit. -/
def mayGrant (d : Dev) : Bool :=
  d.power.surgeEnable && decide (d.pins.estimateP3 ≤ 900) && !d.power.hot
    && (if d.power.exhausted then decide (d.power.regrant ≤ d.power.credit) else decide (0 < 40 * d.power.credit + d.power.creditPart))
/-- The request for surge under SURGE_MODE (R136). DEDUCED: mode 0 withdraws a request that stands. -/
def surgeDemand (d : Dev) : Dev :=
  let p := d.pool
  if d.power.state = .entering && decide (5 ≤ d.power.stage) then d
  else if p.cfg.surgeMode = 0 then setSurge .none d
  else if d.power.surge = .none && ((p.cfg.surgeMode == 2 && mayGrant d) || p.cfg.surgeMode == 1 && decide (p.cfg.onEpochs ≤ ones p.window)) then setSurge .requested d
  else d
/-- EPOCH_END (R131): a codeword that still fails, below its cap, is starved for time, no further round fitting into the epoch (R130); idle beads, starved codewords, D, the request. -/
def epochEnd (d : Dev) : Dev :=
  let d1 := closeSet (grantRound true (runGranted d))
  let d2 := tally 0 2 0 (capacity d1.pool.point - d1.pool.baseRun - d1.pool.extraRun) d1
  surgeDemand (noteDemand (if d2.pool.point = 3 then tally 0 7 0 1 d2 else d2))
def execEpochEnd : State → Host.Outcome State Fault Refusal :=
  lift fun d => guard (!asleep d && d.pool.epochOn) epochEnd d
/-- SURGE_WITHDRAW: D has been 0 for SURGE_HOLD milliseconds of epochs (R136). -/
def execSurgeWithdraw : State → Host.Outcome State Fault Refusal :=
  lift fun d => guard (d.pool.cfg.surgeMode == 1 && d.power.surge != .none && decide (1000 * d.pool.cfg.hold ≤ d.pool.quiet))
    (setSurge .none) d

/-! ## Release (R133, R134, R139) -/

/-- The information bits released (R134). -/
def releasedInfo (w : PoolCw) (o : Fin 3) : BitVec 30720 :=
  if o = 2 then 0 else infoBits w.profile (hardAfter w w.beads)
/-- Bits of a cleared codeword that differ from the signs of its LLRs (R139). -/
def correctedBits (w : PoolCw) (o : Fin 3) : Nat := if o = 0 then ones (hardAfter w w.beads ^^^ w.signs) else 0
def binOf (beads : Nat) : Nat := (beads - 1) / 4
def addInterval (w : PoolCw) (o : Fin 3) (x : Interval) : Interval :=
  { codewords := x.codewords + 1, cleared := x.cleared + b2n (o == 0), corrected := x.corrected + correctedBits w o
    notErased := x.notErased + b2n (o != 2), beads := x.beads + w.beads, uncorr := x.uncorr + b2n (o == 1)
    histogram := if o = 2 then x.histogram else putNth x.histogram (binOf w.beads) (nth x.histogram (binOf w.beads) 0 + 1) }
/-- The record released to framing. -/
def releaseRecord (w : PoolCw) (o : Fin 3) : Released :=
  { seq := w.seq, profile := w.profile, outcome := o, beads := w.beads, resync := w.resync, hChange := w.hChange
    info := releasedInfo w o }
/-- The counts of a release. -/
def countRelease (w : PoolCw) (o : Fin 3) (d : Dev) : Dev :=
  let c := w.coach
  let d1 := tally 0 3 0 1 (poolCount c 1 1 (setIv c (addInterval w o (ivNow d c)) d))
  if o = 0 then poolCount c 4 (correctedBits w o) d1
  else if o = 1 then poolCause c 0 (tally 0 4 0 1 (poolCount c 2 1 d1))
  else poolCount c 3 1 d1

/-! ## Interval figures and commands (R140, R144 to R147) -/

/-- The interval ends: its figures become the last interval's (R140). -/
def endInterval (d : Dev) : Dev := setPool { d.pool with last := d.pool.now, now := [], raised := [] } d
/-- PRE_FEC_BER as a fraction; none where it is not available (R140). -/
def preFecBer (x : Interval) : Option (Nat × Nat) :=
  if x.cleared = 0 || x.corrected = 0 then none else some (x.corrected, 30720 * x.cleared)

def poolConfigService : Service where
  opcode := 0x0241
  targets _ _ := [2]
  checks _ b := [(!(within 0 2 (u8 b 0) && within 0 2 (u8 b 1) && within 1 64 (u8 b 3) && within 1 1000 (u16 b 4)), outOfRange)]
  run _ b d := okay (setPool { d.pool with cfgNext :=
    { minPoint := u8 b 0, surgeMode := u8 b 1, hopeless := u8 b 2, onEpochs := u8 b 3, hold := u16 b 4 } } d)
def execPoolConfig (mb : Mailbox) : State → Host.Outcome State Fault Refusal := lift (serve poolConfigService mb)

def poolCoachConfigService : Service where
  opcode := 0x0242
  targets _ _ := [2]
  checks _ b := [(!(within 0 255 (u16 b 0) && u8 b 2 % 4 == 0 && within 4 24 (u8 b 2)), outOfRange)]
  run _ b d := okay (setPool { d.pool with capsNext := tabPut (fun _ => 24) d.pool.capsNext (u16 b 0) (u8 b 2) } d)
def execPoolCoachConfig (mb : Mailbox) : State → Host.Outcome State Fault Refusal := lift (serve poolCoachConfigService mb)

def SurgeState.code : SurgeState → Nat
  | .none => 0 | .requested => 1 | .granted => 2 | .revoked => 3
def poolStatusBody (d : Dev) : List Byte :=
  let p := d.pool
  [0] ++ le 1 p.point ++ le 1 d.power.surge.code ++ le 1 (b2n p.demand) ++ le 2 (aCfg d) ++ le 2 (p.lastBudget / 4) ++ le 2 p.lastSize
    ++ le 2 p.extStarved ++ le 2 (ones p.window) ++ le 2 4000 ++ le 4 (causeOf d .pool).toNat ++ zeros 4
def poolStatusService : Service where
  opcode := 0x0243
  targets _ _ := [2]
  freeze := .never
  run _ b d := done (poolStatusBody d) (clearCause .pool (flag b 0 0) d)
def execPoolStatus (mb : Mailbox) : State → Host.Outcome State Fault Refusal := lift (serve poolStatusService mb)

/-- MEAN_BEADS in 1/256 bead; 0 with no codeword. -/
def meanBeads (x : Interval) : Nat := if x.notErased = 0 then 0 else (rounded (256 * x.beads : Nat) x.notErased).toNat
def berFields (x : Interval) : List Byte :=
  match preFecBer x with
  | some (n, m) => leI 2 (berLog n m) ++ leI 2 (berQDb n m)
  | none => le 2 0x8000 ++ le 2 0x7FFF
def poolCoachBody (c : Nat) (d : Dev) : List Byte :=
  let x := tabGet (fun _ => {}) d.pool.last c
  le 2 c ++ le 1 (capOf d c) ++ le 1 (b2n (preFecBer x).isSome) ++ berFields x ++ le 2 (meanBeads x) ++ zeros 2
    ++ x.histogram.flatMap (le 2) ++ le 4 (causeOf d (.poolCoach c)).toNat ++ zeros 4
    ++ (List.range 8).flatMap (fun i => le 8 (countOf d (keyCoach c (1 + i))))
def poolCoachStatusService : Service where
  opcode := 0x0244
  targets _ _ := [2]
  freeze := .never
  checks _ b := [(!within 0 255 (u16 b 0), outOfRange)]
  run _ b d := done (poolCoachBody (u16 b 0) d) (clearCause (.poolCoach (u16 b 0)) (flag b 2 0) d)
def execPoolCoachStatus (mb : Mailbox) : State → Host.Outcome State Fault Refusal := lift (serve poolCoachStatusService mb)

end Sys2Proof.Machine
end

