-- ==== Sys2Proof/Machine/Defects.lean ====
section
/-! DEFINITION. Defects of coaches and tributaries, their integration, seconds and bins, and their commands (R190 to R216). -/

namespace Sys2Proof.Machine

/-! ## Degradation at the end of an interval (R191, R205) -/

/-- n / m exceeds 10^(t/100), exactly. -/
def berExceeds (f : Nat × Nat) (t : Int) : Bool := decide (f.2 ^ 100 < f.1 ^ 100 * 10 ^ (-t).toNat)
/-- An interval is SD-bad. -/
def sdBad (x : Entity) (v : Interval) : Bool :=
  v.cleared == 0 || (match preFecBer v with | some f => berExceeds f x.sdThreshold | none => false)
/-- An interval is SF-bad. -/
def sfBad (x : Entity) : Bool := decide (0 < x.ivFrames) && decide (x.sfRatio * x.ivFrames ≤ 100 * x.ivErrored)
/-- A degradation state and its run after an interval. -/
def degrade (now bad : Bool) (run m : Nat) : Bool × Nat :=
  if bad = now then (now, 0) else if m ≤ run + 1 then (bad, 0) else (now, run + 1)
def fracLess (a b : Nat × Nat) : Bool := decide (a.1 * b.2 < b.1 * a.2)
def lowest (o : Option (Nat × Nat)) (f : Nat × Nat) : Option (Nat × Nat) :=
  match o with | none => some f | some g => if fracLess f g then some f else some g
def largest (o : Option (Nat × Nat)) (f : Nat × Nat) : Option (Nat × Nat) :=
  match o with | none => some f | some g => if fracLess g f then some f else some g
/-- The interval's figure enters a bin. -/
def binBer (v : Interval) (b : Bin) : Bin :=
  match preFecBer v with
  | some f => { b with berMin := lowest b.berMin f, berMax := largest b.berMax f }
  | none => b
/-- The end of an interval for one coach; raw SF acts on its twin tributaries (R200). The figure of an interval in which the coach was then disabled
stays in its bins. -/
def coachInterval (c : Nat) (d : Dev) : Dev :=
  let v := ivNow d c
  if coachOff d c then coachBins c (binBer v) d
  else
    let x := coachEntity d c
    let sd := degrade x.sd (sdBad x v) x.sdRun x.sdM
    let sf := degrade x.sf (sfBad x) x.sfRun x.sfM
    let d1 := seeRaw c 8 (seeRaw c 7 d)
    let y := coachEntity d1 c
    let d2 := settleCoach c (setCoachEntity c (modBins (binBer v) { y with
      sd := sd.1, sdRun := sd.2, sf := sf.1, sfRun := sf.2, ivFrames := 0, ivErrored := 0 }) d1)
    if sf.1 = x.sf then d2 else settleTwinsOn (engineOf c) d2
/-- POOL_INTERVAL: degradation and bins of every coach, then the next interval starts (R140, R191, R205). -/
def execPoolInterval : State → Host.Outcome State Fault Refusal :=
  lift fun d => guard (!asleep d) (fun d => endInterval ((List.range 256).foldl (fun d c => coachInterval c d) d)) d

/-! ## Integration (R195, R196) -/

/-- One sample of a defect (R195). -/
def sampleDefect (set : Bool) (f : Defect) : Defect :=
  let sets := if set then sat 10000 (f.sets + 1) else 0
  let clears := if set then 0 else sat 10000 (f.clears + 1)
  let on := if f.declared then !(!set && decide (f.clearTime ≤ clears)) else set && decide (f.setTime ≤ sets)
  { f with sets := sets, clears := clears, declared := on, reported := f.reported && on, seen := false
           declares := if on && !f.declared then sat 0xFFFF (f.declares + 1) else f.declares }
/-- Sample the defects of an entity; the sample itself decides defect seconds (R203). -/
def sampleEntity (n : Nat) (set : Nat → Bool) (x : Entity) : Entity :=
  (List.range n).foldl (fun x i => setDefect i (sampleDefect (set i) (defectOf x i)) x) x
def declaredNow (n : Nat) (before after : Entity) (on : Bool) : List Nat :=
  (List.range n).filter (fun i => (defectOf before i).declared != on && (defectOf after i).declared == on)
/-- The causes of a sample: DECLARE, CLEAR, and REPORT_CLEAR for a report that ended with its declaration. -/
def sampleCauses (r : CauseReg) (n : Nat) (x y : Entity) (d : Dev) : Dev :=
  let d1 := if (declaredNow n x y true).isEmpty then d else raiseCause r 0 d
  let gone := declaredNow n x y false
  let d2 := if gone.isEmpty then d1 else raiseCause r 1 d1
  if gone.any (fun i => (defectOf x i).reported) then raiseCause r 3 d2 else d2
def changedAt (n : Nat) (d : Dev) (x y : Entity) : Nat :=
  if (List.range n).all (fun i => (defectOf x i).declared == (defectOf y i).declared) then x.lastChange else nowNs d
/-- The millisecond sample of a coach. -/
def sampleCoach (c : Nat) (d : Dev) : Dev :=
  if coachOff d c then d
  else
    let x := coachEntity d c
    let set (i : Nat) : Bool := rawCoach d c i || (defectOf x i).seen
    let y := sampleEntity 10 set x
    let z := { y with lastChange := changedAt 10 d x y
                      defectSeen := x.defectSeen || [0, 1, 2, 3, 4, 5, 6].any (fun i => set i && actsOn d c i)
                      feSeen := x.feSeen || set 9 }
    settleCoachWith (declaredNow 10 x y true) c (sampleCauses (.defectCoach c) 10 x y (setCoachEntity c z d))
/-- A CSF cell of the host stood at some time in the last millisecond. -/
def csfWas (d : Dev) (q : Nat) : Bool :=
  (groupOf d q).isSome && (match (channelOf d q).csfAt with | some t => decide (nowNs d < t + 1100000) | none => false)
def sampleQueue (q : Nat) (d : Dev) : Dev :=
  if tribIdle d q then d
  else
    let x := queueEntity d q
    let set (i : Nat) : Bool := rawQueue d q i || (defectOf x i).seen || (i == 0 && csfWas d q)
    let y := sampleEntity 4 set x
    let z := { setDefect 3 {} y with lastChange := changedAt 3 d x y, defectSeen := x.defectSeen || set 1 || set 2 || set 3 }
    settleQueueWith (declaredNow 3 x y true) q (sampleCauses (.defectQueue q) 3 x y (setQueueEntity q z d))
/-- Every defect of every entity is sampled. -/
def defectSample (d : Dev) : Dev :=
  (List.range 4096).foldl (fun d q => sampleQueue q d) ((List.range 256).foldl (fun d c => sampleCoach c d) d)
/-- A sample is taken. -/
def takeSample (d : Dev) : Dev :=
  let d1 := defectSample d
  { d1 with defects := { d1.defects with sampledMs := nowMs d } }
/-- DEFECT_SAMPLE: at each tick that is a multiple of 1 ms, while CK_HUB runs (R195, R197). -/
def sampleTick (d : Dev) : Dev := if decide (d.defects.sampledMs < nowMs d) && !asleep d then takeSample d else d
def execDefectSample : State → Host.Outcome State Fault Refusal := lift sampleTick

/-! ## Seconds and rollover (R203, R206, R213) -/

/-- Every entity's second ends. -/
def secondClassify (d : Dev) : Dev := mapEntities (tribIdle d) (endSecond d) d
/-- SECOND_CLASSIFY: at each second boundary, after the sample of its millisecond; while the bin store is not cleared nothing is kept. -/
def secondTick (d : Dev) : Dev :=
  if decide (d.defects.endedSec < nowSec d) && !asleep d then
    let d1 := sampleTick d
    let d2 := if d1.defects.cleared then secondClassify d1 else mapEntities (tribIdle d1) restartSecond d1
    { d2 with defects := { d2.defects with endedSec := nowSec d } }
  else d
def execSecondClassify : State → Host.Outcome State Fault Refusal := lift secondTick
/-- A 15-minute boundary; where it lies DAY_START quarter-hours after a multiple of a day, that of the 24-hour bin too (R206, R213). -/
def dayTick (d : Dev) : Bool := nowNs d / quarterNs % 96 == d.defects.dayStartNext
def binRollover (d : Dev) : Dev :=
  let day := dayTick d
  let d1 := mapEntities (tribIdle d) (fun off x =>
    let y := roll15 d off 0 x
    if day then roll24 d off false (earlyDay d y) y else y) d
  if day then takeDayStart d1 else d1
/-- The boundaries up to now are done. -/
def rolled (d : Dev) : Dev := { d with defects := { d.defects with rolledQuarter := nowNs d / quarterNs } }
/-- BIN_ROLLOVER: at each 15-minute boundary, after its second has ended. -/
def rollTick (d : Dev) : Dev :=
  let d1 := secondTick (sampleTick d)
  if decide (d.defects.rolledQuarter < nowNs d / quarterNs) && !asleep d then
    rolled (if d1.defects.cleared then binRollover d1 else d1)
  else d1
def execBinRollover : State → Host.Outcome State Fault Refusal :=
  lift fun d => guard (decide (d.defects.rolledQuarter < nowNs d / quarterNs)) rollTick d
/-- DEVTIME resumes after a sleep, at which CK_HUB took no sample: the second that the sleep cut short ends, the bins follow from `t0`, and
sampling resumes at the next millisecond (R197, R208). -/
def ticksResume (t0 : Nat) (d : Dev) : Dev :=
  let d1 := rolled (binsWake t0 (if d.defects.cleared && decide (d.defects.endedSec < nowSec d) then secondClassify d else d))
  { d1 with defects := { d1.defects with sampledMs := nowMs d, endedSec := nowSec d } }
/-- Firmware clears the bin store: every current bin starts (R209). -/
def clearBins (d : Dev) : Dev :=
  let d1 := mapEntities (tribIdle d) (fun off x =>
    { x with prev15 := [], prev24 := {}, pending := [], cur15 := freshBin d off, cur24 := freshBin d off }) d
  { d1 with defects := { d1.defects with cleared := true } }

/-! ## Commands (R210 to R215) -/

def entityCount (t : Nat) : Nat := if t = 0 then 256 else 4096
/-- The entities a request names. -/
def entitiesOf (t e : Nat) : List Nat := if e = 0xFFFF then List.range (entityCount t) else [e]
def modEntity (t e : Nat) (f : Entity → Entity) (d : Dev) : Dev :=
  if t = 0 then setCoachEntity e (f (coachEntity d e)) d else setQueueEntity e (f (queueEntity d e)) d
def entityOf (d : Dev) (t e : Nat) : Entity := if t = 0 then coachEntity d e else queueEntity d e
def defectsNamed (t i : Nat) : List Nat := if i = 0xFF then List.range (if t = 0 then 10 else 3) else [i]
/-- The groups of fields that FLAGS selects. -/
def writeGroups (b : List Byte) (x : Entity) : Entity :=
  let x1 := if flag b 1 1 then
      (defectsNamed (u8 b 0) (u8 b 4)).foldl
        (fun x i => setDefect i { defectOf x i with setTime := u16 b 6, clearTime := u16 b 8 } x) x
    else x
  let x2 := if flag b 1 2 then { x1 with sdThreshold := s16 b 10, sdM := u8 b 12, sfM := u8 b 13, sfRatio := u8 b 14 } else x1
  if flag b 1 3 then { x2 with timActDis := flag b 1 0 } else x2
/-- TIM_ACT_DIS ends what a raw TIM did to tributaries: their TSF was set in this millisecond (R195). -/
def seenTim (e : Nat) (old new : Dev) : Dev :=
  (entitiesOf 0 e).foldl (fun d c =>
    if rawCoach old c 6 && actsOn old c 6 then (ridersOf old c).foldl (fun d q => seeQueue 3 q d) d else d) new
/-- DEDUCED: fields of groups that are not selected are not judged. -/
def defectConfigService : Service where
  opcode := 0x0311
  targets _ _ := [1]
  checks _ b :=
    let t := u8 b 0
    [(!(within 0 1 t && (decide (u16 b 2 < entityCount t) || u16 b 2 == 0xFFFF) && (decide (u8 b 4 < (if t = 0 then 10 else 3)) || u8 b 4 == 0xFF)
        && (!flag b 1 1 || (within 0 10000 (u16 b 6) && within 0 10000 (u16 b 8)))
        && (!flag b 1 2 || (withinI (-600) (-100) (s16 b 10) && within 1 255 (u8 b 12) && within 1 255 (u8 b 13) && within 1 100 (u8 b 14)))
        && (t == 0 || !(flag b 1 0 || flag b 1 2 || flag b 1 3))), outOfRange)]
  run _ b d :=
    let d1 := (entitiesOf (u8 b 0) (u16 b 2)).foldl (fun d e => modEntity (u8 b 0) e (writeGroups b) d) d
    okay (if u8 b 0 = 0 && flag b 1 3 then
        (entitiesOf 0 (u16 b 2)).foldl (fun d c => settleTwinsOn (engineOf c) (settleCoach c d)) (seenTim (u16 b 2) d d1)
      else d1)
def execDefectConfig (mb : Mailbox) : State → Host.Outcome State Fault Refusal := lift (serve defectConfigService mb)

/-- CONSEQ (R212). -/
def conseqCoach (d : Dev) (c : Nat) : Nat :=
  let sent (p : Header → Bool) : Bool := (coachTx d c).framesRun && (match (frameTx d c).sent with | some f => p f.header | none => false)
  b2n (sent (·.bdi)) + 2 * b2n (drivesAis d c && (ridersOf d c).any (fun q => (twinOf d true q).isNone)) + 4 * b2n (sent (fun h => h.stat == 1)) + 8 * b2n (ssf d c)
def conseqQueue (d : Dev) (q : Nat) : Nat :=
  b2n (rawQueue d q 0 && hasOwnSlots d q) + 2 * b2n (rawQueue d q 3) + 4 * b2n (tribOn d q && chdTx d q) + 8 * b2n (tribOn d q && chdRx d q)
    + 16 * b2n (rawQueue d q 3)
def defectStatusBody (t e : Nat) (d : Dev) : List Byte :=
  let n := if t = 0 then 10 else 3
  let x := entityOf d t e
  let raw := if t = 0 then rawCoach d e else rawQueue d e
  [0] ++ le 1 t ++ le 2 e ++ le 2 (bitsOf n raw) ++ le 2 (bitsOf n (fun i => (defectOf x i).declared))
    ++ le 2 (bitsOf n (fun i => (defectOf x i).reported)) ++ le 1 (if t = 0 then conseqCoach d e else conseqQueue d e) ++ [0]
    ++ le 4 (causeOf d (if t = 0 then .defectCoach e else .defectQueue e)).toNat ++ le 8 x.lastChange
    ++ (List.range 10).flatMap (fun i => le 2 (if i < n then (defectOf x i).declares else 0)) ++ zeros 4
def defectStatusService : Service where
  opcode := 0x0312
  targets _ _ := [1]
  freeze := .never
  checks _ b := [(!(within 0 1 (u8 b 0) && decide (u16 b 2 < entityCount (u8 b 0))), outOfRange)]
  run _ b d := done (defectStatusBody (u8 b 0) (u16 b 2) d)
    (clearCause (if u8 b 0 = 0 then .defectCoach (u16 b 2) else .defectQueue (u16 b 2)) (flag b 1 0) d)
def execDefectStatus (mb : Mailbox) : State → Host.Outcome State Fault Refusal := lift (serve defectStatusService mb)

def pmConfigService : Service where
  opcode := 0x0313
  targets _ _ := [1]
  checks _ b := [(!within 0 95 (u8 b 0), outOfRange)]
  run _ b d := okay { d with defects := { d.defects with dayStartNext := u8 b 0 } }
def execPmConfig (mb : Mailbox) : State → Host.Outcome State Fault Refusal := lift (serve pmConfigService mb)

/-- A closed bin carries SETTLING until 10 s after its boundary, where the next one starts, and while a second of it is not final (R207). -/
def settles (d : Dev) (b next : Bin) (waits : Bool) : Bool := b.valid && (waits || decide (nowNs d < next.start + 10000000000))
/-- The bin a request names, and whether it is still settling. -/
def binNamed (d : Dev) (x : Entity) (i : Nat) : Bin × Bool :=
  if i = 0 then (x.cur15, false)
  else if i ≤ 32 then
    let b := nth x.prev15 (i - 1) {}
    (b, settles d b (if i = 1 then x.cur15 else nth x.prev15 (i - 2) {}) (x.pending.any (fun s => s.counted && s.old15 == i)))
  else if i = 33 then (x.cur24, false)
  else (x.prev24, settles d x.prev24 x.cur24 (x.pending.any (fun s => s.counted && s.old24 == 1)))
def binFlags (b : Bin) (settling feNa ber : Bool) : Nat :=
  b2n b.valid + 2 * b2n settling + 4 * b2n b.suspect + 8 * b2n b.skipped + 16 * b2n b.incomplete + 32 * b2n b.partialBin + 64 * b2n feNa
    + 128 * b2n ber
/-- BER_Q of a coach; where BER_VALID is clear the values that R140 gives for a figure not available. -/
def binBerQ (b : Bin) : Option (List Byte) :=
  match b.berMin, b.berMax with
  | some lo, some hi =>
    let mean := (nth b.events 0 0, 30720 * b.cleared)
    some (leI 2 (berLog lo.1 lo.2) ++ leI 2 (berLog hi.1 hi.2) ++ leI 2 (berLog mean.1 mean.2)
      ++ leI 2 (berQDb mean.1 mean.2) ++ leI 2 (berQDb hi.1 hi.2))
  | _, _ => none
def noBerQ : List Byte := le 2 0x8000 ++ le 2 0x8000 ++ le 2 0x8000 ++ le 2 0x7FFF ++ le 2 0x7FFF
def pmReadBody (t i e : Nat) (d : Dev) : List Byte :=
  let (b, settling) := binNamed d (entityOf d t e) i
  let feNa := t == 1 || (coachRx d e).version == 2
  [0] ++ le 1 i ++ le 2 (binFlags b settling feNa (t == 0 && (binBerQ b).isSome)) ++ le 8 b.start ++ le 4 b.elapsed
    ++ le 4 b.es ++ le 4 b.ses ++ le 4 b.bbe ++ le 4 b.uas
    ++ (if feNa then zeros 16 else le 4 b.feEs ++ le 4 b.feSes ++ le 4 b.feBbe ++ le 4 b.feUas)
    ++ b.events.flatMap (le 8) ++ (if t = 0 then (binBerQ b).getD noBerQ else zeros 10) ++ zeros 6
def pmReadService : Service where
  opcode := 0x0314
  targets _ _ := [1]
  freeze := .never
  checks d b :=
    [(!(within 0 1 (u8 b 0) && within 0 34 (u8 b 1) && decide (u16 b 2 < entityCount (u8 b 0))), outOfRange),
     (!d.defects.cleared, { status := .uninitialised })]
  run _ b d := done (pmReadBody (u8 b 0) (u8 b 1) (u16 b 2) d) d
def execPmRead (mb : Mailbox) : State → Host.Outcome State Fault Refusal := lift (serve pmReadService mb)

/-- A cleared bin counts from zero and is SUSPECT. DEDUCED: its START and its flags stand. -/
def clearedBin (b : Bin) : Bin :=
  { valid := b.valid, suspect := true, skipped := b.skipped, incomplete := b.incomplete, partialBin := b.partialBin, start := b.start }
def pmClearService : Service where
  opcode := 0x0315
  targets _ _ := [1]
  checks _ b := [(!(within 0 1 (u8 b 0) && (decide (u16 b 2 < entityCount (u8 b 0)) || u16 b 2 == 0xFFFF)), outOfRange)]
  run _ b d :=
    okay ((entitiesOf (u8 b 0) (u16 b 2)).foldl (fun d e => modEntity (u8 b 0) e (fun x =>
      { x with cur15 := if flag b 1 0 then clearedBin x.cur15 else x.cur15, cur24 := if flag b 1 1 then clearedBin x.cur24 else x.cur24 }) d) d)
def execPmClear (mb : Mailbox) : State → Host.Outcome State Fault Refusal := lift (serve pmClearService mb)

end Sys2Proof.Machine
end

