-- ==== Sys2Proof/Machine/IxtasBits.lean ====
section
/-! DEFINITION. What a tone of the Ixtas channel carries: the packet's channel bits, the heartbeat and the wake pattern, as offsets from
the tone centre (R369, R370, R375, R381). -/

namespace Sys2Proof.Machine

/-- CRC-16 of R370. -/
def crc16 (bs : List Byte) : BitVec 16 := (bs.flatMap byteBits).foldl (crcBit 0x1021) 0xFFFF
def parity7 (v : BitVec 7) : Bool := (List.range 7).foldl (fun p i => p != v.getLsbD i) false
/-- The convolutional code K = 7, rate 1/2: the newest bit is the most significant of the register; for each input bit the output of
generator 171 octal, then that of 133 octal. -/
def convolve : BitVec 6 → List Bool → List Bool
  | _, [] => []
  | s, b :: t =>
    let r : BitVec 7 := (BitVec.ofBool b).append s
    parity7 (r &&& 0o171) :: parity7 (r &&& 0o133) :: convolve (r.extractLsb' 1 6) t
/-- Header, payload and CRC, high byte first, and 6 zero tail bits, coded from the zero state. -/
def codedBody (bytes : List Byte) : List Bool :=
  convolve 0 ((bytes ++ be 2 (crc16 bytes).toNat).flatMap byteBits ++ List.replicate 6 false)
/-- `n` preamble bits, 1010…, starting with 1. -/
def preambleBits (n : Nat) : List Bool := (List.range n).map (fun i => i % 2 == 0)
def wordBits (w : Word) : List Bool := (be 4 w.toNat).flatMap byteBits
/-- Symbol rate of a class in Bd. -/
def toneSymbolRate (cls : Nat) : Nat := if cls = 0 then 10000 else if cls = 1 then 40000 else if cls = 2 then 80000 else 160000
/-- Two channel bits of a 4-GFSK symbol, in quarters of the symbol rate: 10 is 3, 11 is 1, 01 is −1, 00 is −3. -/
def quarterOf (b b' : Bool) : Int := if b then (if b' then 1 else 3) else (if b' then -1 else -3)
def pairSymbols : List Bool → List Int
  | b :: b' :: t => quarterOf b b' :: pairSymbols t
  | _ => []
/-- Offsets from the tone centre in Hz, symbol by symbol: in 2-GFSK ±1/4 of the symbol rate; in 4-GFSK each preamble bit an outer
symbol, the other bits two per symbol (R369). -/
def deviations (cls : Nat) (pre rest : List Bool) : List Int :=
  let quarters : List Int :=
    if cls < 2 then (pre ++ rest).map (fun b => if b then 1 else -1)
    else pre.map (fun b => if b then 3 else -3) ++ pairSymbols rest
  quarters.map (fun q => q * (toneSymbolRate cls / 4 : Nat))
/-- A packet on air: 32 preamble bits, the sync word most significant bit first, the coded body. -/
def packetSymbols (sync : Word) (cls : Nat) (bytes : List Byte) : List Int :=
  deviations cls (preambleBits 32) (wordBits sync ++ codedBody bytes)
/-- A twin heartbeat in short form: 16 preamble bits and the heartbeat word (R375). -/
def heartbeatSymbols (cls : Nat) (word : Word) : List Int := deviations cls (preambleBits 16) (wordBits word)
/-- Bits in which two words differ. -/
def bitErrors {n : Nat} (a b : BitVec n) : Nat := ((List.range n).filter (fun i => a.getLsbD i != b.getLsbD i)).length
/-- The word of the wake pattern, most significant bit first; the pattern, uncoded at class A, `r` times (R381). -/
def wakeWord : BitVec 64 := 0xB5E21C7A4D930F68
def wakeSymbols (r : Nat) : List Int :=
  deviations 0 [] ((List.replicate r ((be 8 wakeWord.toNat).flatMap byteBits)).flatten)

end Sys2Proof.Machine
end

