-- ==== Sys2Proof/Machine/IxtasSend.lean ====
section
/-! DEFINITION. Sending on the Ixtas channel: packets, protection, fragments, the scheduler, heartbeats and wake patterns (R366 to
R377, R381 to R385). -/

namespace Sys2Proof.Machine

/-- Firmware runs. -/
def firmwareRuns (d : Dev) : Bool := d.fw.state == .running && !mgtStopped d

/-! ## Packets (R370, R371, R374) -/

/-- The header of a packet. -/
def ixtasHeader (version : Nat) (frag prot : Bool) (source dest kind len seq : Nat) : List Byte :=
  le 1 (version + 16 * b2n frag + 32 * b2n prot) ++ be 2 source ++ be 2 dest ++ le 1 kind ++ le 1 len ++ le 1 seq
/-- SOURCE of a coach and DEST of its partner: 0xFFFF until the partner is heard (DESIGN CHOICE). -/
def sourceOf (d : Dev) (c : Nat) : Nat := c + 256 * (ixtasEngine d (engineOf c)).node
def heardNow (p : Partner) : Bool := p.state == .heard || p.state == .known
def destOf (d : Dev) (c : Nat) : Nat :=
  let p := partnerOf d c
  if heardNow p then p.coach + 256 * p.node else 0xFFFF
/-- A protected payload: INVOCATION, ciphertext, tag; the header is the additional data. -/
def sealPayload (x : VaultEntry) (header plain : List Byte) : List Byte :=
  let s := gcmSeal x.key (ivOf x.salt x.count) header plain
  be 4 x.count ++ s.1 ++ s.2
/-- The vault entry of the coach's Ixtas transmit key, where it is held (R374, R382). -/
def sealKey (d : Dev) (c : Nat) : Option Nat := (partnerOf d c).keyTx.bind (findKey d)
def openKey (d : Dev) (c : Nat) : Option Nat := (partnerOf d c).keyRx.bind (findKey d)
def keyHeld (d : Dev) (c : Nat) : Bool := (sealKey d c).isSome
/-- Packets of the coach are protected: the key is held and the partner's version is not 2 (R382, R384). -/
def protects (d : Dev) (c : Nat) : Bool := keyHeld d c && (partnerOf d c).ixtas != 2
/-- Ixtas version used to the partner: the highest common one, 3 until it is heard (DEDUCED). -/
def ixtasVersion (d : Dev) (c : Nat) : Nat := let p := partnerOf d c; if heardNow p && p.ixtas = 2 then 2 else 3
/-- The coach's own tone carries heartbeats (R375). -/
def beats (d : Dev) (c : Nat) : Bool := !(txTwins d c).isEmpty
/-- DEDUCED: a tone that carries heartbeats never uses classes A and B, whose shortest packet does not fit between two (R377). -/
def classOn (d : Dev) (c cls : Nat) : Nat := if beats d c && cls < 2 then 2 else cls
/-- The class in use: TX_CLASS, else the one negotiated; class D never goes to a version 2 partner (R384). -/
def classNow (d : Dev) (c : Nat) : Nat :=
  let g := (ixtasCoach d c).txClass
  let k := if g < 4 then g else (partnerOf d c).cls
  classOn d c (if k = 3 && ixtasVersion d c = 2 then 2 else k)
/-- The largest payload that the tone takes (R371, R377). -/
def payloadLimit (d : Dev) (c cls : Nat) : Nat :=
  if beats d c then min 240 (((5000000 - heartbeatAir (ixtasCoach d c).hbClass - 50000) / ixtasUnit cls - 134) / 8) else 240
/-- Queue a packet on the coach's tone, taking its PSEQ and, where protected, an invocation of the key. -/
def queuePacket (c level cls version kind dest : Nat) (frag : Bool) (key : Option Nat) (plain : List Byte) (d : Dev) : Dev :=
  let t := toneTx d c
  let len := plain.length + (if key.isSome then 20 else 0)
  let h := ixtasHeader version frag key.isSome (sourceOf d c) dest kind len t.seq
  let put (bs : List Byte) (d : Dev) : Dev :=
    setTone c { t with seq := (t.seq + 1) % 256, waiting := t.waiting ++ [{ level := level, cls := cls, bytes := bs }] } d
  match key with
  | none => put (h ++ plain) d
  | some i => innerJob .ixtas (ceilDiv h.length 16 + ceilDiv plain.length 16) (useKey i (put (h ++ sealPayload (vaultEntry d i) h plain) d))
/-- The fragments of a message (R373). -/
def fragmentsOf (ident room : Nat) (body : List Byte) : List (List Byte) :=
  let ps := byteChunks room body.length body
  ps.mapIdx (fun i p => le 2 ident ++ le 1 i ++ le 1 ps.length ++ p)
/-- Key-agreement messages. DEDUCED: each goes in fragments, one where it fits a packet, and so carries a MSG_ID (R382, R386). -/
def kaKind (kind : Nat) : Bool := within 0x10 0x13 kind
/-- Airtime of a message in clear, its fragments together. -/
def messageAir (d : Dev) (c cls kind : Nat) (body : List Byte) : Nat :=
  let room := payloadLimit d c cls
  if body.length ≤ room && !kaKind kind then packetAir cls body.length
  else ((fragmentsOf 0 (room - 4) body).map (fun p => packetAir cls p.length)).sum
/-- Queue a message on the coach's tone, in fragments of this MSG_ID where it does not fit one packet. -/
def queueMessage (c level cls version kind dest ident room : Nat) (key : Option Nat) (body : List Byte) (d : Dev) : Dev :=
  if body.length ≤ room && !kaKind kind then queuePacket c level cls version kind dest false key body d
  else (fragmentsOf ident (room - 4) body).foldl (fun d p => queuePacket c level cls version kind dest true key p d) d
/-- Send a message on the coach's tone, in fragments where it does not fit one packet. A key at its limit sends nothing. -/
def sendAs (c level cls version kind dest : Nat) (clear : Bool) (body : List Byte) (d : Dev) : Dev :=
  let key := if clear then none else if protects d c then sealKey d c else none
  let room := payloadLimit d c cls - (if key.isSome then 20 else 0)
  let n := engineOf c
  match key with
  | some i => if spent d i then d else go key room n d
  | none => go key room n d
where
  go (key : Option Nat) (room n : Nat) (d : Dev) : Dev :=
    let e := ixtasEngine d n
    queueMessage c level cls version kind dest e.ident room key body
      (if body.length ≤ room && !kaKind kind then d else setIxtasEngine n { e with ident := (e.ident + 1) % 65536 } d)
/-- Send a message to the partner in the class and version in use. -/
def sendToPartner (c level kind : Nat) (clear : Bool) (body : List Byte) (d : Dev) : Dev :=
  sendAs c level (classNow d c) (ixtasVersion d c) kind (destOf d c) clear body d

/-- Repeat a message in clear under the MSG_ID that it was sent with (R386). -/
def repeatToPartner (c level kind ident : Nat) (body : List Byte) (d : Dev) : Dev :=
  queueMessage c level (classNow d c) (ixtasVersion d c) kind (destOf d c) ident (payloadLimit d c (classNow d c)) none body d

/-! ## Messages of firmware (R383 to R385) -/

def fingerprintBytes : List Byte := be 48 ownFingerprint.toNat
def policyOf (d : Dev) (c : Nat) : KeyPolicy := tabGet (fun _ => {}) d.trust.policy c
/-- The payload of HELLO. -/
def helloPayload (d : Dev) (c : Nat) : List Byte :=
  let p := partnerOf d c
  [6, 6, 0x0F] ++ le 1 p.cn0 ++ le 1 c ++ le 1 (b2n (keyHeld d c) + 2 * b2n (!p.helloSent)) ++ zeros 2 ++ fingerprintBytes.take 16
/-- The seven combinations of class and version (R384). -/
def helloCycle : List (Nat × Nat) := [(3, 3), (2, 3), (2, 2), (1, 3), (1, 2), (0, 3), (0, 2)]
/-- Send a HELLO: to a partner that is heard in the class and version in use, else the next combination of the cycle. -/
def sendHello (c : Nat) (d : Dev) : Dev :=
  let p := partnerOf d c
  let body := helloPayload d c
  if heardNow p then setPartner c { p with helloSent := true } (sendToPartner c 3 1 true body d)
  else
    let k := nth helloCycle p.cycle (3, 3)
    sendAs c 3 (classOn d c k.1) k.2 1 0xFFFF true body
      (setPartner c { p with helloSent := true, cycle := (p.cycle + 1) % 7, cls := k.1 } d)
/-- The payload of CAPABILITY. -/
def capabilityPayload (d : Dev) (c : Nat) : List Byte :=
  let g := (coachTx d c).cfg
  fingerprintBytes ++ le 1 c ++ le 1 (engTx d (engineOf c)).rate ++ le 1 g.slots ++ le 1 g.profile ++ le 1 g.version
    ++ le 1 (b2n (tabGet (fun _ => {}) d.cipher.tx c).mode + 2 * txRole d c + 8 * b2n (litCoach d c) + 16 * (policyOf d c).source)
    ++ le 2 g.seedX ++ le 2 g.seedY ++ zeros 6
/-- The tag of a trace text (R385). -/
def traceTag (text : List Byte) : Nat := (crc16 text).toNat
def sendTrace (c : Nat) (d : Dev) : Dev :=
  let t := (ixtasCoach d c).text
  sendToPartner c 4 3 false (le 2 (traceTag t) ++ t) d
/-- CAPABILITY, and TRACE after it. -/
def sendCapability (c : Nat) (d : Dev) : Dev :=
  let body := capabilityPayload d c
  sendTrace c (setPartner c { partnerOf d c with sent := body } (sendToPartner c 4 2 false body d))
/-- Firmware sends on the coach's tone. -/
def firmwareSends (d : Dev) (c : Nat) : Bool := firmwareRuns d && (ixtasEngine d (engineOf c)).tx && !engineOff d (engineOf c)
/-- HELLO_PERIOD has passed. -/
def execHelloPeriod (c : Coach) : State → Host.Outcome State Fault Refusal :=
  lift fun d => guard (firmwareSends d c) (sendHello c) d
/-- CAPABILITY goes out again where a field has changed since it was last sent (R383). -/
def announceChange (c : Nat) (d : Dev) : Dev :=
  let p := partnerOf d c
  if firmwareSends d c && heardNow p && !p.sent.isEmpty && capabilityPayload d c != p.sent then sendCapability c d else d
def announceChanges (d : Dev) : Dev := (d.ixtas.partners.map (·.1)).foldl (fun d c => announceChange c d) d

/-! ## The scheduler (R336, R376, R377) -/

/-- Heartbeats of the engine's tones that start in [a, b): start and end in ns. -/
def heartbeatsDue (d : Dev) (n a b : Nat) : List (Nat × Nat) :=
  ((coachesOf n).filter (beats d)).flatMap (fun c =>
    ((List.range (b / 5000000 + 1 - a / 5000000)).map (fun i => 5000000 * (a / 5000000 + i) + 312500 * (c % 16))).filterMap
      (fun s => if a ≤ s && s < b then some (s, s + heartbeatAir (ixtasCoach d c).hbClass) else none))
/-- Tones on air at instant `x` if tone `t` starts now, with the heartbeats `hs`. -/
def tonesAt (d : Dev) (t x : Nat) (hs : List (Nat × Nat)) : Nat :=
  1 + ((coachesOf (t / 16)).filter (fun u => u != t && decide (x < airEnd (toneTx d u)))).length
    + (hs.filter (fun h => h.1 ≤ x && x < h.2)).length
/-- The number of tones stays at or below MAX_TONES throughout the airtime. -/
def tonesFit (d : Dev) (t ns : Nat) : Bool :=
  let now := nowNs d
  let hs := heartbeatsDue d (t / 16) now (now + ns)
  (now :: hs.map (·.1)).all (fun x => decide (tonesAt d t x hs ≤ (ixtasEngine d (t / 16)).tones))
/-- DEVTIME stands at a start of the tone's heartbeat, or has passed it by the one nanosecond that a fast clock may skip. -/
def beatTick (d : Dev) (c : Nat) : Bool := decide ((nowNs d + 5000000 - 312500 * (c % 16)) % 5000000 ≤ 1)
/-- The packet ends at least 50 µs before the tone's own next heartbeat; none starts at a heartbeat's own tick. -/
def beatFits (d : Dev) (t ns : Nat) : Bool :=
  !beats d t || (!beatTick d t && let now := nowNs d
                 let k := 312500 * (t % 16)
                 decide (ns + 50000 ≤ 5000000 - (now + 5000000 - k) % 5000000))
/-- What waits on a tone and goes first: the lowest level, the oldest within it. -/
def firstWaiting : List Outgoing → Option Outgoing
  | [] => none
  | p :: t => match firstWaiting t with
    | none => some p
    | some q => if q.level < p.level then some q else some p
def outgoingAir (p : Outgoing) : Nat := if p.wake = 0 then packetAir p.cls (p.bytes.length - 8) else wakeAir p.wake
/-- A deferral by the airtime brake, counted once for a packet. -/
def deferPacket (t : Nat) (p : Outgoing) (d : Dev) : Dev :=
  if p.deferred then d
  else
    let x := toneTx d t
    ixtasTally (t / 16) 10 (ixtasCount (t / 16) 11 1
      (setTone t { x with waiting := x.waiting.map (fun q => if q = p then { q with deferred := true } else q) } d))
/-- A packet goes on air. -/
def airPacket (t : Nat) (p : Outgoing) (d : Dev) : Dev :=
  let x := toneTx d t
  let d1 := putOnAir t (outgoingAir p) (setTone t { x with
    waiting := x.waiting.erase p, last := p.bytes
    symbols := if p.wake = 0 then packetSymbols (ixtasEngine d (t / 16)).sync p.cls p.bytes else wakeSymbols p.wake } d)
  if p.wake = 0 then ixtasTally (t / 16) 7 (ixtasCount (t / 16) 10 1 d1) else d1
/-- Start what waits first, if its tone, the number of tones, the next heartbeat and the airtime brake allow it. -/
def startPacket (t : Nat) (d : Dev) : Dev :=
  match firstWaiting (toneTx d t).waiting with
  | none => d
  | some p =>
    if toneBusy d t || !tonesFit d t (outgoingAir p) || !beatFits d t (outgoingAir p) then d
    else if airAllows d t (outgoingAir p) then airPacket t p d
    else deferPacket t p d
/-- The engine's Ixtas transmitter works. -/
def ixtasSends (d : Dev) (n : Nat) : Bool := (ixtasEngine d n).tx && emits d n && !engineOff d n
def execIxtasPacketStart (n : Engine) (tone : Fin 16) : State → Host.Outcome State Fault Refusal :=
  lift fun d => guard (ixtasSends d n) (startPacket (16 * n + tone)) d

/-! ## Heartbeats (R375) -/

/-- The heartbeat word of a coach with a role on an engine with this sync word. -/
def heartbeatWord (sync : Word) (role c : Nat) : Word := (~~~ sync) ^^^ BitVec.ofNat 32 (role * 256 + c)
/-- A heartbeat falls due: sent, or deferred by MAX_TONES or the airtime brake. DEDUCED: a deferred heartbeat is not made up, since
heartbeats start at their own ticks only. -/
def sendHeartbeat (c : Nat) (d : Dev) : Dev :=
  let n := engineOf c
  let e := ixtasEngine d n
  let ns := heartbeatAir (ixtasCoach d c).hbClass
  if !airAllows d c ns then ixtasCause n 2 (ixtasTally n 10 (ixtasCount n 11 1 d))
  else if toneBusy d c || e.tones ≤ tonesOnAir d n then ixtasCause n 2 d
  else
    let w := heartbeatWord e.sync (txRole d c) c
    let d1 := putOnAir c ns (setTone c { toneTx d c with last := be 4 w.toNat, symbols := heartbeatSymbols (ixtasCoach d c).hbClass w } d)
    ixtasTally n 8 d1
def execTwinHeartbeatSend (c : Coach) : State → Host.Outcome State Fault Refusal :=
  lift fun d => guard (beats d c && ixtasSends d (engineOf c) && beatTick d c) (sendHeartbeat c) d
/-- A heartbeat that matches the word expected from the partner is present; any other is a miss. -/
def execTwinHeartbeatReceive (c : Coach) (word : Word) : State → Host.Outcome State Fault Refusal :=
  lift fun d => guard ((ixtasEngine d (engineOf c)).rx && !engineOff d (engineOf c) && (partnerOf d c).hbWord == some word)
    (fun d => modChain c ixtasSeen (ixtasTally (engineOf c) 9 d)) d

/-! ## The depth brake (R336, R367) -/

/-- Hold the configured dither depth to IXTAS_DEPTH. -/
def clampDepth (n : Nat) (d : Dev) : Dev :=
  let e := ixtasEngine d n
  let m := ixtasDepth d n
  if e.depth * e.tones ≤ m then d
  else
    let k := m / e.depth
    raiseCause (.engTx n) 4
      (setIxtasEngine n { e with tones := if k = 0 then 1 else k, depth := if k = 0 then m else e.depth, capped := true } d)

end Sys2Proof.Machine
end

