-- ==== Sys2Proof/Machine/AgreeStart.lean ====
section
/-! DEFINITION. Starting a key agreement, as initiator or as responder, and what both derive (R321 to R323, R325, R326). -/

namespace Sys2Proof.Machine

def agreement (d : Dev) (c : Nat) : Agreement := tabGet (fun _ => {}) d.trust.agree c
def setAgreement (c : Nat) (x : Agreement) (d : Dev) : Dev :=
  { d with trust := { d.trust with agree := tabPut (fun _ => {}) d.trust.agree c x } }
/-- An attempt is running. -/
def KaState.running : KaState → Bool
  | .idle | .waiting => false
  | .initSent | .respSent | .confirmSent => true
/-- Agreements running (R326, R338). -/
def agreementsRunning (d : Dev) : Nat := (d.trust.agree.filter (fun e => e.2.state.running)).length
/-- Every agreement is refused: ZEROIZE_N is low, or the identity keys are erased (R327). DEDUCED: messages then go unanswered too, and
an agreement that was running ends at KA_TIMEOUT. -/
def agreeBarred (d : Dev) : Bool := d.pins.zeroizeLow || d.trust.identityErased
/-- Firmware may start an agreement: none is barred, it runs, no entry to a power state is in progress (R514), no freeze is engaged, and
fewer than 16 run (R326). -/
def mayAgree (d : Dev) : Bool := !agreeBarred d && firmwareRuns d && d.power.state != .entering && !freezeOn d && decide (agreementsRunning d < 16)
/-- Bytes that the key-agreement unit draws: public values and nonces. -/
def kaBytes (draw i n : Nat) : List Byte := (List.range n).map (fun j => Config.kaByte draw (i + j))
/-- Send KA_INIT: identifier, ephemeral key, encapsulation key, nonce (1,705 bytes). -/
def startAgreement (c : Nat) (d : Dev) : Dev :=
  let x := agreement d c
  let body := kaBytes d.free 0 1705
  let d1 := setAgreement c { x with state := .initSent, attempts := sat 0xFFFF (x.attempts + 1), ident := BitVec.ofNat 64 (u64 body 0)
                                    initBody := body, began := nowNs d, retryAt := none } { d with free := d.free + 1 }
  sendToPartner c 2 0x10 true body d1
/-! ## Derivation (R323). DEDUCED: START_FC is sent in 8 bytes, KEY_INDEX in one, as in CIPHER_KEY_LOAD. -/

/-- KA_RESP without its signatures. -/
def unsignedResp (resp : List Byte) : List Byte := resp.take 1705
/-- TH. -/
def transcript (init resp : List Byte) : List Byte := digest (init ++ unsignedResp resp)
/-- "STRELEM-LINE". -/
def lineLabel : List Byte := [0x53, 0x54, 0x52, 0x45, 0x4C, 0x45, 0x4D, 0x2D, 0x4C, 0x49, 0x4E, 0x45]
/-- The 144 derived bytes: extraction over Z with the nonces as salt, expansion with the label and TH. -/
def derivedBytes (init resp : List Byte) : List Byte :=
  let z := (List.range 80).map (Config.kaSecret init (unsignedResp resp))
  expand (hmac384 (part init 1673 32 ++ part resp 1673 32) z) lineLabel (transcript init resp) 144
/-- Key number `i` of the derived bytes: 0 initiator to responder, 1 responder to initiator; with its salt. -/
def lineKey (x : List Byte) (i : Nat) : BitVec 256 := BitVec.ofNat 256 (beNat (part x (40 * i) 32))
def lineSalt (x : List Byte) (i : Nat) : BitVec 64 := BitVec.ofNat 64 (leNat (part x (40 * i + 32) 8))
def protectionKey (x : List Byte) : BitVec 256 := BitVec.ofNat 256 (beNat (part x 80 32))
/-- Both signatures over TH and a label byte. -/
def bothSignatures (th : List Byte) (label : Byte) : List Byte :=
  signature Config.ecdsaSign (th ++ [label]) 0 96 ++ signature Config.mldsaSign (th ++ [label]) 0 4627

/-- The responder answers a KA_INIT with KA_RESP. -/
def respond (c : Nat) (peer : BitVec 384) (init : List Byte) (d : Dev) : Dev :=
  let x := agreement d c
  let open_ := part init 0 8 ++ kaBytes d.free 8 1697
  let resp := open_ ++ bothSignatures (transcript init open_) 0x52
  sendToPartner c 2 0x11 true resp
    (setAgreement c { x with state := .respSent, ident := BitVec.ofNat 64 (u64 init 0), initBody := init, respBody := resp
                             derived := derivedBytes init resp, began := nowNs d, peer := peer, retryAt := none
                             heldInit := none, lastConfirm := [], lastSettle := [] } { d with free := d.free + 1 })
/-! ## Waiting (R326) -/

/-- Start an agreement on a coach under KEY_SOURCE 0 that runs none; where none may start now the coach waits (R326). DEDUCED: a
start that a freeze holds back waits for the freeze to lift. -/
def wantAgreement (c : Nat) (d : Dev) : Dev :=
  let x := agreement d c
  if (policyOf d c).source != 0 || x.state != .idle || agreeBarred d then d
  else if mayAgree d then startAgreement c d
  else setAgreement c { x with state := .waiting, retryAt := none } d
/-- Start the agreements that wait, in coach order, as far as they may start: a KA_INIT that came while 16 ran is answered, else an own
one is sent. -/
def startWaiting (d : Dev) : Dev :=
  (d.trust.agree.map (·.1)).foldl (fun d c =>
    let x := agreement d c
    if x.state == .waiting && mayAgree d then
      match x.heldInit with
      | some (peer, init) => respond c peer init d
      | none => startAgreement c d
    else d) d
/-- Cipher cause `b` of a coach that makes firmware start an agreement: USAGE_WARN (1) or KEY_MISMATCH (5). An initiator whose KA_SETTLE has not come
when KEY_MISMATCH shows that the responder has switched ends that attempt and starts anew at once (R325). -/
def cipherAlarm (c b : Nat) (d : Dev) : Dev :=
  let d1 := raiseCause (.cipherCoach c) b d
  let x := agreement d1 c
  wantAgreement c (if b = 5 && x.state == .confirmSent && firmwareRuns d then
      raiseCause (.agree c) 1 (setAgreement c { x with state := .idle, result := 1 } d1)
    else d1)
/-- A transmit key has come into use. -/
def noteKeyUse (c : Nat) (d : Dev) : Dev := setAgreement c { agreement d c with usedSince := nowNs d } d

end Sys2Proof.Machine
end

