-- ==== Sys2Proof/Machine/Twin.lean ====
section
/-! DEFINITION. Twin-path protection: the twin stream, the merge, alignment, restart and the yard (R341 to R365). -/

namespace Sys2Proof.Machine

/-! ## The twin stream (R343 to R346) -/

/-- Words of a twin block with its header. -/
def blockWords : Nat := 513
/-- The header word of a twin block. -/
def twinHeader (seq id : Nat) (restart recut : Bool) : QWord :=
  let v := seq % 2 ^ 32 + 2 ^ 32 * (id % 4096) + 2 ^ 44 * b2n restart + 2 ^ 45 * b2n recut
  BitVec.ofNat 64 (v + 2 ^ 56 * (crc8 (le 7 v)).toNat)
def twinSeq (h : QWord) : Nat := h.toNat % 2 ^ 32
def twinHeaderOk (id : Nat) (h : QWord) : Bool :=
  h.toNat / 2 ^ 56 == (crc8 (le 7 h.toNat)).toNat && h.toNat / 2 ^ 32 % 4096 == id
/-- Stream word number after the last word cut so far. -/
def streamEnd (x : TwinTx) : Nat := x.base + x.stream.length
/-- The next word of the stream: a header at a block boundary, else the next word of the queue; nothing while the stream has them all. -/
def extendOne (w : Nat) (d : Dev) : Option Dev :=
  let x := twinTx d w
  if (txStore (txQueue d (twinCfg d w).queue)).total ≤ queuedIn x.stream then none
  else some (setTwinTx w (if x.left = 0 then
      { x with stream := x.stream ++ [.header (twinHeader x.seq (twinCfg d w).ident x.restart (x.recut != 0))], seq := (x.seq + 1) % 2 ^ 32
               left := 512, restart := false }
    else { x with stream := x.stream ++ [.queued], left := x.left - 1, recut := x.recut - 1 }) d)
/-- Extend the stream by up to `n` words. -/
def extendBy (w : Nat) : Nat → Dev → Dev
  | 0, d => d
  | n + 1, d => match extendOne w d with | some d1 => extendBy w n d1 | none => d
def detached (x : TwinTx) (b : Bool) : Bool := if b then x.detachedB else x.detachedA
def setPtr (x : TwinTx) (b : Bool) (n : Nat) : TwinTx := if b then { x with ptrB := n } else { x with ptrA := n }
def setDetached (x : TwinTx) (b v : Bool) : TwinTx := if b then { x with detachedB := v } else { x with detachedA := v }
/-- The values of stream words, those still in the queue being `ws`. -/
def twinWords : List TwinWord → List QWord → List QWord
  | [], _ => []
  | .header h :: t, ws => h :: twinWords t ws
  | .taken w :: t, ws => w :: twinWords t ws
  | .queued :: t, w :: ws => w :: twinWords t ws
  | .queued :: _, [] => []
/-- Data words among stream words. -/
def dataIn (l : List TwinWord) : Nat := (l.filter (fun v => v == .queued || (takenWord v).isSome)).length
/-- Words that every attached path has sent leave the stream, and count as the tributary's words sent. -/
def trimStream (w : Nat) (d : Dev) : Dev :=
  let x := twinTx d w
  let k := min (rearmost x (ptrOf x)) (streamEnd x) - x.base
  sentTx (twinCfg d w).queue (dataIn (x.stream.take k)) (setTwinTx w { x with stream := x.stream.drop k, base := x.base + k } d)
/-- A path whose pointer falls more than 63 blocks behind the other's is detached (R346). -/
def checkDetach (w : Nat) (b : Bool) (d : Dev) : Dev :=
  let x := twinTx d w
  if !detached x b && decide (posOf x b + 63 * blockWords < posOf x (!b)) then
    raiseCauseMs (.twin w) 7 (setTwinTx w (setDetached x b true) d)
  else d
/-- A detached path whose legs can take words again reattaches at the first block boundary after the leading pointer. -/
def reattach (x : TwinTx) (b : Bool) : TwinTx :=
  if detached x b then
    let e := streamEnd x + x.left
    setDetached (setPtr x b (e - (e - posOf x (!b)) / blockWords * blockWords)) b false
  else x
/-- A leg of a path takes up to `n` words at its cut instant, from its path's pointer and what its other legs have cut on (R345): how many. -/
def cutTwin (w : Nat) (b : Bool) (n : Nat) (d : Dev) : Nat × Dev :=
  let x := reattach (twinTx d w) b
  let p := posOf x b
  let d1 := extendBy w (p + n - streamEnd x) (setTwinTx w x d)
  let y := twinTx d1 w
  let k := min n (streamEnd y - p)
  (k, settleTaken w (trimStream w (checkDetach w (!b) (setTwinTx w (withCut y b (cutOf y b + k)) d1))))
/-- A leg that cut `n` words is sent: its words and OFFSET, the stream word number of R221; the path's pointer moves on. A path that was
detached in between has none to send. -/
def sendTwin (w : Nat) (b : Bool) (n : Nat) (d : Dev) : List QWord × Nat × Dev :=
  let x := twinTx d w
  let q := (twinCfg d w).queue
  let p := ptrOf x b
  let ws := if detached x b then [] else ((twinWords x.stream (txStore (txQueue d q)).all).drop (p - x.base)).take n
  let y := withCut (setPtr x b (p + ws.length)) b (cutOf x b - n)
  let d1 := setTxQueue q { txQueue d q with next := max y.ptrA y.ptrB % 2 ^ 32 } (setTwinTx w y d)
  (ws, p % 2 ^ 32, settleTaken w (trimStream w d1))
/-- Every word of the stream that is not yet sent by every attached path is in the queue again, at its head. -/
def emptyStream (w : Nat) (d : Dev) : Dev :=
  let x := twinTx d w
  let q := (twinCfg d w).queue
  setTwinTx w { x with stream := [] } (setTxQueue q { txQueue d q with depot := x.stream.filterMap takenWord ++ (txQueue d q).depot } d)
/-- A restart of the numbering (R344): SEQ 0 from the oldest data word not yet sent by every attached path; the words sent already are cut
again. Stream word numbers go on. DEDUCED: a path that lags goes on at the leading path's stream word number, the words between being
cut again under the new numbering, which legs that are cut and not yet sent carry too; a detached path stays so. -/
def restartTwin (w : Nat) (d : Dev) : Dev :=
  let x := twinTx d w
  let e := max x.ptrA x.ptrB
  settleTaken w (extendBy w (max x.cutA x.cutB) (setTwinTx w
    { base := e, ptrA := e, ptrB := e, recut := dataIn (x.stream.take (e - x.base)), cutA := x.cutA, cutB := x.cutB
      detachedA := x.detachedA, detachedB := x.detachedB } (emptyStream w d)))
/-- The transmit side is enabled: a new numbering at the queue's head, at the tributary's stream word number. -/
def startTwin (w : Nat) (d : Dev) : Dev :=
  let n := (txQueue d (twinCfg d w).queue).next
  setTwinTx w { base := n, ptrA := n, ptrB := n } d
/-- The transmit side is disabled. DESIGN CHOICE: words that a path has not sent stay in the queue, and are sent again as a plain tributary's. -/
def stopTwin (w : Nat) (d : Dev) : Dev := settlePressure (twinCfg d w).queue (setTwinTx w {} (emptyStream w d))

/-! ## Alignment (R349, R350) -/

/-- A_USE after a measurement on two paths in service: a step to |D|, else the slew goes on. DEDUCED: a measurement is made as a block
arrives, which is the block boundary at which a step falls. -/
def alignUse (w : Nat) (d : Dev) : Dev :=
  let x := slewNow d (twinRx d w)
  let m := mag (measuredD x)
  let b := decide (measuredD x < 0)
  let g := (twinCfg d w).guard_ * 1000
  if x.a.state != .inService || x.b.state != .inService then d
  else if decide (x.aUse + g / 2 < m) || b != x.bEarlier then
    twinCause w 4 (twinCount w 7 1 (setTwinRx w { x with aUse := m, aPart := 0, bEarlier := b } d))
  else setTwinRx w x d
/-- Path b has come into service beside the other for the first time since A_USE started at 0. Where it is the shorter path, the output
already runs at the longer one's delay, and it aligns without a step. -/
def firstUse (w : Nat) (b : Bool) (d : Dev) : Dev :=
  let x := twinRx d w
  let early := decide (measuredD x < 0)
  if x.a.state != .inService || x.b.state != .inService then d
  else if !x.aligned && early == b then
    setTwinRx w { x with aUse := mag (measuredD x), aPart := 0, bEarlier := early, aligned := true, slewAt := elapsedNs d } d
  else alignUse w (setTwinRx w { x with aligned := true } d)
/-- The limit on |D|: beyond it the later path is failed (R350). -/
def checkDelay (w : Nat) (d : Dev) : Dev :=
  let x := twinRx d w
  let beyond := decide ((twinCfg d w).maxDiff * 1000 < mag (measuredD x))
  let d1 := setTwinRx w { x with exceeded := beyond, bEarlier := if beyond then decide (measuredD x < 0) else x.bEarlier } d
  settleTwin w (if beyond && !x.exceeded then twinCause w 5 d1 else d1)
/-- An arrival of a sequence number pairs with the other path's (R349); arrivals without their pair are kept while their numbers are distinct. -/
def pairArrival (w : Nat) (b : Bool) (s : Nat) (d : Dev) : Dev :=
  let x := slewNow d (twinRx d w)
  let t := nowNs d
  match x.arrivals.find? (fun e => e.1 == s && e.2.1 != b) with
  | some e =>
    let delta : Int := if b then (t : Int) - (e.2.2 : Int) else (e.2.2 : Int) - (t : Int)
    alignUse w (checkDelay w (setTwinRx w { x with pairs := (delta :: x.pairs).take 256, arrivals := x.arrivals.erase e } d))
  | none => setTwinRx w { x with arrivals := ((s, b, t) :: x.arrivals).take (2 ^ 31) } d
/-- The other path brings copies. -/
def liveOther (x : TwinRx) (b : Bool) : Bool :=
  let p := pathOf x (!b)
  p.state == .inService || (p.state == .realigning && decide (0 < p.copies))
/-- A REALIGNING path comes into service with its 16th valid copy, D being measured on them. DEDUCED: with no copies of the other
path there is no D to measure. -/
def checkService (w : Nat) (b : Bool) (d : Dev) : Dev :=
  let x := twinRx d w
  let p := pathOf x b
  if p.state == .realigning && decide (16 ≤ p.copies) && (decide (16 ≤ x.pairs.length) || !liveOther x b) then
    firstUse w b (enterPath w b .inService d)
  else d

/-! ## The merge (R351 to R353, R356) -/

/-- `s` lies behind `n`: within the 2³¹ values below it. -/
def behindSeq (s n : Nat) : Bool := s != n && decide (modSub (2 ^ 32) n s ≤ 2 ^ 31)
/-- The SEQ to release next and the numberings that still wait: one begins once nothing is held of the one before. -/
def numbering (held : List HeldCopy) : Nat → List Nat → Nat × List Nat
  | n, [] => (n, [])
  | n, s :: t => if held.any (fun c => c.old == t.length + 1) then (n, s :: t) else numbering held s t
def takeRebase (w : Nat) (d : Dev) : Dev :=
  let x := twinRx d w
  let r := numbering x.held x.next x.rebaseTo
  setTwinRx w { x with next := r.1, rebaseTo := r.2 } d
/-- Set NEXT_SEQ anew: at once with nothing held of the old numbering, else when the blocks held under it have been released (R352). Of the
copies held, those that `new` names have the new numbering. -/
def rebase (w s : Nat) (new : HeldCopy → Bool) (d : Dev) : Dev :=
  let x := twinRx d w
  takeRebase w (twinCause w 8 (setTwinRx w
    { x with held := x.held.map (fun c => { c with old := if new c then 0 else c.old + 1 }), rebaseTo := x.rebaseTo ++ [s], rebase := false } d))
/-- NEXT_SEQ of the newest numbering. -/
def newestNext (x : TwinRx) : Nat := x.rebaseTo.getLastD x.next
/-- What the yard holds of a copy whose first word was stored XOR a flip mask: an uncorrectable copy fails (R351, R424, R430). -/
def hitCopy (m : BitVec 72) (c : HeldCopy) : HeldCopy :=
  let w := ((c.words.headD none).getD 0)
  if m = 0 then c else match readFlipped m w with
    | some v => { c with words := putAt c.words 0 (fun u => u.map (fun _ => v)) }
    | none => { c with valid := false }
/-- Hold a copy with its due instant; the earlier path's copies are stored in the yard's slots, in HBM. -/
def holdCopy (w : Nat) (c : HeldCopy) (d : Dev) : Dev :=
  let x := twinRx d w
  let yard := c.pathB == x.bEarlier
  let e := { (if yard then hitCopy (flipMaskFor 6 d) c else c) with yard := yard }
  let d1 := setTwinRx w { x with held := x.held ++ [e] } d
  let d2 := if c.valid && !e.valid then twinTally w 5 1 (twinCount w 6 1 d1) else d1
  if yard then useFlip 6 (twinTally w 6 1 d2) else d2
/-- A copy behind NEXT_SEQ. DEDUCED: the first of its SEQ on its path came after its block's release and is LATE_DISCARDED; any other
is DUP_DISCARDED. -/
def discardCopy (w : Nat) (fresh : Bool) (d : Dev) : Dev := twinTally w 4 1 (twinCount w (if fresh then 5 else 4) 1 d)
/-- The SEQ of a copy far ahead of NEXT_SEQ within whose next 64 blocks a RESTART comes on its path (R352). -/
def farSeq (w : Nat) (c : HeldCopy) (d : Dev) : Option Nat :=
  match (pathOf (twinRx d w) c.pathB).far with
  | some (s, _ + 1) => if c.restart then some s else none
  | _ => none
/-- A copy held of the path that brought the copy far ahead, among the 64 blocks from it on. -/
def farCopy (b : Bool) (s : Nat) (c : HeldCopy) : Bool := c.pathB == b && decide (modSub (2 ^ 32) c.seq s ≤ 64)
/-- A copy at least 4,096 blocks ahead without RESTART is noted on its path; a block later one fewer may follow. -/
def noteFar (w : Nat) (c : HeldCopy) (n : Nat) (d : Dev) : Dev :=
  let x := twinRx d w
  let p := pathOf x c.pathB
  let rest := match p.far with
    | some (s, k + 1) => some (s, k)
    | _ => none
  let fresh := if !c.restart && decide (4096 ≤ modSub (2 ^ 32) c.seq n) && !behindSeq c.seq n then some (c.seq, 64) else none
  setTwinRx w (withPath x c.pathB { p with far := if c.restart then none else rest.or fresh }) d
/-- The rejoin window opens (R356). -/
def openRejoin (w : Nat) (d : Dev) : Dev := setTwinRx w { twinRx d w with rejoin := 64 } d
/-- A copy arrives at the merge. -/
def mergeCopy (w : Nat) (c : HeldCopy) (headerOk fresh : Bool) (d0 : Dev) : Dev :=
  let d := noteFar w c (newestNext (twinRx d0 w))
    (match farSeq w c d0 with | some s => openRejoin w (rebase w s (farCopy c.pathB s) d0) | none => d0)
  let x := twinRx d w
  let n := newestNext x
  if x.rebase && headerOk then holdCopy w c (rebase w c.seq (fun _ => false) d)
  else if behindSeq c.seq n then discardCopy w fresh d
  else if 4096 ≤ modSub (2 ^ 32) c.seq n && c.restart then holdCopy w c (openRejoin w (rebase w c.seq (fun _ => false) d))
  else holdCopy w c d
/-- The copy that 513 reassembled words make (R351). -/
def copyOf (d : Dev) (w : Nat) (b : Bool) (ws : List (Option QWord)) : HeldCopy × Bool :=
  let x := slewNow d (twinRx d w)
  let g := twinCfg d w
  let h := (ws.headD none).getD 0
  let ok := (ws.headD none).isSome && twinHeaderOk g.ident h
  let s := if ok then twinSeq h else match (pathOf x b).lastSeq with | some l => (l + 1) % 2 ^ 32 | none => 0
  let t := nowNs d
  ({ pathB := b, seq := s, arrived := t, due := t + g.guard_ * 1000 + (if b = x.bEarlier then x.aUse else 0)
     valid := ok && ws.tail.all Option.isSome, recut := ok && h.getLsbD 45, restart := ok && h.getLsbD 44, words := ws.tail }, ok)
/-- The SEQ lies ahead of the last one of its path. -/
def freshSeq (p : TwinPath) (s : Nat) : Bool := match p.lastSeq with | some l => s != l && !behindSeq s l | none => true
/-- Note an arrival on its path: last SEQ, valid copies, failed copies, the rejoin window. -/
def noteArrival (w : Nat) (b : Bool) (skip : Nat) (c : HeldCopy) (d : Dev) : Dev :=
  let x := twinRx d w
  let p := pathOf x b
  let y := withPath x b { p with words := p.words.drop (skip + blockWords), lastSeq := some c.seq
                                 copies := if c.valid && p.state == .realigning then p.copies + 1 else p.copies }
  let resync := p.state != .inService || x.rebase
  let d0 := setTwinRx w y d
  let d1 := if c.restart && resync then openRejoin w d0 else d0
  if c.valid then d1 else twinTally w 5 1 (twinCount w 6 1 d1)
def copyArrival (w : Nat) (b : Bool) (skip : Nat) (d : Dev) : Dev :=
  let p := pathOf (twinRx d w) b
  let (c, ok) := copyOf d w b ((p.words.drop skip).take blockWords)
  let d1 := mergeCopy w c ok (freshSeq p c.seq) (noteArrival w b skip c d)
  checkService w b (if c.valid then pairArrival w b c.seq d1 else d1)
/-- TWIN_COPY_ARRIVAL: the next 513 reassembled words of a path are a copy. DESIGN CHOICE: where twin blocks start in a path's stream
is not in the manual, so the command says how many words before the block belong to none. -/
def execTwinCopyArrival (w : Twin) (path : Fin 2) (skip : Nat) : State → Host.Outcome State Fault Refusal :=
  lift fun d =>
    let b := path == 1
    guard ((twinCfg d w).rx && decide (skip + blockWords ≤ (pathOf (twinRx d w) b).words.length) && !asleep d) (copyArrival w b skip) d

/-- Words of a merged block enter the queue with continuous numbers. -/
def mergedWords (w : Nat) (ws : List (Option QWord)) (d : Dev) : Dev :=
  let q := (twinCfg d w).queue
  let n := (rxQueue d q).expected.getD 0
  arriveRx q n ws (setRxQueue q { rxQueue d q with expected := some ((n + ws.length) % 2 ^ 32) } d)
/-- A block delivered with data clears YLS unless both paths are out. -/
def clearYls (w : Nat) (d : Dev) : Dev :=
  let x := twinRx d w
  if x.yls && !bothOut x then
    let q := (twinCfg d w).queue
    settleChd q (setTwinRx w { x with yls := false } (seeQueueRaw 3 q (seeQueueRaw 2 q d)))
  else d
def deliverBlock (w : Nat) (c : HeldCopy) (d : Dev) : Dev :=
  let x := twinRx d w
  let q := (twinCfg d w).queue
  let d1 := twinTally w 0 1 (twinCount w 0 1 (mergedWords w c.words d))
  let d2 := if c.pathB != x.prefB then queueBins q (binEvent 2 1) (twinTally w 1 1 (twinCount w 1 1 d1)) else d1
  let d3 := if c.recut then twinTally w 3 1 d2 else d2
  let d4 := if c.recut && decide (0 < x.rejoin) then queueBins q (binEvent 1 1) (twinCount w 2 1 d3) else d3
  clearYls w d4
def fillBlock (w : Nat) (d : Dev) : Dev :=
  let q := (twinCfg d w).queue
  let d1 := queueBins q (binEvent 0 1) (twinTally w 2 1 (twinCount w 3 1 (mergedWords w (List.replicate 512 none) d)))
  setYls w (setRxQueue q { rxQueue d1 q with errored := true } d1)
/-- A copy has the numbering of NEXT_SEQ; it is of the block that is released next. -/
def ofNumbering (x : TwinRx) (c : HeldCopy) : Bool := c.old == x.rebaseTo.length
def ofNext (x : TwinRx) (c : HeldCopy) : Bool := c.seq == x.next && ofNumbering x c
/-- The block of NEXT_SEQ is released (R351). -/
def releaseBlock (w : Nat) (d : Dev) : Dev :=
  let x := twinRx d w
  let own (b : Bool) : Option HeldCopy := x.held.find? (fun c => ofNext x c && c.pathB == b && c.valid)
  let d1 := match own x.prefB with
    | some c => deliverBlock w c d
    | none => match own (!x.prefB) with
      | some c => deliverBlock w c d
      | none => fillBlock w d
  let y := twinRx d1 w
  takeRebase w (setTwinRx w { y with held := y.held.filter (fun c => !ofNext x c), next := (x.next + 1) % 2 ^ 32
                                     rejoin := if y.rebaseTo.isEmpty then y.rejoin - 1 else y.rejoin } d1)
/-- TWIN_DUE: the earliest due instant among the copies held of the present numbering has come. -/
def execTwinDue (w : Twin) : State → Host.Outcome State Fault Refusal :=
  lift fun d => guard ((twinCfg d w).rx && (twinRx d w).held.any (fun c => ofNumbering (twinRx d w) c && decide (c.due ≤ nowNs d)) && !asleep d) (releaseBlock w) d

/-! ## The yard's contents (R357, R358) -/

/-- HBM contents are lost: every twin receive side waits for a fill. -/
def waitFill (w : Nat) (d : Dev) : Dev :=
  let x := twinRx d w
  let p (y : TwinPath) : TwinPath := { y with state := .waitFill, copies := 0 }
  if (twinCfg d w).rx then setYls w (setTwinRx w { x with a := p x.a, b := p x.b, held := [], rebaseTo := [], rebase := true } d) else d
def loseYard (d : Dev) : Dev := d.twins.cfg.foldl (fun d e => waitFill e.1 d) d
/-- A FILL has completed: paths that waited realign from A_USE = 0 where the whole yard is filled. -/
def leaveFill (w : Nat) (d : Dev) : Dev :=
  let x := twinRx d w
  if (twinCfg d w).rx && x.a.state == .waitFill then
    settleTwin w (setTwinRx w { x with a := { x.a with state := .disabled }, b := { x.b with state := .disabled }, aUse := 0, aPart := 0, aligned := false, pairs := [], arrivals := [] } d)
  else d
def yardFilled (d : Dev) : Dev := if filled d d.twins.yard then d.twins.cfg.foldl (fun d e => leaveFill e.1 d) d else d

/-! ## Commands (R361 to R364) -/

def twinMaxDelay : Nat := if Config.isA32 then 10000 else 20000
/-- A path's receive service rate in kb/s, times `rateDen`. -/
def pathRate (d : Dev) (q n : Nat) : Nat :=
  ((coachesOf n).map (fun c =>
    let x := coachRx d c
    ((rxLegsOn d c x.slots (coachSwap d c).rxPage1).filter (fun l => l.1 == q)).map
      (fun l => legRate (engTx d n).rate x.profile x.slots l.2.length) |>.sum)).sum
/-- Y_w (R347). -/
def yardSlots (d : Dev) (g : TwinCfg) : Nat :=
  ceilDiv (max (pathRate d g.queue g.engineA) (pathRate d g.queue g.engineB) * (g.maxDiff + 100)) (rateDen * 1000 * 32768)
def yardBytes (d : Dev) : Nat := match d.twins.yard with | some (_, n) => n * 2 ^ 30 | none => 0
/-- Bytes reserved by every other twin with receive enabled. -/
def reservedOthers (d : Dev) (w : Nat) : Nat :=
  ((d.twins.cfg.filter (fun e => e.1 != w && e.2.rx)).map (fun e => yardSlots d e.2 * 4160)).sum
def twinCfgOf (b : List Byte) : TwinCfg :=
  { tx := flag b 1 0, rx := flag b 1 1, queue := u16 b 2, engineA := u8 b 4, engineB := u8 b 5, ident := u16 b 6, maxDiff := u32 b 8, guard_ := u16 b 12 }
def sameBinding (x y : TwinCfg) : Bool := { x with tx := false, rx := false } == { y with tx := false, rx := false }
/-- A tributary becomes or ceases to be a twin tributary: words that its legs have cut return to its queue. -/
def returnCuts (q : Nat) (d : Dev) : Dev := if (txQueue d q).cut.isEmpty then d else returnTx q (txQueue d q).cut.length d
/-- DEDUCED statuses: YARD_FULL, DELAY_LIMIT and TWIN_ENGINES answer BAD_ARG, TWIN_ACTIVE BUSY. -/
def twinConfigService : Service where
  opcode := 0x0701
  targets _ _ := [1, 5]
  checks d b :=
    let w := u8 b 0
    let g := twinCfgOf b
    let old := twinCfg d w
    [(!(within 0 127 w && within 0 4095 g.queue && within 0 15 g.engineA && within 0 15 g.engineB && within 10 1000 g.guard_), outOfRange),
     (decide (twinMaxDelay < g.maxDiff), badArg 41),
     (g.engineA == g.engineB || d.twins.cfg.any (fun e => e.1 != w && (e.2.tx || e.2.rx) && e.2.queue == g.queue), badArg 42),
     ((old.tx || old.rx) && !sameBinding old g, busy 44),
     (g.rx && !old.rx && decide (yardBytes d < reservedOthers d w + yardSlots d g * 4160), badArg 40),
     (g.rx && !old.rx && !filled d d.twins.yard, { status := .uninitialised })]
  run _ b d :=
    let w := u8 b 0
    let g := twinCfgOf b
    let old := twinCfg d w
    let d1 := setTwinCfg w g (returnCuts g.queue (seeQueueAll old.queue (if old.tx && !g.tx then stopTwin w d else d)))
    let d2 := if g.tx && !old.tx then startTwin w d1 else d1
    let d3 := if g.rx && !old.rx then settleTwin w (raiseCauseMs (.twin w) 3 (setTwinRx w {} d2))
      else if !g.rx && old.rx then setTwinRx w { twinRx d2 w with a := {}, b := {}, held := [], rebase := true, rebaseTo := [] } d2 else d2
    done (zeros 4 ++ le 4 (yardSlots d g)) (settleChd g.queue (settleChd old.queue d3))
def execTwinConfig (mb : Mailbox) : State → Host.Outcome State Fault Refusal := lift (serve twinConfigService mb)

def PathState.code : PathState → Nat
  | .disabled => 0 | .waitFill => 1 | .failed => 2 | .realigning => 3 | .inService => 4
def yardHeld (x : TwinRx) : Nat := (x.held.filter (·.yard)).length
def twinStatusBody (w : Nat) (d : Dev) : List Byte :=
  let x := twinRx d w
  let t := twinTx d w
  [0] ++ le 1 (b2n x.prefB) ++ le 1 x.a.state.code ++ le 1 x.b.state.code
    ++ le 1 (bitsOf 8 (fun i => indication d w (decide (4 ≤ i)) (i % 4)))
    ++ le 1 (b2n x.yls + 2 * b2n x.bEarlier + 4 * b2n (decide (0 < x.rejoin)) + 8 * b2n t.detachedA + 16 * b2n t.detachedB + 32 * b2n x.exceeded)
    ++ le 2 x.rejoin ++ leI 4 (measuredD x) ++ le 4 (slewNow d x).aUse ++ le 4 x.next ++ le 4 (yardHeld x) ++ le 4 (causeOf d (.twin w)).toNat
    ++ le 4 x.moves ++ (List.range 8).flatMap (fun i => le 8 (countOf d (keyTwin w i))) ++ le 8 x.lastMove
def twinStatusService : Service where
  opcode := 0x0702
  targets _ _ := [1, 5]
  freeze := .never
  checks _ b := [(!within 0 127 (u8 b 0), outOfRange)]
  run _ b d := done (twinStatusBody (u8 b 0) d) (clearCause (.twin (u8 b 0)) (flag b 1 0) d)
def execTwinStatus (mb : Mailbox) : State → Host.Outcome State Fault Refusal := lift (serve twinStatusService mb)

/-- The opcode carries two commands: ACTION 1 is RESTART, any other value is judged as FORCE. -/
def restartAction (mb : Nat) (one : Bool) (d : Dev) : Bool := (u8 (reqBody (box d mb)) 1 == 1) == one
/-- DEDUCED: PATH_DOWN answers NOT_READY, the object being unable to serve yet. -/
def twinForceService : Service where
  opcode := 0x0703
  targets _ _ := [1, 5]
  checks d b :=
    [(!(within 0 127 (u8 b 0) && u8 b 1 == 0 && within 0 1 (u8 b 2)), outOfRange),
     ((pathOf (twinRx d (u8 b 0)) (u8 b 2 == 1)).state != .inService, notReady 45)]
  run _ b d := okay (if (twinRx d (u8 b 0)).prefB = (u8 b 2 == 1) then d else movePref (u8 b 0) d)
def execTwinCommandForce (mb : Mailbox) : State → Host.Outcome State Fault Refusal :=
  lift fun d => guard (restartAction mb false d) (serve twinForceService mb) d
/-- DEDUCED: a restart of a tributary whose transmit side is not enabled changes nothing. -/
def twinRestartService : Service where
  opcode := 0x0703
  targets _ _ := [1, 5]
  checks _ b := [(!(within 0 127 (u8 b 0) && u8 b 1 == 1), outOfRange)]
  run _ b d := okay (if (twinCfg d (u8 b 0)).tx then restartTwin (u8 b 0) d else d)
def execTwinCommandRestart (mb : Mailbox) : State → Host.Outcome State Fault Refusal :=
  lift fun d => guard (restartAction mb true d) (serve twinRestartService mb) d

def yardConfigService : Service where
  opcode := 0x0704
  targets _ _ := [1, 5]
  checks d b :=
    [(!within 0 hbmGib (u8 b 0 + u8 b 1), outOfRange),
     (regionsOverlap (some (u8 b 0, u8 b 1)) d.slots.spillRegion, badArg 20),
     (d.twins.cfg.any (fun e => e.2.rx), busy 44)]
  run _ b d := okay { d with twins := { d.twins with yard := some (u8 b 0, u8 b 1) } }
def execYardConfig (mb : Mailbox) : State → Host.Outcome State Fault Refusal := lift (serve yardConfigService mb)

end Sys2Proof.Machine
end

