-- ==== Sys2Proof/Machine/FrameSend.lean ====
section
/-! DEFINITION. The transmit framer: cut instants, the key of each frame, the header, page swaps at their frame (R158 to R161, R221,
R227, R286 to R291, R552). -/

namespace Sys2Proof.Machine

/-! ## The next frame of a coach -/

/-- A transmit swap makes coach c switch at frame `f` (R227 step 3). -/
def swapsAt (d : Dev) (c f : Nat) : Bool :=
  match (engineSwap d (engineOf c)).armed with
  | some a => !a.switched.getLsbD (c % 16) && a.frames.any (fun e => e.1 == c && e.2 == f)
  | none => false
/-- A waiting change that goes with the armed swap, merged into a configuration where the two together have an H (R47, R78). -/
def withPending (d : Dev) (c : Nat) (q : CoachCfg) : CoachCfg :=
  match (coachTx d c).pending with
  | some p =>
    if (coachTx d c).joined && !entropyOver (engTx d (engineOf c)).rate q.profile p.1 then { q with slots := p.1, power := p.2 } else q
  | none => q
/-- At its first frame boundary a coach that was lit at the arming takes the new page if T has come, or else has its swap frame fixed; one that was
not takes the new page at once (R227). -/
def reachesFirst (d : Dev) (c : Nat) : Bool :=
  !(coachTx d c).framesRun && (match (engineSwap d (engineOf c)).armed with
    | some a => a.waits.getLsbD (c % 16) && decide (a.time ≤ nowNs d)
    | none => false)
def switchesLit (d : Dev) (c : Nat) : Bool :=
  !(coachTx d c).framesRun && (match (engineSwap d (engineOf c)).armed with
    | some a => a.frames.all (fun f => f.1 != c) && (!a.waits.getLsbD (c % 16) || decide (a.time ≤ nowNs d))
    | none => false)
/-- The configuration of the next frame. -/
def nextCfg (d : Dev) (c : Nat) : CoachCfg :=
  let q := boundaryCfg d c
  if swapsAt d c (frameNo d c) || reachesFirst d c then withPending d c q else q
/-- The page of the next frame. -/
def nextPage (d : Dev) (c : Nat) : Bool :=
  if switchesLit d c || swapsAt d c (frameNo d c) then !(engineSwap d (engineOf c)).active1 else (coachSwap d c).txPage1
/-- The legs of the next frame. -/
def nextLegs (d : Dev) (c : Nat) : List (Nat × List Nat) :=
  legsOf (nextCfg d c).slots (fun j => streamOf d (usable d c j (entry (txPage d (nextPage d c)) c j)))
/-- The coach sends frames, or starts within 10 µs (R552). -/
def sending (d : Dev) (c : Nat) : Bool :=
  !asleep d && ((coachTx d c).framesRun || (litCoach d c && ((engTx d (engineOf c)).state == .running || (coachTx d c).starts)))

/-! ## The key of a frame (R286, R289, R335) -/

/-- A frame count has reached a START_FC. -/
def reached (m f start : Nat) : Bool := decide (2 * modSub m f start < m)
/-- The next key becomes current at its START_FC; the old current slot is emptied. -/
def switchKey (m f : Nat) (x : CipherTx) : CipherTx :=
  let n := nextSlot x
  match txSlot x n with
  | some k =>
    if reached m f k.startFc then
      { (match x.current with | some i => putTxSlot i none x | none => x) with current := some (if n = 0 then 0 else 1) }
    else x
  | none => x
/-- The current key and its slot. -/
def currentKey (x : CipherTx) : Option (Nat × KeySlot) :=
  match x.current with
  | some i => (txSlot x i).map (fun k => (i.val, k))
  | none => none
/-- The effective limit of a lane key (R335). -/
def slotLimit (d : Dev) (k : KeySlot) : Nat := min k.limit (ceiling d)
/-- The key that frame `f` can use: the current one while I stays below its limit. -/
def usableKey (d : Dev) (m f : Nat) (x : CipherTx) : Option (Nat × KeySlot) :=
  match currentKey x with
  | some (i, k) => if 4 * modSub m f k.startFc + 3 < slotLimit d k then some (i, k) else none
  | none => none
/-- Both key slots are emptied when the frame count restarts (R291). -/
def emptyKeys (x : CipherTx) : CipherTx := { x with slot0 := none, slot1 := none, current := none }
/-- The cipher side as the next frame finds it: a restart empties the keys, a new CIPHER_MODE takes effect. -/
def cipherNext (d : Dev) (c : Nat) : CipherTx :=
  let x := cipherTx d c
  let y := if !(coachTx d c).framesRun && (frameTx d c).sent.isSome then emptyKeys x else x
  switchKey (fcMod (nextCfg d c).version) (frameNo d c) { y with mode := x.modeNext }
/-- The next frame is a hold frame (R290). -/
def holdNext (d : Dev) (c : Nat) : Bool :=
  let x := cipherNext d c
  x.mode && (usableKey d (fcMod (nextCfg d c).version) (frameNo d c) x).isNone

/-! ## Cut instants (R199, R221, R232, R234, R280, R345) -/

/-- A groomed leg takes words of the receive queue: how many. -/
def cutGroomed (r n : Nat) (d : Dev) : Nat × Dev :=
  let t := moveRx r n d
  (t.1.length, setRxQueue r { rxQueue t.2 r with groomCut := (rxQueue t.2 r).groomCut ++ t.1 } t.2)
/-- A groomed leg is sent, with the groomed stream's own OFFSET. -/
def sendGroomed (r n : Nat) (d : Dev) : List QWord × Nat × Dev :=
  let x := rxQueue d r
  let ws := x.groomCut.take n
  let d1 := setRxQueue r { x with groomCut := x.groomCut.drop n, groomNext := (x.groomNext + ws.length) % 2 ^ 32 } d
  let f := fillFree ws (egressWords r ws d1)
  (f.1, x.groomNext, f.2)
/-- What stops words at a leg: cipher hold, or a secure tributary on a coach in mode 0 (R290, R334). -/
def cutBlocked (d : Dev) (c s : Nat) : Bool := holdNext d c || (secureQueue d (s % 4096) && !(cipherNext d c).mode)
/-- The path of a twin tributary that a coach carries. -/
def onPathB (d : Dev) (w c : Nat) : Bool := (twinCfg d w).engineB == engineOf c
/-- A leg takes its words at its cut instant: FILL_KIND and COUNT. A tributary in raw CSF sends FILL_KIND 1 (R192, R280), a groomed one under
downstream AIS FILL_KIND 2 (R234). -/
def takeCut (d : Dev) (c s : Nat) (slots : List Nat) : Nat × Nat × Dev :=
  let q := nextCfg d c
  let n := payloadPositions q.profile q.slots slots.length
  if cutBlocked d c s then (0, 0, d)
  else if 4096 ≤ s then (if tsf d (s - 4096) then (2, 0, d) else (0, cutGroomed (s - 4096) n d))
  else if rawCsf d s then (1, 0, d)
  else match twinOf d false s with
    | some w => (0, cutTwin w (onPathB d w c) n d)
    | none => (0, cutTx s n d)
def uncut (d : Dev) (c : Nat) (slots : List Nat) : Bool := (frameTx d c).cuts.all (fun l => l.slots.head? != slots.head?)
def legCut (c leg : Nat) (d : Dev) : Dev :=
  match (nextLegs d c).find? (fun l => l.2.head? == some leg) with
  | some l =>
    if sending d c && uncut d c l.2 then
      let r := takeCut d c l.1 l.2
      setFrameTx c { frameTx r.2.2 c with cuts := (frameTx r.2.2 c).cuts ++ [{ stream := l.1, slots := l.2, kind := r.1, count := r.2.1 }] } r.2.2
    else d
  | none => d
/-- LEG_CUT: the cut instant of the leg whose lead slot is `leg`, for the coach's next frame. -/
def execLegCut (c : Coach) (leg : SlotPos) : State → Host.Outcome State Fault Refusal := lift (legCut c leg)

/-! ## A frame (R158 to R161) -/

/-- Every non-idle slot of a coach is groomed from receive slots under downstream AIS (R199). -/
def allAis (d : Dev) (c : Nat) : Bool :=
  let l := txLegs d c
  !l.isEmpty && l.all (fun e => decide (4096 ≤ e.1) && tsf d (e.1 - 4096))
/-- The change that the header of frame `f` announces: SLOTS and F. Only a change of the slot count is announced, and an announcement that has
started goes on (R161). -/
def announced (d : Dev) (c f : Nat) : Option (Nat × Nat) :=
  match (coachTx d c).pending with
  | some p => if p.1 != (coachTx d c).cfg.slots || changeSent d c then (changeFrame d c f).map (fun e => (p.1, e)) else none
  | none => none
/-- The header of frame `f`; `key` is the slot in use, `idle` the KEY_INDEX of a frame without ciphertext, which the manual does not
state (a free value). -/
def headerFor (d : Dev) (c f : Nat) (hold : Bool) (key : Option Nat) (idle : Nat) : Header :=
  let q := (coachTx d c).cfg
  let v3 := q.version == 3
  let chg := announced d c f
  { version := q.version, profile := q.profile, slots := q.slots, keyIndex := key.getD idle, cipher := key.isSome
    twinRole := if v3 then txRole d c else 0, fc := f, source := c, trace := (frameTx d c).trace
    stat := if hold then 3 else if allAis d c then 1 else 0, bdi := drivesBdi d c
    bei := if v3 && (frameRx d c).align == .sync then (frameRx d c).bei else 0
    chgValid := v3 && chg.isSome, chgSlots := if v3 then (chg.map (·.1)).getD 0 else 0
    chgAt := if v3 then (chg.map (·.2 % 65536)).getD 0 else 0 }
/-- A leg is sent with `n` words: its words and OFFSET. -/
def sendWords (c s n : Nat) (d : Dev) : List QWord × Nat × Dev :=
  if 4096 ≤ s then sendGroomed (s - 4096) n d
  else match twinOf d false s with
    | some w => sendTwin w (onPathB d w c) n d
    | none => sendTx s n d
/-- Each leg of a frame is sent as it was cut; one that was not cut carries COUNT 0. Data words sent and positions without data are counted (R246). -/
def sendLeg (c : Nat) (a : List SentLeg × Dev) (l : Nat × List Nat) : List SentLeg × Dev :=
  let cut := (frameTx a.2 c).cuts.find? (fun s => s.stream == l.1 && s.slots == l.2)
  let q := (coachTx a.2 c).cfg
  let r := sendWords c l.1 ((cut.map (·.count)).getD 0) a.2
  let n := r.1.length
  (a.1 ++ [{ slots := l.2, kind := (cut.map (·.kind)).getD 0, offset := r.2.1, words := r.1 }],
   queueTally (l.1 % 4096) 1 n (queueTally (l.1 % 4096) 2 (payloadPositions q.profile q.slots l.2.length - n) r.2.2))
/-- Cut legs that the frame does not have return their words. -/
def dropStrays (c : Nat) (d : Dev) : Dev :=
  ((frameTx d c).cuts.reverse.filter (fun s => !(txLegs d c).any (fun l => s.stream == l.1 && s.slots == l.2))).foldl (returnLeg c) d
/-- The legs of a frame. A hold frame has a slot area of zeros, and its tributaries keep every word (R290). -/
def frameLegs (c : Nat) (hold : Bool) (d : Dev) : List SentLeg × Dev :=
  if hold then ([], dropCuts c d)
  else
    let r := (txLegs d c).foldl (sendLeg c) ([], dropStrays c d)
    (r.1, setFrameTx c { frameTx r.2 c with cuts := [] } r.2)
/-- Raise a cipher cause where a condition holds. -/
def causeIf (p : Bool) (c b : Nat) (d : Dev) : Dev := if p then cipherCause c b d else d
/-- USAGE_WARN is due: I has reached WARN_PCT per cent of the key's limit (R289). -/
def warnDue (d : Dev) (warn i : Nat) (k : KeySlot) : Bool := !k.warned && decide (warn * slotLimit d k ≤ 100 * i)
/-- Cipher state, causes and counts of a frame (R286, R289 to R291, R310). DESIGN CHOICE: a key that is exhausted stays current. -/
def cipherFrame (c f m : Nat) (d : Dev) : Dev :=
  let old := cipherTx d c
  let y := switchKey m f { old with mode := old.modeNext }
  let key := if y.mode then usableKey d m f y else none
  let hold := y.mode && key.isNone
  let spent := hold && !old.hold && (currentKey y).isSome
  let x := if spent then { y with exhausted := y.exhausted + 1 } else y
  let d1 := causeIf (x.current != old.current) c 0 (if x.current != old.current then laneCipherTally c 5 1 (noteKeyUse c d) else d)
  let d2 := causeIf (hold && !old.hold) c 2 d1
  let d3 := causeIf spent c 7 d2
  let d4 := if !hold && old.hold then cipherCause c 3 (((txLegs d c).map (·.1 % 4096)).foldl (fun d q => seeQueueRaw 1 q d) d3) else d3
  match key with
  | some (i, k) =>
    let inv := 4 * modSub m f k.startFc + 3
    let w := warnDue d x.warn inv k
    let y := putTxSlot i (some { k with warned := k.warned || w }) { x with hold := false, invocation := inv }
    let d5 := laneCipherTally c 0 4 (setCipherTx c y d4)
    if w then cipherAlarm c 1 d5 else d5
  | none =>
    let d5 := setCipherTx c { x with hold := hold } d4
    if hold then laneCipherTally c 3 1 (cipherCount c 9 1 d5) else d5
/-- The key slot and key of the frame just judged. -/
def frameKeyOf (d : Dev) (m c f : Nat) : Option (Nat × FrameKey) :=
  let x := cipherTx d c
  if x.mode then (usableKey d m f x).map (fun e => (e.1, { key := e.2.key, salt := e.2.salt, startFc := e.2.startFc })) else none
/-- Symbols of one frame on a polarisation, a pilot in each 32, as a fraction (R51, R153). -/
def addFrac (a b : Nat × Nat) : Nat × Nat :=
  let n := a.1 * b.2 + b.1 * a.2
  let g := Nat.gcd n (a.2 * b.2)
  (n / g, a.2 * b.2 / g)
def frameSymbols (d : Dev) (c : Nat) : Nat × Nat :=
  let q := (coachTx d c).cfg
  (16 * 30720 * 64 * 32, 2 * needH (engTx d (engineOf c)).rate q.profile q.slots * 31)
/-- The first word of a frame's legs stored XOR a flip mask: zero data where it is then uncorrectable (R424, R430). -/
def hitLegs (m : BitVec 72) : List SentLeg → List SentLeg
  | [] => []
  | l :: t => if l.words.isEmpty then l :: hitLegs m t else { l with words := putAt l.words 0 (hitTx m) } :: t
/-- Send the next frame `f` of a coach, counted modulo its version's modulus: key, header, legs; the DEVTIME of its lead codeword is recorded (R159),
and the symbol counter passes the frame's symbols (R51; DEDUCED: no change of configuration resets it, since the first frame boundary alone starts it). DESIGN CHOICE: a coach that has been in version 2, whose count is 32 bits, goes on from that count in version 3. -/
def sendFrame (c : Nat) (d : Dev) : Dev :=
  let m := fcMod (coachTx d c).cfg.version
  let f := (frameTx d c).next % m
  let (idle, d0) := drawFree d
  let d1 := cipherFrame c f m d0
  let hold := (cipherTx d1 c).hold
  let key := frameKeyOf d1 m c f
  let header := headerFor d1 c f hold (key.map (·.1)) (idle.toNat % 2)
  let legs := frameLegs c hold d1
  let m1 := flipMaskFor 1 d
  let x := frameTx legs.2 c
  let sent : SentFrame := { header := header, legs := hitLegs m1 legs.1, key := key.map (·.2), time := nowNs d, symbol := x.symbol }
  tally 1 7 c 1 (useFlip 1 (setFrameTx c { x with sent := some sent, next := (f + 1) % m, skip := [], symbol := addFrac x.symbol (frameSymbols d c) } legs.2))
/-- The waiting change that goes with the swap applies to coach c (R78); the slots it takes or gives count with those of the swap. -/
def applyWaiting (c : Nat) (d : Dev) : Dev :=
  let x := coachTx d c
  if x.pending.isSome && x.joined then
    let q := withPending d c x.cfg
    let moved (a : TxSwap) : TxSwap := { a with
      moved := addSlots 1 (tribsBetween d c x.cfg.slots q.slots) (addSlots (-1) (tribsBetween d c q.slots x.cfg.slots) a.moved) }
    takeCoachCfg c q (modArmed (engineOf c) moved (setCoachTx c { x with pending := none, joined := false } d))
  else d
/-- A swap whose frame this is: the waiting change and the new page apply (R78, R227). -/
def swapNow (c : Nat) (d : Dev) : Dev :=
  if swapsAt d c (frameTx d c).next then coachPressure c (switchCoach c (applyWaiting c (reachSwap (engineOf c) d))) else d
/-- A frame boundary: a configuration with APPLY_MODE 0 takes effect, then the frame is sent unless the coach is now unlit. -/
def txFrame (c : Nat) (d : Dev) : Dev :=
  if (coachTx d c).framesRun && !asleep d then
    let d1 := match (coachTx d c).atBoundary with
      | some q => applyCoachCfg c q d
      | none => d
    if (coachTx d1 c).framesRun then sendFrame c (swapNow c d1) else d1
  else d
def execTxFrame (c : Coach) : State → Host.Outcome State Fault Refusal := lift (txFrame c)
/-- What an armed swap does at a coach's first frame boundary (R227): the new page from the first frame, or the swap frame is fixed.
A coach that stayed unlit through the last swap switches (R245). -/
def swapFirst (c : Nat) (d : Dev) : Dev :=
  let n := engineOf c
  let bit := BitVec.twoPow 16 (c % 16)
  match (engineSwap d n).armed with
  | some a =>
    if reachesFirst d c then coachPressure c (switchCoach c (reachSwap n d))
    else if switchesLit d c then modArmed n (fun a => { a with switched := a.switched ||| bit }) d
    else if a.waits.getLsbD (c % 16) then
      modArmed n (fun a => { a with waits := a.waits &&& ~~~ bit, frames := a.frames ++ [(c, swapFrame d c a.time)] }) d
    else d
  | none =>
    let x := engineSwap d n
    if x.owed &&& bit = 0 then d else setEngineSwap n { x with done := x.done ||| bit, owed := x.owed &&& ~~~bit } d
/-- The first frame boundary: FRAME_COUNT and symbol counter 0, on the page it switches to; a restart of the count empties the key slots (R51, R159,
R291, R552). -/
def firstFrame (c : Nat) (d : Dev) : Dev :=
  let d1 := if (frameTx d c).sent.isSome then setCipherTx c (emptyKeys (cipherTx d c)) d else d
  let d2 := swapFirst c (setCoachSwap c { coachSwap d1 c with txPage1 := nextPage d c } d1)
  sendFrame c (setFrameTx c { frameTx d2 c with next := 0, symbol := (0, 1) } (setCoachTx c { coachTx d2 c with framesRun := true, starts := false } d2))
def execFirstFrameBoundary (c : Coach) : State → Host.Outcome State Fault Refusal :=
  lift fun d => guard (sending d c && !(coachTx d c).framesRun) (firstFrame c) d

/-! ## FRAME_CONFIG and FRAME_STATUS (R185 to R187) -/

/-- DEDUCED: a change of EXP_TRACE_TAG or TIM_ENABLE acts at the next fitting header, which reads them. -/
def frameConfigService : Service where
  opcode := 0x0301
  targets _ _ := [1]
  checks _ b := [(!within 0 255 (u16 b 0), outOfRange)]
  run _ b d :=
    let c := u16 b 0
    okay (setFrameTx c { frameTx d c with trace := u16 b 4, hostTrace := true }
      (setFrameRx c { frameRx d c with timEnable := flag b 2 0, expTrace := u16 b 6, hostTrace := true } d))
def execFrameConfig (mb : Mailbox) : State → Host.Outcome State Fault Refusal := lift (serve frameConfigService mb)

def Align.code : Align → Nat
  | .hunt => 0 | .presync => 1 | .sync => 2 | .off => 3
def frameRaw (x : FrameRx) : Nat :=
  b2n (x.align == .hunt || x.align == .presync) + 2 * b2n x.vmm.raw + 4 * b2n x.ais.raw + 8 * b2n x.tim.raw + 16 * b2n x.bdi.raw
    + 32 * b2n x.hold.raw + 64 * b2n x.partner.raw
/-- The received fields; zero before a header has fitted. -/
def rxFields (h : Option Header) : List Byte :=
  match h with
  | none => zeros 4
  | some h => le 1 h.version ++ le 1 h.slots ++ le 1 h.profile ++ le 1 (h.keyIndex + 2 * b2n h.cipher + 4 * h.twinRole + 16 * h.bei)
def sentFlags (h : Header) : Nat := h.stat + 4 * b2n h.bdi + 8 * b2n h.chgValid + 16 * h.bei
def frameStatusBody (c : Nat) (d : Dev) : List Byte :=
  let x := frameRx d c
  let s := (frameTx d c).sent
  let chg := if x.chgApplied then none else x.chg
  le 2 c ++ le 1 x.align.code ++ le 1 (frameRaw x) ++ rxFields x.last ++ le 8 ((x.last.map (·.fc)).getD 0)
    ++ le 1 ((x.last.map (·.source)).getD 0) ++ le 1 x.misfits ++ le 2 ((x.last.map (·.trace)).getD 0) ++ le 1 (b2n chg.isSome)
    ++ le 1 ((chg.map (·.1)).getD 0) ++ le 2 ((chg.map (·.2.1)).getD 0) ++ le 8 ((s.map (·.header.fc)).getD 0)
    ++ le 8 ((s.map (·.time)).getD 0) ++ le 8 x.lastSync ++ le 4 (causeOf d (.frameCoach c)).toNat
    ++ le 1 ((s.map (fun f => sentFlags f.header)).getD 0) ++ zeros 3
    ++ (List.range 6).flatMap (fun i => le 8 (countOf d (keyCoach c (9 + i))))
def frameStatusService : Service where
  opcode := 0x0302
  targets _ _ := [1]
  freeze := .never
  checks _ b := [(!within 0 255 (u16 b 0), outOfRange)]
  run _ b d := done (frameStatusBody (u16 b 0) d) (clearCause (.frameCoach (u16 b 0)) (flag b 2 0) d)
def execFrameStatus (mb : Mailbox) : State → Host.Outcome State Fault Refusal := lift (serve frameStatusService mb)

end Sys2Proof.Machine
end

