-- ==== Sys2Proof/Machine/LaneBits.lean ====
section
/-! DEFINITION. The bits of an SLP lane: 132-bit blocks and their masks, control blocks, PAM4 symbols, RS(544,514), PRBS-31 (R256 to R259, R267,
R273). -/

namespace Sys2Proof.Machine

/-! ## Blocks (R256 to R258) -/

abbrev LaneBlock := BitVec 132
/-- PRBS-7 from the all-ones state: output x⁷ + x⁶ + 1; p[0] to p[n − 1] from a state. -/
def prbs7 : Nat → BitVec 7 → List Bool
  | 0, _ => []
  | n + 1, s => let o := s.getLsbD 6 ^^ s.getLsbD 5; o :: prbs7 n ((s <<< 1) ||| (BitVec.ofBool o).setWidth 7)
/-- Mask M_H. -/
def blockMask (h : Nat) : List Bool :=
  let p := prbs7 127 0x7F
  (List.range 128).map (fun i => nth p ((i + 8 * h) % 127) false)
def boolsToBits (n : Nat) (l : List Bool) : BitVec n := BitVec.ofNat n (l.foldr (fun b a => 2 * a + b2n b) 0)
def xorBools (a b : List Bool) : List Bool := (a.zip b).map (fun p => p.1 ^^ p.2)
/-- The bits of a block with header `h`: header, then payload. -/
def blockBits (h : Nat) (payload : List Bool) : List Bool := bitsFrom (BitVec.ofNat 4 h) 0 4 ++ payload
/-- Runs of identical bits: the last bit and the length of its run, the longest run that reaches into the bits. -/
structure Runs where
  bit : Bool
  len : Nat
  longest : Nat
def runStep (r : Runs) (b : Bool) : Runs :=
  let n := if b = r.bit then r.len + 1 else 1
  { bit := b, len := n, longest := max r.longest n }
def runsOf (bit : Bool) (len : Nat) (l : List Bool) : Runs := l.foldl runStep { bit := bit, len := len, longest := 0 }
/-- A data block with header `h` after a run: its bits, and whether it keeps the limits of R257. -/
def dataBlock (h : Nat) (payload : List Bool) : List Bool := blockBits h (xorBools payload (blockMask h))
def runsFit (bit : Bool) (len : Nat) (l : List Bool) : Bool :=
  let r := runsOf bit len l
  decide (r.longest ≤ 22) && decide (r.len ≤ 11)
/-- The transmitter takes the lowest H from 1 to 15 that fits; one always does. -/
def chooseBlock (bit : Bool) (len : Nat) (payload : List Bool) : List Bool :=
  (((List.range 16).drop 1).map (fun h => dataBlock h payload)).find? (runsFit bit len) |>.getD (dataBlock 1 payload)
/-- The receiver removes the mask by the header. -/
def blockHeader (b : LaneBlock) : Nat := b.toNat % 16
def unmask (b : LaneBlock) : List Bool := xorBools (bitsFrom b 4 128) (blockMask (blockHeader b))
/-- The comma, and a TRAIN block of word w. -/
def commaBits : List Bool :=
  blockBits 0 ((List.range 128).map (fun i => if i < 33 then true else if i < 66 then false else i % 2 == 0))
def trainBits (w : QWord) : List Bool := blockBits 0 ((bitsFrom w 0 64).flatMap (fun b => [b, !b]))
def isComma (b : LaneBlock) : Bool := bitsFrom b 0 132 == commaBits
/-- The training word of a received block, if it is a TRAIN block. -/
def trainWord (b : LaneBlock) : Option QWord :=
  let w : QWord := boolsToBits 64 ((List.range 64).map (fun m => b.getLsbD (4 + 2 * m)))
  if bitsFrom b 0 132 == trainBits w then some w else none

/-! ## PAM4 (R256, R276) -/

/-- Two bits as a PAM4 level, Gray coded, the earlier bit the symbol's most significant; inverted polarity turns level a into 3 − a. -/
def pam4 : List Bool → List Nat
  | m :: l :: t => (if m then (if l then 2 else 3) else (if l then 1 else 0)) :: pam4 t
  | _ => []
def invertPam4 (on : Bool) (l : List Nat) : List Nat := if on then l.map (3 - ·) else l
/-- Received bits of an inverted pair: Gray coded, the inversion changes the earlier bit of each symbol. -/
def uninvert (on : Bool) (b : LaneBlock) : LaneBlock := if on then b ^^^ boolsToBits 132 ((List.range 132).map (fun i => i % 2 == 0)) else b

/-! ## RS(544,514) over GF(2¹⁰) (R259; PRESUMED of IEEE 802.3: field polynomial x¹⁰ + x³ + 1, roots α⁰ to α²⁹, bit 0 of a symbol first) -/

def gf10Double (a : Nat) : Nat := if 512 ≤ a then (2 * a) ^^^ 0x409 else 2 * a
def gf10MulFrom : Nat → Nat → Nat → Nat
  | 0, _, _ => 0
  | n + 1, a, b => (if b % 2 = 1 then a else 0) ^^^ gf10MulFrom n (gf10Double a) (b / 2)
def gf10Mul (a b : Nat) : Nat := gf10MulFrom 10 a b
def gf10Pow : Nat → Nat
  | 0 => 1
  | n + 1 => gf10Double (gf10Pow n)
/-- The generator polynomial without its leading 1, the highest coefficient first. -/
def rsGenerator : List Nat :=
  ((List.range 30).foldl (fun (g : List Nat) j => ((g ++ [0]).zip (0 :: g)).map (fun (p : Nat × Nat) => p.1 ^^^ gf10Mul (gf10Pow j) p.2)) [1]).tail
/-- One message symbol enters the division. -/
def rsStep (r : List Nat) (s : Nat) : List Nat :=
  let f := s ^^^ r.headD 0
  ((r.tail ++ [0]).zip rsGenerator).map (fun (p : Nat × Nat) => p.1 ^^^ gf10Mul f p.2)
def symbolsFrom : Nat → List Bool → List Nat
  | 0, _ => []
  | n + 1, l => (boolsToBits 10 (l.take 10)).toNat :: symbolsFrom n (l.drop 10)
/-- A codeword's 5,440 bits from 5,140 message bits. -/
def rsCodewordBits (msg : List Bool) : List Bool :=
  let ms := symbolsFrom 514 msg
  (ms ++ ms.foldl rsStep (List.replicate 30 0)).flatMap (fun s => bitsFrom (BitVec.ofNat 10 s) 0 10)
/-- The payloads of 85 data blocks: two codewords back to back, over 1,285 bytes of the cell stream. -/
def codewordPayloads (bs : List Byte) : List (BitVec 128) :=
  let bits := byteBitsLsb bs
  let all := rsCodewordBits (bits.take 5140) ++ rsCodewordBits (bits.drop 5140)
  (List.range 85).map (fun i => boolsToBits 128 ((all.drop (128 * i)).take 128))

/-! ## PRBS-31 (R273) -/

/-- The next bit of x³¹ + x²⁸ + 1, and the state with a bit shifted in. -/
def prbs31Bit (s : BitVec 31) : Bool := s.getLsbD 30 ^^ s.getLsbD 27
def shift31 (s : BitVec 31) (b : Bool) : BitVec 31 := (s <<< 1) ||| (BitVec.ofBool b).setWidth 31
def prbs31 : Nat → BitVec 31 → List Bool × BitVec 31
  | 0, s => ([], s)
  | n + 1, s => let b := prbs31Bit s; let r := prbs31 n (shift31 s b); (b :: r.1, r.2)
/-- The checker: its state, error-free bits in a row up to 31, mismatches after lock. -/
structure Checker where
  state : BitVec 31
  run : Nat
  errors : Nat := 0
/-- DESIGN CHOICE: until it locks the checker predicts from the bits received, from then on from its own sequence. -/
def checkPrbs (c : Checker) (b : Bool) : Checker :=
  let p := prbs31Bit c.state
  if 31 ≤ c.run then { c with state := shift31 c.state p, errors := c.errors + b2n (b != p) }
  else { c with state := shift31 c.state b, run := if b = p then c.run + 1 else 0 }

/-! ## The eye score (R270) -/

/-- The opening between two levels with their means and deviations, in 2⁻¹⁶ of the nominal level spacing. -/
def eyeOpening (m n : Int) (s t : Nat) : Int := n - m - 3 * ((s + t : Nat) : Int)
/-- The smallest of the three openings × 255, rounded (DESIGN CHOICE: halves up) and limited to 0 to 255. -/
def eyeScoreOf (e : EyeFacts) : Nat :=
  let m := min (eyeOpening e.m0 e.m1 e.s0 e.s1) (min (eyeOpening e.m1 e.m2 e.s1 e.s2) (eyeOpening e.m2 e.m3 e.s2 e.s3))
  min 255 ((m * 255 + 32768) / 65536).toNat

end Sys2Proof.Machine
end

