-- ==== Sys2Proof/Machine/Client.lean ====
section
/-! DEFINITION. Client lanes, ports and links: negotiation, cells and credit, Ethernet frames, commands (R248 to R280). -/

namespace Sys2Proof.Machine

def setLane (l : Nat) (x : LaneSt) (d : Dev) : Dev :=
  { d with clients := { d.clients with lanes := tabPut (fun _ => {}) d.clients.lanes l x } }
def setGroup (l : Nat) (x : Group) (d : Dev) : Dev :=
  { d with clients := { d.clients with groups := tabPut (fun _ => {}) d.clients.groups l x } }
/-- The lanes of the group with this first lane; the group that holds a lane. -/
def lanesOf (d : Dev) (f : Nat) : List Nat := (List.range (group d f).width).map (f + ·)
def holds (g : Group) (f l : Nat) : Bool := g.protocol != 0 && decide (f ≤ l) && decide (l < f + g.width)
def groupAt (d : Dev) (l : Nat) : Option Nat := (List.range 128).find? (fun f => holds (group d f) f l)
def mapLanes (ls : List Nat) (f : LaneSt → LaneSt) (d : Dev) : Dev := ls.foldl (fun d l => setLane l (f (laneOf d l)) d) d
def laneCause (l b : Nat) (d : Dev) : Dev := raiseCause (.lane l) b d
/-- Count `i` of R277: 0 RS_CORRECTED to 7 PRBS_ERRORS, 8 HUNT_WORDS. -/
def laneCount (l i n : Nat) (d : Dev) : Dev := bump (keyLane l i) n d
/-- The lane's tile and link carry traffic. -/
def laneRuns (d : Dev) (l : Nat) : Bool := !tileOff d (l / 64) && !clientDown d l

/-! ## Up and down -/

/-- Recovered client clocks of a lane that enters or leaves UP (R278, R397). -/
def laneClock (l : Nat) (d : Dev) : Dev :=
  d.clients.recclk.zipIdx.foldl (fun d e =>
    if e.1 = l ∧ (laneOf d l).state ≠ .up ∧ (refOf d (20 + e.2)).q ≠ .disabled then sourceChanged (20 + e.2) false d else d) d
def laneClocks (ls : List Nat) (d : Dev) : Dev := ls.foldl (fun d l => laneClock l d) d
/-- CSF of the queues of a group that is set has been set in this millisecond (R195). -/
def seeGroup (f : Nat) (d : Dev) : Dev :=
  ((List.range (group d f).count).map ((group d f).first + ·)).foldl (fun d q => seeQueueRaw 0 q d) d
/-- A group that is up goes down: LANE_DOWN on each lane, PORT_DOWN. -/
def groupDown (f : Nat) (d : Dev) : Dev :=
  let g := group d f
  if g.up then
    let d1 := if g.protocol = 2 then (lanesOf d f).foldl (fun d l => laneCause l 1 d) d else d
    laneCause f 8 (setGroup f { g with up := false } d1)
  else d
/-- The lane's cells of before are gone; a lane that sends data goes over to training frames, or one that trains goes on with its frame. -/
def dropCells (x : LaneSt) : LaneSt := { x with cellBytes := [], payloads := [], inbox := [] }
/-- A lane starts training at 106.25 Gb/s; its exclusions stay. A lane that trains already finishes its frame, so that the commas of the link's lanes
stay in the same block (R266, R267). -/
def trainLane (x : LaneSt) : LaneSt :=
  if x.loop ≠ 0 then x
  else dropCells { x with
    state := .trainLow, rate := 1, rateNext := 0, eyeRun := 0, commaLock := false, commas := 0, missed := 0, valid := 0, agree := 0
    order := false, skew := false, blockNo := if x.dataOn then 0 else x.blockNo }
/-- Every lane of a link goes to TRAIN_LOW (R268). -/
def retrain (f : Nat) (d : Dev) : Dev :=
  let d1 := mapLanes (lanesOf d f) trainLane (groupDown f d)
  laneClocks (lanesOf d f) (setGroup f { group d1 f with rateSel := 0, version := 0 } d1)
/-- A lane in OFF: exclusions cleared. -/
def offLane (x : LaneSt) : LaneSt :=
  { x with state := if x.loop ≠ 0 then .loop else .off, rate := 0, rateNext := 0, blockNo := 0, dataOn := false, eyeRun := 0, commaLock := false, commas := 0, missed := 0, excl212 := false
           excl450 := false, valid := 0, agree := 0, order := false, skew := false, aligned := false }
/-- An Ethernet lane seeks PCS alignment. DESIGN CHOICE: until its port is up it reports ADAPT. -/
def alignLane (rate : Nat) (x : LaneSt) : LaneSt := if x.loop ≠ 0 then x else { x with state := .adapt, rate := rate, rateNext := 0, aligned := false }
/-- The egress of an Ethernet port starts: it hunts for a descriptor (R254). -/
def huntGroup (f : Nat) (d : Dev) : Dev := setRxQueue (group d f).first { rxQueue d (group d f).first with hunting := true } d
/-- An enabled group starts: training, or PCS alignment. -/
def startGroup (f : Nat) (d : Dev) : Dev :=
  let g := group d f
  let d1 := mapLanes (lanesOf d f) offLane (setGroup f { g with up := false, rateSel := 0, version := 0, localFault := false } d)
  if g.protocol = 2 then mapLanes (lanesOf d f) trainLane d1 else huntGroup f (mapLanes (lanesOf d f) (alignLane (g.rateCap + 1)) d1)
/-- A group that is disabled: its lanes go to OFF. -/
def stopGroup (f : Nat) (d : Dev) : Dev :=
  laneClocks (lanesOf d f) (mapLanes (lanesOf d f) offLane (setGroup f { group d f with up := false, rateSel := 0, version := 0, localFault := false } d))
/-- Back into training or alignment, as after a loop (R278). -/
def rejoinGroup (f : Nat) (d : Dev) : Dev :=
  if (group d f).protocol = 2 then retrain f d
  else laneClocks (lanesOf d f) (mapLanes (lanesOf d f) (alignLane ((group d f).rateCap + 1)) (groupDown f d))
/-- A tile's power or clock returns: every enabled group restarts from OFF, channel counts at zero (R280). -/
def restartTile (m : Nat) (d : Dev) : Dev :=
  (List.range 64).foldl (fun d i =>
    let f := 64 * m + i
    let g := group d f
    if g.protocol ≠ 0 ∧ g.enable then
      startGroup f ((List.range g.count).foldl (fun d j => setChannel (g.first + j) {} d) d)
    else d) d
/-- A tile's client link is down: none of its groups is up (R280). -/
def loseTile (m : Nat) (d : Dev) : Dev :=
  (List.range 64).foldl (fun d i => let f := 64 * m + i
    laneClocks (lanesOf d f) (mapLanes (lanesOf d f) (fun x => { x with state := .linkDown }) (groupDown f d))) d

/-! ## Negotiation (R266 to R269) -/

/-- Rates that the device offers on a link, as bits: up to RATE_CAP, not excluded. -/
def offers (g : Group) (x : LaneSt) (r : Nat) : Bool :=
  decide (r ≤ g.rateCap) && !(r == 1 && x.excl212) && !(r == 2 && x.excl450)
/-- Rate code r of RATE_CAP (0 to 2) is offered by both ends on every lane; version v by every partner lane. -/
def rateCommon (d : Dev) (f r : Nat) : Bool :=
  (lanesOf d f).all (fun l => offers (group d f) (laneOf d l) r && (laneOf d l).partnerRates.testBit r)
def versionCommon (d : Dev) (f v : Nat) : Bool := (lanesOf d f).all (fun l => (laneOf d l).partnerVersions.testBit (v - 1))
/-- The highest common version valid at a rate: 450 Gb/s needs version 3. -/
def versionAt (d : Dev) (f r : Nat) : Option Nat :=
  if versionCommon d f 3 then some 3 else if r ≠ 2 ∧ versionCommon d f 2 then some 2 else none
/-- RATE_SEL and VERSION_SEL (R269). DEDUCED: a rate without a valid common version cannot be selected. -/
def selection (d : Dev) (f : Nat) : Option (Nat × Nat) :=
  [2, 1, 0].findSome? (fun r => if rateCommon d f r then (versionAt d f r).map (fun v => (r + 1, v)) else none)
/-- A lane meets the conditions to leave TRAIN_LOW or ADAPT. DEDUCED: "valid partner words" of ADAPT are the 16 of TRAIN_LOW. -/
def qualifies (x : LaneSt) : Bool := x.commaLock && decide (100 ≤ x.eyeRun) && decide (16 ≤ x.valid)
def allIn (d : Dev) (f : Nat) (p : LaneSt → Bool) : Bool := (lanesOf d f).all (fun l => p (laneOf d l))
/-- The selection of a link whose lanes are all in SETTLE. DEDUCED: no common rate fails as no common version does. -/
def selectLink (f : Nat) (d : Dev) : Dev :=
  match selection d f with
  | some (r, v) =>
    mapLanes (lanesOf d f) (fun x => { x with state := .change, agree := 0 }) (setGroup f { group d f with rateSel := r, version := v } d)
  | none => (lanesOf d f).foldl (fun d l => laneCause l 2 d) (mapLanes (lanesOf d f) (fun x => { x with state := .failed }) d)
/-- The link comes up: LANE_UP on each lane, PORT_UP, all channel counts zero, first credits (R262, R264, R268). -/
def linkUpNow (f : Nat) (d : Dev) : Dev :=
  let g := group d f
  let qs := channelsOf g
  let d1 := mapLanes (lanesOf d f) (fun x => dropCells { x with state := .up }) (seeGroup f d)
  let d2 := qs.foldl (fun d q => setChannel q {} d) (setGroup f { g with up := true, cellsOut := 0, cellsIn := 0 } d1)
  let d3 := (lanesOf d f).foldl (fun d l => laneCause l 0 d) (qs.foldl (fun d q => grantCredit q d) d2)
  laneCause f 7 d3
/-- What a lane's progress leads to. DEDUCED: the lanes of a link go from READY to UP together. -/
def advanceLane (f l : Nat) (d : Dev) : Dev :=
  let x := laneOf d l
  let g := group d f
  match x.state with
  | .trainLow =>
    if qualifies x then
      let d1 := setLane l { x with state := .settle } d
      if allIn d1 f (fun y => y.state == .settle) then selectLink f d1 else d1
    else d
  | .change =>
    if 16 ≤ x.agree then
      setLane l (if g.rateSel = 1 then { x with state := .ready, agree := 0 }
        else { x with state := .adapt, rateNext := g.rateSel, eyeRun := 0, commaLock := false, commas := 0, missed := 0, valid := 0, agree := 0 }) d
    else d
  | .adapt => if qualifies x then setLane l { x with state := .ready, agree := 0 } d else d
  | .ready =>
    if allIn d f (fun y => y.state == .ready && decide (16 ≤ y.agree) && !y.order && !y.skew) then linkUpNow f d else d
  | _ => d
/-- An SLP lane that trains: its link. -/
def slpLink (d : Dev) (l : Nat) : Option Nat :=
  match groupAt d l with
  | some f => if (group d f).protocol = 2 ∧ (group d f).enable ∧ laneRuns d l ∧ (laneOf d l).loop = 0 then some f else none
  | none => none
/-- A comma at the expected spacing, or an expected position without one (R266); `skewed`: received lanes differ by more than 40 ns. -/
def commaStep (seen skewed : Bool) (x : LaneSt) : LaneSt :=
  if seen then
    let n := sat 3 (x.commas + 1)
    { x with commas := n, missed := 0, commaLock := x.commaLock || n == 3, skew := skewed }
  else if x.commaLock then
    if 2 ≤ x.missed then { x with commaLock := false, commas := 0, missed := 0, eyeRun := 0, valid := 0, agree := 0 } else { x with missed := x.missed + 1 }
  else { x with commas := 0 }
def commaBlock (l : Nat) (block : LaneBlock) (skewed : Bool) (d : Dev) : Dev :=
  match slpLink d l with
  | some f =>
    let x := laneOf d l
    let y := commaStep (isComma (uninvert x.rxInvert block)) skewed x
    let d1 := setLane l y d
    let d2 := if y.skew && !x.skew then laneCause l 10 d1 else d1
    if x.commaLock && !y.commaLock && x.state == .up then retrain f d2 else advanceLane f l d2
  | none => d
/-- COMMA_BLOCK: the bits received where a comma is expected. -/
def execCommaBlock (l : Lane) (block : LaneBlock) (skewed : Bool) : State → Host.Outcome State Fault Refusal := lift (commaBlock l block skewed)

def wf (w : QWord) (lo n : Nat) : Nat := w.toNat / 2 ^ lo % 2 ^ n
/-- A training word is valid (R267). -/
def wordValid (w : QWord) : Bool := wf w 0 8 == 0x3C && wf w 56 8 == (crc8 (le 7 w.toNat)).toNat
/-- The partner agrees with a step and the selections. -/
def wordAgrees (g : Group) (s : LaneState) (w : QWord) : Bool :=
  wf w 13 3 == g.rateSel && wf w 20 4 == g.version && wf w 8 2 == (if s = .ready then 2 else 1)
def trainingStep (g : Group) (i : Nat) (w : Option QWord) (x : LaneSt) : LaneSt :=
  match w.filter wordValid with
  | some w =>
    { x with valid := sat 16 (x.valid + 1), partnerRates := wf w 10 3, partnerVersions := wf w 16 4, order := wf w 24 6 != i
             agree := if wordAgrees g x.state w then sat 16 (x.agree + 1) else 0 }
  | none => { x with valid := 0, agree := 0 }
def isTraining (s : LaneState) : Bool := s == .trainLow || s == .settle || s == .change || s == .adapt || s == .ready
def trainingFrame (l : Nat) (block : LaneBlock) (d : Dev) : Dev :=
  match slpLink d l with
  | some f =>
    let x := laneOf d l
    if isTraining x.state && x.commaLock then
      let y := trainingStep (group d f) (l - f) (trainWord (uninvert x.rxInvert block)) x
      let d1 := setLane l y d
      advanceLane f l (if y.order && !x.order then laneCause l 9 d1 else d1)
    else d
  | none => d
/-- TRAINING_FRAME: a block of a received training frame after its comma. -/
def execTrainingFrame (l : Lane) (block : LaneBlock) : State → Host.Outcome State Fault Refusal := lift (trainingFrame l block)
/-- NEG_RETRY: 20 ms in TRAIN_LOW, or in SETTLE while some lane of the link is not there. -/
def negRetry (l : Nat) (d : Dev) : Dev :=
  match slpLink d l with
  | some _ =>
    let s := (laneOf d l).state
    if s = .trainLow ∨ s = .settle then raiseCauseMs (.lane l) 3 (setLane l (trainLane (laneOf d l)) d) else d
  | none => d
def execNegRetry (l : Lane) : State → Host.Outcome State Fault Refusal := lift (negRetry l)
def exclude (r : Nat) (x : LaneSt) : LaneSt := { x with excl212 := x.excl212 || r == 2, excl450 := x.excl450 || r == 3 }
/-- RATE_FALLBACK: 50 ms in ADAPT on any lane of the link. -/
def rateFallback (l : Nat) (d : Dev) : Dev :=
  match slpLink d l with
  | some f =>
    if (laneOf d l).state = .adapt then
      let r := (group d f).rateSel
      retrain f ((lanesOf d f).foldl (fun d l => laneCause l 4 d) (mapLanes (lanesOf d f) (exclude r) d))
    else d
  | none => d
def execRateFallback (l : Lane) : State → Host.Outcome State Fault Refusal := lift (rateFallback l)
/-- Adaptation moves the receive coefficients; with ADAPT_MODE 1 only while the lane trains (R271). -/
def adapt (l : Nat) (d : Dev) : Dev :=
  let x := laneOf d l
  if x.adaptMode = 1 && !isTraining x.state then d
  else let f := drawFree d; setLane l { x with coeffs := f.2.free } f.2
/-- A lane's eye score is computed (R270). -/
def eyeScore (l : Nat) (e : EyeFacts) (d0 : Dev) : Dev :=
  let d := adapt l d0
  let x := laneOf d l
  let score := eyeScoreOf e
  match groupAt d l with
  | some f =>
    let g := group d f
    let y := { x with eye := score, eyeLow := min x.eyeLow score, eyeRun := if g.eyeMin ≤ score then sat 100 (x.eyeRun + 1) else 0 }
    let d1 := setLane l y d
    let d2 := if x.state = .up ∧ score < g.eyeWarn ∧ g.eyeWarn ≤ x.eye then raiseCauseMs (.lane l) 5 d1 else d1
    if (slpLink d l).isSome then advanceLane f l d2 else d2
  | none => setLane l { x with eye := score, eyeLow := min x.eyeLow score } d
def execEyeScore (l : Lane) (eye : EyeFacts) : State → Host.Outcome State Fault Refusal :=
  lift fun d => guard (laneRuns d l) (eyeScore l eye) d
/-- A received RS codeword: symbols corrected, or none where it is uncorrectable (R259). -/
def rsCodeword (l : Nat) (corrected : Option Nat) (d : Dev) : Dev :=
  let d1 := laneTally l 0 1 d
  match corrected with
  | some n => laneTally l 1 n (laneCount l 0 n d1)
  | none => laneCause l 6 (laneTally l 2 1 (laneCount l 1 1 d1))
def execRsCodeword (l : Lane) (corrected : Option Nat) : State → Host.Outcome State Fault Refusal :=
  lift fun d => guard (laneRuns d l && (laneOf d l).state == .up) (rsCodeword l corrected) d

/-! ## Cells (R261 to R265) -/

/-- The link with this first lane is up. -/
def slpUp (d : Dev) (f : Nat) : Bool := (group d f).protocol == 2 && (group d f).up && laneRuns d f
def cellChannel (bs : List Byte) : Nat := u16 bs 0 % 4096
def cellType (bs : List Byte) : Nat := u16 bs 0 / 4096
def cellOk (bs : List Byte) : Bool := u8 bs 3 == (crc8 (bs.take 3)).toNat && decide (cellType bs ≤ 5)
def cellWords (bs : List Byte) : List QWord := (List.range 32).map (fun m => BitVec.ofNat 64 (un bs (4 + 8 * m) 8))
/-- A DATA cell enters its queue. -/
def dataCell (f q : Nat) (c : CellFacts) (d : Dev) : Dev :=
  let x := channelOf d q
  let d1 := setChannel q { x with received := (x.received + 1) % 65536 } d
  let d2 := if c.uncorrectable then laneCount f 4 1 d1 else d1
  arriveUnit q (cellWords c.bytes) (laneTally f 3 1 d2)
/-- The entries of a CREDIT or SENT cell: channel and count. DESIGN CHOICE: the manual gives no number of entries, so all 64 are taken. -/
def cellEntries (bs : List Byte) : List (Nat × Nat) := (List.range 64).map (fun i => (u16 bs (4 + 4 * i) % 4096, u16 bs (6 + 4 * i)))
def creditEntry (g : Group) (d : Dev) (e : Nat × Nat) : Dev := if inLink g e.1 then setChannel e.1 { channelOf d e.1 with limit := e.2 } d else d
def sentEntry (g : Group) (d : Dev) (e : Nat × Nat) : Dev :=
  if inLink g e.1 then grantCredit e.1 (setChannel e.1 { channelOf d e.1 with received := e.2 } d) else d
/-- A cell received on a link; an AIS cell from the host has no stated effect. -/
def cellReceived (f : Nat) (c : CellFacts) (d : Dev) : Dev :=
  let g := group d f
  let bs := c.bytes
  let d1 := setGroup f { g with cellsIn := g.cellsIn + 1 } d
  if !cellOk bs then laneTally f 7 1 (laneCount f 2 1 d1)
  else match cellType bs with
    | 1 => if inLink g (cellChannel bs) then dataCell f (cellChannel bs) c d1 else laneTally f 7 1 (laneCount f 3 1 d1)
    | 2 => (cellEntries bs).foldl (creditEntry g) d1
    | 4 =>
      if inLink g (cellChannel bs) then
        seeQueueRaw 0 (cellChannel bs) (setChannel (cellChannel bs) { channelOf d1 (cellChannel bs) with csfAt := some (nowNs d) } d1)
      else d1
    | 5 => (cellEntries bs).foldl (sentEntry g) d1
    | _ => d1
/-- The lane that carries cell n of a link (R262). -/
def cellLane (g : Group) (f n : Nat) : Nat := f + n % g.width
/-- The link takes the cells of its lanes in the order of their numbers. `fuel` bounds them. -/
def takeCells (f : Nat) : Nat → Dev → Dev
  | 0, d => d
  | n + 1, d =>
    let l := cellLane (group d f) f (group d f).cellsIn
    match (laneOf d l).inbox with
    | c :: t => takeCells f n (cellReceived f c (setLane l { laneOf d l with inbox := t } d))
    | [] => d
/-- A cell arrives on lane l of a link. -/
def cellArrives (f l : Nat) (c : CellFacts) (d : Dev) : Dev :=
  let d1 := setLane l { laneOf d l with inbox := (laneOf d l).inbox ++ [c] } d
  takeCells f ((lanesOf d1 f).map (fun i => (laneOf d1 i).inbox.length)).sum d1
/-- CELL_RECEIVED on lane `l`. -/
def execCellReceived (l : Lane) (cell : CellFacts) : State → Host.Outcome State Fault Refusal :=
  liftIf (cell.bytes.length == 260) fun d =>
    match groupAt d l with
    | some f => guard (slpUp d f) (cellArrives f l cell) d
    | none => d

/-- The header of a cell. -/
def cellHeader (q type : Nat) (err : Bool) : List Byte :=
  let h := le 2 (q + 4096 * type) ++ le 1 (b2n err)
  h ++ [(crc8 h).setWidth 8]
/-- A cell goes out on a link: its bytes enter the cell stream of its lane. -/
def sendCell (f : Nat) (bs : List Byte) (d : Dev) : Dev :=
  let g := group d f
  let l := cellLane g f g.cellsOut
  let d1 := setGroup f { g with cellsOut := g.cellsOut + 1 } d
  setOutput f (.cell bs) (setLane l { laneOf d1 l with cellBytes := (laneOf d1 l).cellBytes ++ bs } d1)
/-- The fill that the egress of a queue carries: 2 AIS (downstream AIS, or FILL_KIND 2), 1 CSF, 0 data (R199, R232). -/
def egressFill (d : Dev) (q : Nat) : Nat := if tsf d q then 2 else (rxQueue d q).fillKind
/-- EGRESS of a receive queue is LINE, by its configuration or because it is groomed (R234, R241). -/
def toLine (d : Dev) (q : Nat) : Bool := (rxQueue d q).cfg.egressLine || groomed d q
/-- The link of an SLP queue that is up and whose egress is the client. -/
def slpOut (d : Dev) (q : Nat) : Option Nat :=
  match groupOf d q with
  | some f => if slpUp d f ∧ inLink (group d f) q ∧ !toLine d q then some f else none
  | none => none
/-- Words at the head with consecutive stream word numbers, up to 32. -/
def inSequence : Nat → List RxWord → Nat
  | 0, _ => 0
  | _, [] => 0
  | n + 1, w :: t => match t with
    | v :: _ => if v.no = (w.no + 1) % 2 ^ 32 then 1 + inSequence n t else 1
    | [] => 1
/-- Words to drop before the next whole cell: those before a boundary, and a part of a cell that other words do not continue. `fuel` bounds the parts. -/
def toBoundary : Nat → List RxWord → Nat
  | 0, _ => 0
  | _, [] => 0
  | n + 1, w :: t =>
    let m := inSequence 32 (w :: t)
    let k := (32 - w.no % 32) % 32
    if 0 < k then min k m + toBoundary n ((w :: t).drop (min k m))
    else if m < 32 ∧ m < (w :: t).length then m + toBoundary n ((w :: t).drop m)
    else 0
def creditLeft (x : Channel) : Bool := within 1 32767 (modSub 65536 x.limit x.sent)
/-- Words of a cell: zero in place of fill. -/
def cellPayload (ws : List RxWord) : List Byte := ws.flatMap (fun w => le 8 (w.value.getD 0).toNat)
/-- CELL_SEND: one DATA cell, if 32 words are there from a cell boundary and the host's credit allows it; words before the boundary,
left from before fill or from a part of a cell, are dropped. -/
def cellSend (q : Nat) (d : Dev) : Dev :=
  match slpOut d q with
  | some f =>
    if egressFill d q ≠ 0 then d
    else
      let held := (rxStore (rxQueue d q)).all
      let d1 := (takeRx q (toBoundary held.length held) d).2
      let x := channelOf d1 q
      if (rxStore (rxQueue d1 q)).total < 32 then d1
      else if !creditLeft x then laneTally f 9 1 d1
      else
        let t := takeRx q 32 d1
        let err := t.1.any (fun w => w.value.isNone)
        laneTally f 4 1 (setChannel q { x with sent := (x.sent + 1) % 65536, traffic := true }
          (sendCell f (cellHeader q 1 err ++ cellPayload t.1) t.2))
  | none => d
def execCellSend (q : Queue) : State → Host.Outcome State Fault Refusal := lift (cellSend q)
/-- Free bytes for what the manual leaves open. -/
def freeBytes : Nat → Dev → List Byte × Dev
  | 0, d => ([], d)
  | n + 1, d => let v := drawFree d; let r := freeBytes n v.2; (le 8 v.1.toNat ++ r.1, r.2)
/-- AIS_CELL: every 10 µs one AIS or CSF cell for a channel under fill; its payload is not stated, free values. -/
def aisCell (q : Nat) (d : Dev) : Dev :=
  match slpOut d q with
  | some f =>
    let k := egressFill d q
    if k = 0 then d
    else
      let r := freeBytes 32 d
      sendCell f (cellHeader q (if k = 1 then 4 else 3) false ++ r.1) r.2
  | none => d
def execAisCell (q : Queue) : State → Host.Outcome State Fault Refusal := lift (aisCell q)
/-- The channels of a link with traffic since their last SENT entry, at most 64. -/
def sentDue (d : Dev) (f : Nat) : List Nat :=
  ((channelsOf (group d f)).filter (fun q => (channelOf d q).traffic)).take 64
/-- Entries of 4 bytes; the last one repeats in what is left of 64 (DESIGN CHOICE). -/
def entryBytes (qs : List Nat) (count : Nat → Nat) : List Byte :=
  ((List.range 64).map (fun i => nth qs i (qs.getLastD 0))).flatMap (fun q => le 2 q ++ le 2 (count q))
/-- SENT_CELL on the link with first lane `l`; its CHANNEL field is ignored. -/
def sentCell (f : Nat) (d : Dev) : Dev :=
  let qs := sentDue d f
  if qs.isEmpty then d
  else qs.foldl (fun d q => setChannel q { channelOf d q with traffic := false } d) (sendCell f (cellHeader 0 5 false ++ entryBytes qs (fun q => (channelOf d q).sent)) d)
/-- The channels of a link whose limit has grown since the last CREDIT entry, at most 64. -/
def creditDue (d : Dev) (f : Nat) : List Nat :=
  ((channelsOf (group d f)).filter (fun q => (channelOf d q).granted != (channelOf d q).told)).take 64
/-- A CREDIT cell with the device's limits (R264). -/
def creditCell (f : Nat) (d : Dev) : Dev :=
  let qs := creditDue d f
  let d1 := sendCell f (cellHeader 0 2 false ++ entryBytes qs (fun q => (channelOf d q).granted)) d
  qs.foldl (fun d q => setChannel q { channelOf d q with told := (channelOf d q).granted } d) d1
/-- What a link with nothing else to send sends: CREDIT cells where limits have grown, IDLE cells (R261). -/
def fillerCell (f : Nat) (d : Dev) : Dev :=
  if (creditDue d f).isEmpty then let r := freeBytes 32 d; sendCell f (cellHeader 0 0 false ++ r.1) r.2 else creditCell f d
def execSentCell (l : Lane) : State → Host.Outcome State Fault Refusal := lift fun d => guard (slpUp d l) (sentCell l) d

/-! ## Ethernet (R251 to R255) -/

def ethUp (d : Dev) (f : Nat) : Bool := (group d f).protocol == 1 && (group d f).up && laneRuns d f
/-- The words of a delineation unit. -/
def ethUnit (bs : List Byte) (bad : Bool) : List QWord :=
  descriptor bs.length bad :: (List.range (ceilDiv bs.length 8)).map (fun m => BitVec.ofNat 64 (un bs (8 * m) 8))
/-- ns that a PAUSE of `n` quanta lasts on a port: 512 bit times each (PRESUMED: IEEE 802.3). -/
def pauseNs (g : Group) (n : Nat) : Nat := n * 512 / (200 * 2 ^ g.speed)
def haltEgress (f q n : Nat) (d : Dev) : Dev :=
  setRxQueue q { rxQueue d q with haltUntil := if n = 0 then 0 else nowNs d + pauseNs (group d f) n } d
/-- A received frame (R252, R253). -/
def ethFrameRx (f : Nat) (e : EthFacts) (d : Dev) : Dev :=
  let g := group d f
  let d1 := laneTally f 5 1 d
  match e with
  | .frame bs ok =>
    if bs.length < 64 then laneTally f 7 1 (laneCount f 5 1 d1)
    else if g.maxFrame < bs.length then laneTally f 7 1 (laneCount f 6 1 d1)
    else arriveUnit g.first (ethUnit bs (!ok)) d1
  | .pause n => haltEgress f g.first n.toNat d1
  | .pfc cls qs =>
    let p := (rxQueue d g.first).cfg.priority
    if cls.getLsbD p then haltEgress f g.first (nth qs p 0).toNat d1 else d1
/-- ETH_FRAME_RX on the port with first lane `l`. -/
def execEthFrameRx (l : Lane) (frame : EthFacts) : State → Host.Outcome State Fault Refusal :=
  lift fun d => guard (ethUp d l) (ethFrameRx l frame) d
/-- Words at the head of a receive queue. -/
def rxHead (d : Dev) (q : Nat) : List RxWord := (rxStore (rxQueue d q)).all
def isDescriptor (g : Group) (w : RxWord) : Bool := match w.value with | some v => descriptorOk g.maxFrame v | none => false
/-- A descriptor that is a fill word, or that fails MARK or DCHK (R254). -/
def badDescriptor (w : RxWord) : Bool := match w.value with | some v => !descriptorMarked v | none => true
/-- Hunting: words are discarded up to the next descriptor (R254). -/
def huntWords (f q : Nat) (d : Dev) : Dev :=
  let n := ((rxHead d q).takeWhile (fun w => !isDescriptor (group d f) w)).length
  let t := takeRx q n d
  let d1 := laneCount f 8 n t.2
  setRxQueue q { rxQueue d1 q with hunting := (rxHead d1 q).isEmpty } d1
/-- A frame with its FCS inverted. -/
def invertFcs (bs : List Byte) : List Byte := bs.take (bs.length - 4) ++ (bs.drop (bs.length - 4)).map (~~~ ·)
/-- A frame goes onto the line of a port; the next one may follow after its time there and a gap of 12 bytes (R253). -/
def sendOnLine (f : Nat) (wire : List Byte) (d : Dev) : Dev :=
  let g := group d f
  setOutput f (.frame wire) (setGroup f { g with gapUntil := elapsedNs d + ceilDiv (8 * (wire.length + 12)) (200 * 2 ^ g.speed) } d)
/-- Send the frame at the head if its whole unit is there; FCS inverted for FCS_ERR or fill. -/
def sendFrameOut (f q : Nat) (d : Dev) : Dev :=
  match rxHead d q with
  | w :: _ =>
    let v := w.value.getD 0
    let n := 1 + ceilDiv (dLength v) 8
    if (rxHead d q).length < n then d
    else
      let t := takeRx q n d
      let r := fillFree t.1.tail t.2
      let bad := dErr v || t.1.any (fun w => w.value.isNone)
      let bs := (r.1.flatMap (fun w => le 8 w.toNat)).take (dLength v)
      laneTally f 6 1 (sendOnLine f (wireOf (if bad then invertFcs bs else bs)) r.2)
  | [] => d
def outputOf (d : Dev) (f : Nat) : ClientOut := tabGet (fun _ => .idle) d.clients.lastOut f
/-- ETH_FRAME_TX. Under AIS or CSF fill the egress sends continuous Local Fault ordered sets in place of frames, and hunts when that ends (R254,
R255). -/
def ethFrameTx (q : Nat) (d : Dev) : Dev :=
  match groupOf d q with
  | some f =>
    if !ethUp d f || toLine d q then d
    else if egressFill d q ≠ 0 then setOutput f .localFault (setRxQueue q { rxQueue d q with hunting := true } d)
    else
      let d0 := if outputOf d f = .localFault then setOutput f .idle d else d
      if nowNs d < (rxQueue d q).haltUntil || decide (elapsedNs d < (group d f).gapUntil) then d0
      else
        let bad := match rxHead d q with | w :: _ => badDescriptor w | [] => false
        sendFrameOut f q (if (rxQueue d q).hunting || bad then huntWords f q d0 else d0)
  | none => d
def execEthFrameTx (q : Queue) : State → Host.Outcome State Fault Refusal := lift (ethFrameTx q)
/-- PCS_ALIGNMENT: alignment, block lock and high-BER of a port decide whether it is up; received Local Fault is noted (R251, R255). -/
def pcsAlignment (f : Nat) (aligned fault : Bool) (d : Dev) : Dev :=
  let g := group d f
  let d1 := setGroup f { group (seeGroup f d) f with localFault := fault } (seeGroup f d)
  if aligned && !g.up && (lanesOf d f).all (fun l => (laneOf d l).loop == 0) then
    laneCause f 7 (huntGroup f (mapLanes (lanesOf d f) (fun x => { x with state := .up, aligned := true }) (setGroup f { group d1 f with up := true } d1)))
  else if !aligned && g.up then
    laneClocks (lanesOf d f) (mapLanes (lanesOf d f) (alignLane (g.rateCap + 1)) (groupDown f d1))
  else d1
/-- The port with first lane `l`. -/
def execPcsAlignment (l : Lane) (aligned localFault : Bool) : State → Host.Outcome State Fault Refusal :=
  lift fun d => guard ((group d l).protocol == 1 && (group d l).enable && laneRuns d l) (pcsAlignment l aligned localFault) d

/-! ## Commands (R274 to R278) -/

def groupCfg (b : List Byte) : Group :=
  { width := u8 b 2, protocol := u8 b 3, speed := u8 b 4, rateCap := u8 b 5, enable := flag b 6 0, eyeMin := u8 b 7, first := u16 b 8
    count := u16 b 10, maxFrame := u16 b 12, eyeWarn := u8 b 14 }
def widthOk (f w : Nat) : Bool := [1, 2, 4, 8, 16, 32, 64].contains w && f % w == 0 && f / 64 == (f + w - 1) / 64
/-- The combinations of R249. -/
def protocolOk (g : Group) : Bool :=
  g.protocol == 2 || [(0, 0, 2), (1, 0, 4), (2, 0, 8), (0, 1, 1), (1, 1, 2), (2, 1, 4), (3, 1, 8)].contains (g.speed, g.rateCap, g.width)
def meets (a n b m : Nat) : Bool := decide (a < b + m) && decide (b < a + n)
def otherGroups (d : Dev) (f : Nat) : List Nat := (List.range 128).filter (fun o => o != f && (group d o).protocol != 0)
/-- DEDUCED: a removal needs only its port or link and ENABLE clear; R274 states no status for its reasons, so they answer BAD_ARG. -/
def cliPortConfigService : Service where
  opcode := 0x0501
  targets _ b := laneBlock (u16 b 0)
  checks d b :=
    let f := u16 b 0
    let g := groupCfg b
    let remove := g.protocol == 0
    [(!(within 0 127 f && within 0 2 g.protocol && (remove || (within 0 2 g.rateCap && (g.protocol == 2 || (within 0 3 g.speed && within 64 16383 g.maxFrame))
        && within 1 4096 g.count && within 0 4096 (g.first + g.count) && (g.protocol == 2 || g.count == 1)))), outOfRange),
     (!remove && !widthOk f g.width, badArg 26),
     (((group d f).enable && g.enable) || (!remove && (otherGroups d f).any (fun o => meets f g.width o (group d o).width)), badArg 27),
     (!remove && !protocolOk g, badArg 28),
     (!remove && (otherGroups d f).any (fun o => meets g.first g.count (group d o).first (group d o).count), badArg 29)]
  run _ b d :=
    let f := u16 b 0
    let g := groupCfg b
    let d1 := seeGroup f (if (group d f).protocol = 0 then d else stopGroup f d)
    let d2 := setGroup f (if g.protocol = 0 then {} else g) d1
    okay (if g.protocol ≠ 0 ∧ g.enable then startGroup f d2 else d2)
def execCliPortConfig (mb : Mailbox) : State → Host.Outcome State Fault Refusal := lift (serve cliPortConfigService mb)

def ffeOf (b : List Byte) : List Int := (List.range 4).map (fun i => signed 8 (u8 b (4 + i)))
def ffeOk (t : List Int) : Bool :=
  withinI (-16) 16 (nth t 0 0) && withinI (-16) 16 (nth t 1 0) && withinI 32 63 (nth t 2 0) && withinI (-16) 16 (nth t 3 0)
    && decide ((t.map mag).sum ≤ 63)
/-- A lane of an enabled SLP link sends blocks, with commas among them, unless it is far-end looped. -/
def slpSends (d : Dev) (l : Nat) : Bool :=
  match groupAt d l with
  | some f => (group d f).protocol == 2 && (group d f).enable && laneRuns d l
  | none => false
/-- A new FFE waits for the lane's next comma (R271). DEDUCED: a lane that sends no commas takes it at once; RETRAIN and CLEAR_EXCLUSIONS act on an SLP link only, and on a disabled one they change nothing but exclusions. -/
def laneConfigRun (b : List Byte) (d : Dev) : Dev :=
  let l := u16 b 0
  let x := laneOf d l
  let y := { x with adaptMode := u8 b 2, txInvert := flag b 3 2, rxInvert := flag b 3 3, ffe := ffeOf b }
  let z := if slpSends d l then y else { y with ffeNow := ffeOf b }
  let d1 := setLane l (if flag b 3 1 then { z with excl212 := false, excl450 := false } else z) d
  match groupAt d l with
  | some f => if flag b 3 0 ∧ (group d f).protocol = 2 ∧ (group d f).enable then retrain f d1 else d1
  | none => d1
def cliLaneConfigService : Service where
  opcode := 0x0502
  targets _ b := laneBlock (u16 b 0)
  checks _ b := [(!(within 0 127 (u16 b 0) && within 0 1 (u8 b 2) && ffeOk (ffeOf b)), outOfRange)]
  run _ b d := okay (laneConfigRun b d)
def execCliLaneConfig (mb : Mailbox) : State → Host.Outcome State Fault Refusal := lift (serve cliLaneConfigService mb)

def LaneState.code : LaneState → Nat
  | .off => 0 | .trainLow => 1 | .settle => 2 | .change => 3 | .adapt => 4 | .ready => 5 | .up => 6 | .failed => 7 | .loop => 8 | .linkDown => 9
def laneGroupState (d : Dev) (l : Nat) : Nat :=
  match groupAt d l with
  | none => 0
  | some f => if (lanesOf d f).any (fun i => (laneOf d i).loop != 0) then 3 else if (group d f).up then 2 else 1
def laneStatusBody (l : Nat) (d : Dev) : List Byte :=
  let x := laneOf d l
  let version := match groupAt d l with | some f => (group d f).version | none => 0
  [0] ++ le 1 (if clientDown d l then 9 else x.state.code) ++ le 1 x.rate ++ le 1 version ++ le 1 x.eye ++ le 1 x.eyeLow
    ++ le 1 (b2n x.commaLock + 2 * b2n (decide (0 < x.valid)) + 4 * b2n x.excl212 + 8 * b2n x.excl450 + 16 * b2n x.order + 32 * b2n x.skew)
    ++ le 1 (x.partnerRates + 8 * x.partnerVersions) ++ le 1 (laneGroupState d l) ++ zeros 3 ++ le 4 (causeOf d (.lane l)).toNat
    ++ (List.range 9).flatMap (fun i => le 8 (countOf d (keyLane l i)))
/-- EYE_LOW starts again from the present score (DESIGN CHOICE). -/
def cliLaneStatusService : Service where
  opcode := 0x0503
  targets _ b := laneBlock (u16 b 0)
  freeze := .never
  checks _ b := [(!within 0 127 (u16 b 0), outOfRange)]
  run _ b d :=
    let l := u16 b 0
    done (laneStatusBody l d) (clearCause (.lane l) (flag b 2 0) (setLane l { laneOf d l with eyeLow := (laneOf d l).eye } d))
def execCliLaneStatus (mb : Mailbox) : State → Host.Outcome State Fault Refusal := lift (serve cliLaneStatusService mb)

/-- Entering a loop takes the group down; leaving it sends the group to training or alignment (R272, R278). -/
def laneTestRun (b : List Byte) (d : Dev) : Dev :=
  let l := u16 b 0
  let x := laneOf d l
  let loop := u8 b 2
  let y := { x with pattern := u8 b 3, loop := loop }
  if loop = x.loop then setLane l y d
  else
    let f := groupAt d l
    let on := match f with | some f => (group d f).enable | none => false
    let z := if loop ≠ 0 then { y with state := .loop } else { y with state := .off, rate := 0 }
    let d1 := setLane l z (match f with | some f => groupDown f d | none => d)
    match f with
    | some f => if on then rejoinGroup f d1 else d1
    | none => d1
def cliLaneTestService : Service where
  opcode := 0x0504
  targets _ b := laneBlock (u16 b 0)
  checks _ b := [(!(within 0 127 (u16 b 0) && within 0 3 (u8 b 2)), outOfRange)]
  run _ b d := okay (laneTestRun b d)
def execCliLaneTest (mb : Mailbox) : State → Host.Outcome State Fault Refusal := lift (serve cliLaneTestService mb)

def recclkOf (b : List Byte) : List Nat := (List.range 8).map (fun i => u16 b (2 * i))
/-- A changed entry is a change of source (R397). -/
def recclkRun (b : List Byte) (d : Dev) : Dev :=
  let old := d.clients.recclk
  let d1 := { d with clients := { d.clients with recclk := recclkOf b } }
  (List.range 8).foldl (fun d i =>
    let l := nth (recclkOf b) i 0xFFFF
    if nth old i 0xFFFF = l ∨ (refOf d (20 + i)).q = .disabled then d else sourceChanged (20 + i) ((laneOf d l).state == .up) d) d1
def cliRecclkService : Service where
  opcode := 0x0505
  targets _ b := (recclkOf b).filterMap (fun l => if l ≤ 127 then some (0x20 + l / 64) else none)
  checks _ b := [(!(recclkOf b).all (fun l => within 0 127 l || l == 0xFFFF), outOfRange)]
  run _ b d := okay (recclkRun b d)
def execCliRecclk (mb : Mailbox) : State → Host.Outcome State Fault Refusal := lift (serve cliRecclkService mb)

end Sys2Proof.Machine
end

