-- ==== Sys2Proof/Machine/Lanes.lean ====
section
/-! DEFINITION. What the client lanes send and receive, block by block: training frames, the codewords of cells, PRBS, loops (R256 to R259, R266,
R267, R271 to R273). -/

namespace Sys2Proof.Machine

/-- The training word that lane l of a link sends (R267, R268). DESIGN CHOICE: a lane in FAILED or LOOP sends STEP 0. -/
def ownWord (d : Dev) (f l : Nat) : QWord :=
  let g := group d f
  let x := laneOf d l
  let step := match x.state with | .change | .adapt => 1 | .ready => 2 | _ => 0
  let rates := ((List.range 3).map (fun r => b2n (offers g x r) * 2 ^ r)).sum
  let v := 0x3C + 2 ^ 8 * step + 2 ^ 10 * rates + 2 ^ 13 * g.rateSel + 2 ^ 16 * 6 + 2 ^ 20 * g.version + 2 ^ 24 * (l - f)
  BitVec.ofNat 64 (v + 2 ^ 56 * (crc8 (le 7 v)).toNat)
/-- The link sends filler cells until lane l has two codewords' worth of bytes. `fuel` bounds the cells. -/
def fillLane (f l : Nat) : Nat → Dev → Dev
  | 0, d => d
  | n + 1, d => if (laneOf d l).cellBytes.length < 1285 then fillLane f l n (fillerCell f d) else d
/-- Two codewords are formed from the lane's cell stream. -/
def formCodewords (f l : Nat) (d : Dev) : Dev :=
  let d1 := fillLane f l (5 * (group d f).width) d
  let x := laneOf d1 l
  setLane l { x with payloads := codewordPayloads (x.cellBytes.take 1285), cellBytes := x.cellBytes.drop 1285 } d1
/-- The next block of an SLP lane: a comma each 64 blocks of training or 4,081 of operation; TRAIN blocks of one word; data blocks. With the comma a new
FFE and a new rate take effect, the word of the frame is set, and data begins on a link that has become up (R267, R268, R271). -/
def slpBlock (f l : Nat) (d : Dev) : List Bool × Dev :=
  let x := laneOf d l
  let next := (x.blockNo + 1) % (if x.dataOn then 4081 else 64)
  if x.blockNo = 0 then
    (commaBits, setLane l { x with
      blockNo := 1, ffeNow := x.ffe, rate := if x.rateNext = 0 then x.rate else x.rateNext, rateNext := 0, dataOn := x.state == .up
      word := ownWord d f l } d)
  else if x.dataOn then
    let d1 := if x.payloads.isEmpty then formCodewords f l d else d
    let y := laneOf d1 l
    (chooseBlock y.lastBit y.lastRun (bitsFrom (y.payloads.headD 0) 0 128), setLane l { y with blockNo := next, payloads := y.payloads.tail } d1)
  else (trainBits x.word, setLane l { x with blockNo := next } d)
/-- The 132 bits that a lane transmits: PRBS-31 in place of its blocks where the generator is on; an Ethernet lane's are those of the IEEE 802.3
sublayers, which the manual leaves to that standard. -/
def laneTx (k l : Nat) (d : Dev) : List Bool × Dev :=
  let r := match groupAt d l with
    | some f => if slpSends d l then slpBlock f l d else (bitsFrom (Config.ethernetBits k l) 0 132, d)
    | none => (List.replicate 132 false, d)
  let x := laneOf r.2 l
  if x.pattern.testBit 0 then let p := prbs31 132 x.generator; (p.1, setLane l { x with generator := p.2 } r.2) else r
/-- One block time of a lane: what it transmits, what comes back in a loop, the checker (R272, R273). Near-end loops leave the transmit pins as they
are and ignore the receive pins; the far-end loop sends the received bits on. A data block received has its mask removed (R257). -/
def laneCycle (k : Nat) (d : Dev) (l : Nat) : Dev :=
  let r := laneTx k l d
  let x := laneOf r.2 l
  let fromPins := bitsFrom (uninvert x.rxInvert (Config.laneReceives k l)) 0 132
  let received := if x.loop = 1 || x.loop = 2 then r.1 else fromPins
  let sent := if x.loop = 3 then received else r.1
  let runs := runsOf x.lastBit x.lastRun sent
  let c : Checker := if x.pattern.testBit 1 then received.foldl checkPrbs { state := x.checker, run := x.checkRun }
    else { state := x.checker, run := 0 }
  let block : LaneBlock := boolsToBits 132 received
  let y := { x with received := if blockHeader block = 0 then none else some (boolsToBits 128 (unmask block)), pins := invertPam4 x.txInvert (pam4 sent), lastBit := runs.bit, lastRun := runs.len, checker := c.state, checkRun := c.run }
  laneCount l 7 c.errors (setLane l y r.2)
/-- A lane transmits or checks. -/
def laneActive (d : Dev) (l : Nat) : Bool :=
  laneRuns d l && ((match groupAt d l with | some f => (group d f).enable | none => false) || (laneOf d l).loop != 0 || (laneOf d l).pattern != 0)
/-- One block time of all lanes; one free draw stands for what they receive. -/
def lanesCycle (d : Dev) : Dev :=
  let ls := (List.range 128).filter (laneActive d)
  if ls.isEmpty then d else ls.foldl (laneCycle d.free) { d with free := d.free + 1 }

end Sys2Proof.Machine
end

