-- ==== Sys2Proof/Machine/Samples.lean ====
section
/-! DEFINITION. The transmit chain of R54 on a cycle's samples, and what the converters' samples and the modulators' drift bring in one cycle of CK_TIME: clipped samples, full-scale samples, the
bias loops and the receive gain that follow (R54, R58, R59, R69, R70, R84, R115). -/

namespace Sys2Proof.Machine

/-- Step 11: a sample clipped to −LAUNCH_CAP to +LAUNCH_CAP (R59). -/
def clipSample (cap : Nat) (s : Int) : Int := max (-(cap : Int)) (min (cap : Int) s)
/-- Samples of an engine's four converters in a cycle of CK_TIME at 512 GS/s. -/
def samplesPerCycle : Nat := 2048
/-- Whether the samples of DAC stream `i`, in R54's order of streams XI, XQ, YI, YQ, number `k` of the cycle belong to it. -/
def streamOfSample (k : Nat) : Nat := k / 512
/-- Step 4: the sum of what the engine's lit coaches add in RUNNING. In CARRIER_ONLY CARRIER_LEVEL on XI and YI and zero on XQ and YQ (R73). -/
def summed (d : Dev) (k n : Nat) : List Int :=
  let e := engTx d n
  if e.state = .carrierOnly then (List.range samplesPerCycle).map (fun i => if streamOfSample i % 2 = 0 then (e.carrier : Int) else 0)
  else
    let cs := (coachesOf n).filter (fun c => decide (0 < (coachTx d c).cfg.slots))
    (List.range samplesPerCycle).map (fun i => (cs.map (fun c => (Config.coachSample k c (coachTx d c).cfg.power i).toInt)).sum)
/-- The settings of the steps 5 to 9 of R54 on engine n. -/
def stepSettings (d : Dev) (n : Nat) : Nat → List Int
  | 5 => [(engTx d n).cd, (engTx d n).nl]
  | 6 => let h := hitchOf d (n / 2); if h.txEnable then [h.spacing, h.spans, h.strength, h.dispersion] else []
  | 7 => [(engTx d n).freq]
  | 8 => (List.range 4).flatMap (fun i => (dacOf d (4 * n + i)).skew :: coefficients n i (dacOf d (4 * n + i)))
  | _ => [(engTx d n).peak]
/-- A step on the samples. -/
def txStep (d : Dev) (k n step : Nat) (xs : List Int) : List Int :=
  (List.range samplesPerCycle).map (fun i => (Config.stepSample k n step (stepSettings d n step) xs i).toInt)
/-- Steps 4 to 9 without the hold at PEAK_TARGET. The constant code of CARRIER_ONLY stands as it is: of the steps 5 to 9 only 9 applies to it, and
(DESIGN CHOICE) only as the hold. -/
def gained (d : Dev) (k n : Nat) : List Int :=
  if (engTx d n).state = .carrierOnly then summed d k n else [5, 6, 7, 8, 9].foldl (fun xs s => txStep d k n s xs) (summed d k n)
/-- Step 9 of one DAC: of 1 µs, 512,000 samples, no more than 51 exceed PEAK_TARGET (R58); `m` have. -/
def holdPeak (peak m : Nat) : List Int → List Int × Nat
  | [] => ([], m)
  | x :: t =>
    if decide (peak < mag x) && decide (m < 51) then let r := holdPeak peak (m + 1) t; (x :: r.1, r.2)
    else let r := holdPeak peak m t; (clipSample peak x :: r.1, r.2)
/-- How many samples of a DAC have exceeded PEAK_TARGET in the present microsecond. -/
def peaksOf (d : Dev) (i : Nat) : Nat :=
  let x := tabGet (fun _ => (0, 0)) d.tx.peaks i
  if x.1 = elapsedNs d / 1000 then x.2 else 0
/-- Stream i after step 9, and its count. -/
def heldStream (d : Dev) (k n i : Nat) : List Int × Nat :=
  holdPeak (engTx d n).peak (peaksOf d (4 * n + i)) (((gained d k n).drop (512 * i)).take 512)
/-- Step 10: one common factor on all four streams, within the configured dither depth of the unmodulated level (R58, R367). -/
def dithered (d : Dev) (k n : Nat) (x : Int) : Int :=
  let e := ixtasEngine d n
  let depth := if e.tx then e.depth * e.tones else 0
  let f := (Config.dither k n).toNat % (2 * depth + 1)
  x * (1000 + f - depth) / 1000
/-- The samples of engine n in the cycle of draw `k` as they come to step 11, and as they leave it. -/
def dacCodes (d : Dev) (k n : Nat) : List Int := [0, 1, 2, 3].flatMap (fun i => (heldStream d k n i).1.map (dithered d k n))
def launched (d : Dev) (k n : Nat) : List Int := (dacCodes d k n).map (clipSample (launchCap d n))
/-- Samples that step 11 clips. -/
def clipped (d : Dev) (k n : Nat) : Nat := ((dacCodes d k n).filter (fun s => clipSample (launchCap d n) s != s)).length
/-- The gain loop's counts after the cycle. -/
def notePeaks (k n : Nat) (d : Dev) : Dev :=
  { d with tx := { d.tx with peaks := [0, 1, 2, 3].foldl (fun t i => tabPut (fun _ => (0, 0)) t (4 * n + i) (elapsedNs d / 1000, (heldStream d k n i).2)) d.tx.peaks } }
/-- ADC samples at full scale: the two end codes of 8 bits. -/
def fullScale (k n : Nat) : Nat :=
  ((List.range samplesPerCycle).filter (fun i => Config.adcSample k n i == 0x80#8 || Config.adcSample k n i == 0x7F#8)).length
/-- DEDUCED: the chain of R54 runs in every state in which the engine emits light, so clips count while its gate is open. -/
def dacRuns (d : Dev) (n : Nat) : Bool := (engTx d n).gateOpen && !engineOff d n
def adcRuns (d : Dev) (n : Nat) : Bool := (engRx d n).enable && !engineOff d n
/-- Count one cycle's samples of an engine. -/
def countSamples (k : Nat) (d : Dev) (n : Nat) : Dev :=
  let d1 := if dacRuns d n then bump (keyEngine n 0) (clipped d k n) (notePeaks k n d) else d
  if adcRuns d n then bump (keyEngine n 1) (fullScale k n) d1 else d1
/-- The loops of an engine follow their lock points. -/
def driftEngine (k : Nat) (d : Dev) (n : Nat) : Dev :=
  (biasOutputs n).foldl (fun d b => followDrift b (Config.drift k b).toNat d) d
/-- An output of the engine is under its loop. -/
def loopsOn (d : Dev) (n : Nat) : Bool :=
  (biasOutputs n).any (fun b => ((biasOf d b).state == .locking || (biasOf d b).state == .locked) && loopsRun d b)
/-- One cycle of CK_TIME at the converters: one free draw stands for all that the signals bring. -/
def sampleCycle (d : Dev) : Dev :=
  let ns := (List.range 16).filter (fun n => dacRuns d n || adcRuns d n || loopsOn d n)
  if ns.isEmpty then d
  else ns.foldl (fun e n => gainFollows d.free (driftEngine d.free (countSamples d.free e n) n) n) { d with free := d.free + 1 }

end Sys2Proof.Machine
end

