-- ==== Sys2Proof/Machine/Devtime.lean ====
section
/-! DEFINITION. DEVTIME as it passes: what is due at a tick, steps and slews, PPSIN, and one idle cycle (R23 to R26, R206 to R208, R411 to
R413, R487). -/

namespace Sys2Proof.Machine

/-! ## Actions due at a tick (R24, R487)

DESIGN CHOICE: the local copies of DEVTIME in the clock domains equal the source; an action scheduled for T takes place at the tick T, by the
row of its own where that comes first, else as the tick ends. -/

/-- The merged triggers' snapshot tick has come. -/
def triggerDue (d : Dev) : Bool := match d.meas.snapAt with | some t => decide (t ≤ nowNs d) | none => false
/-- The periodic timer's tick, and the time T of a snapshot taken now: the timer's, or the triggers'. -/
def periodTick (d : Dev) : Nat := nowMs d / d.meas.snapPeriod * d.meas.snapPeriod * 1000000
def snapTime (d : Dev) : Nat := if periodDue d then periodTick d else d.meas.snapAt.getD (nowNs d)
/-- The timer's tick has been taken. -/
def takePeriod (d : Dev) : Dev := { d with meas := { d.meas with periodsTaken := nowMs d / d.meas.snapPeriod } }
/-- The snapshot tick: every trigger seen merges, the timer's too if it is due (R487). While the last snapshot is not published or CK_HUB stands
still the timer's tick is a dropped trigger. -/
def takeSnapshot (d : Dev) : Dev :=
  let d1 := applyFreeze d
  let d2 := if periodDue d1 then takePeriod d1 else d1
  if d1.meas.captured.isSome || asleep d1 then (if periodDue d1 then dropTrigger d2 else d2)
  else capture (snapTime d1) (d1.meas.triggers ||| (if periodDue d1 then 4 else 0)) d2
/-- SNAPSHOT_TICK, of the timer with `periodic`, else of the triggers: it acts where it is due. -/
def snapshotTick (periodic : Bool) (d : Dev) : Dev :=
  if periodic then (if periodDue d then takeSnapshot d else d)
  else if triggerDue d && d.meas.captured.isNone && !asleep d then takeSnapshot d else d
def execSnapshotTick (periodic : Bool) : State → Host.Outcome State Fault Refusal := lift (snapshotTick periodic)
/-- Everything due at this tick that has not taken place. -/
def dueNow (d : Dev) : Dev := (fun d => if asleep d then d else dueSwaps d) <| rollTick (snapshotTick false (snapshotTick true (applyFreeze d)))

/-! ## Steps and slews (R25, R412) -/

/-- A step or set of DEVTIME to a new value in 2⁻⁴⁸ ns: what was scheduled for a time that it passes takes place at its tick, which also takes one
sample of every defect (R25, R195); a second boundary passed ends one second, the bins follow (R208). -/
def setDevtime (f : Nat) (d : Dev) : Dev :=
  let d1 := snapshotTick false (snapshotTick true (applyFreeze { d with clock := { d.clock with frac := f, valid := true } }))
  rolled (binsStep (nowNs d) (secondTick (if asleep d1 then d1 else takeSample d1)))
/-- Apply an adjustment (R412): slew, step or set. A new slew replaces any slew in progress. -/
def adjust (mode : Nat) (value : Int) (rate : Nat) (d : Dev) : Dev :=
  if mode = 0 then { d with clock := { d.clock with slew := value * unitsPerNs, slewRate := rate } }
  else if mode = 1 then setDevtime (d.clock.frac + value.toNat * unitsPerNs) d
  else setDevtime (value.toNat * unitsPerNs) d
/-- A set to a value not above DEVTIME. -/
def backward (mode : Nat) (value : Int) (d : Dev) : Bool := mode == 2 && decide (value * unitsPerNs ≤ (d.clock.frac : Int))

/-! ## PPSIN (R412, R413) -/

/-- Signed distance of DEVTIME from the nearest second, ns (R413). -/
def ppsDistance (now : Nat) : Int :=
  let m := now % 1000000000
  if m < 500000000 then (m : Int) else (m : Int) - 1000000000
/-- Serve the adjustments waiting for an edge, in the order they were taken. -/
def servePps (ws : List PpsAdjust) (d : Dev) : Dev :=
  ws.foldl (fun d a =>
    if backward a.mode a.value d then post a.mailbox { status := .badArg, body := [49, 0, 0, 0] } d
    else post a.mailbox { body := zeros 4 } (adjust a.mode a.value a.rate d)) { d with time := { d.time with waiting := [] } }
/-- Two edges 1 s ± 1 µs apart on the plain count. -/
def edgesFit (last : Option Nat) (now : Nat) : Bool :=
  match last with
  | none => false
  | some l => within 999999000 1000001000 ((now - l) / unitsPerNs)
/-- A PPSIN edge serves AT_PPS and, with PPS_ENABLE, is timestamped (R412, R413). -/
def ppsEdge (d : Dev) : Dev :=
  let d1 := servePps d.time.waiting d
  if d1.timeCfg.ppsEnable then
    { d1 with time := { d1.time with ppsOffset := ppsDistance (nowNs d1), lastEdge := some d1.clock.plain
                                     ppsValid := d1.time.ppsValid || edgesFit d1.time.lastEdge d1.clock.plain } }
  else d1
def execPpsinEdge : State → Host.Outcome State Fault Refusal := lift fun d => guard (timeRuns d) ppsEdge d
def execPpsLost : State → Host.Outcome State Fault Refusal :=
  lift fun d => guard (timeRuns d && d.timeCfg.ppsEnable && d.time.ppsValid && decide (d.time.lastEdge.getD d.time.ppsFrom + 2500000000 * unitsPerNs ≤ d.clock.plain))
    (fun d => raiseCause .timing 6 { d with time := { d.time with ppsValid := false } }) d
/-- No edge within 2 s: the oldest waiting adjustment ends with TIMEOUT and no effect (R412). -/
def ppsTimeout (d : Dev) : Dev :=
  match d.time.waiting with
  | [] => d
  | a :: t =>
    if a.since + 2000000000 ≤ elapsedNs d then
      post a.mailbox { status := .timeout, body := zeros 4 } { d with time := { d.time with waiting := t } }
    else d
def execAtPpsTimeout : State → Host.Outcome State Fault Refusal := lift fun d => guard (timeRuns d) ppsTimeout d

/-! ## TIME_ADJUST (R412, R416) -/

def timeAdjustService : Service where
  opcode := 0x0905
  targets _ _ := [4]
  freeze := .never
  checks d b :=
    [(!(within 0 2 (u8 b 0) && within 1 100000 (u32 b 12)), outOfRange),
     (u8 b 0 == 0 && decide (1000000000 < mag (s64 b 4)), outOfRange),
     (u8 b 0 == 1 && decide (s64 b 4 ≤ 0), badArg 49),
     (!flag b 1 0 && backward (u8 b 0) (s64 b 4) d, badArg 49)]
  run mb b d :=
    if flag b 1 0 then
      ({ d with time := { d.time with waiting := d.time.waiting ++ [{ mailbox := mb, mode := u8 b 0, value := s64 b 4, rate := u32 b 12, since := elapsedNs d }] } }, none)
    else okay (adjust (u8 b 0) (s64 b 4) (u32 b 12) d)
def execTimeAdjust (mb : Mailbox) : State → Host.Outcome State Fault Refusal := lift (serve timeAdjustService mb)

/-! ## An idle cycle -/

/-- DESIGN CHOICE: with no command waiting, one cycle of CK_TIME passes. What is due at the present tick and has not taken place does so, the converters
take one cycle's samples, the lanes and the cipher job engine move by one block, firmware announces what has changed (R383), the fill engine may finish a GiB (R423), DEVTIME advances by its increment (R23, R411), and a stop or resumption of counting whose tick has come takes effect (R486); everything else that time
brings is an event of its own. -/
def idle (d : Dev) : Dev := applyFreeze (tickClock (fillCycle (urgentCycle (announceChanges (jobCycle (lanesCycle (sampleCycle (dueNow d))))))))

end Sys2Proof.Machine
end

