-- ==== Sys2Proof/Machine/IxtasReceive.lean ====
section
/-! DEFINITION. Receiving on the Ixtas channel: the search, packets, reassembly, the messages of firmware (R371, R373, R374, R378 to
R386). -/

namespace Sys2Proof.Machine

/-! ## The search (R379, R380) -/

def branchNo (n : Nat) (b : Branch) : Nat := 64 * n + 4 * b.tone.val + b.cls.val
def branchOf (d : Dev) (i : Nat) : BranchState := tabGet (fun _ => {}) d.ixtas.branches i
def setBranch (i : Nat) (x : BranchState) (d : Dev) : Dev :=
  { d with ixtas := { d.ixtas with branches := tabPut (fun _ => {}) d.ixtas.branches i x } }
/-- The engine's Ixtas receiver runs. -/
def ixtasHears (d : Dev) (n : Nat) : Bool := (ixtasEngine d n).rx && !engineOff d n
/-- A preamble detection; DEDUCED: one on a branch whose primary still holds a preamble has no effect. -/
def preDetect (n i corr : Nat) (d : Dev) : Dev :=
  let x := branchOf d i
  let found (y : BranchState) : Dev := ixtasTally n 0 (ixtasCount n 0 1 (setBranch i y d))
  match x.primary, x.challenger with
  | .idle, _ => found { x with primary := .preamble corr }
  | .reception _, .idle => found { x with challenger := .preamble corr }
  | .reception _, .preamble old =>
    if old < corr then ixtasCount n 2 1 (setBranch i { x with challenger := .preamble corr } d) else d
  | .reception _, .reception _ => d
  | .preamble _, _ => d
/-- The AGC is frozen: it serves the engine, and some context is taken (R378). -/
def agcFrozen (d : Dev) (n : Nat) : Bool := (ixtasEngine d n).agc && d.ixtas.branches.any (fun e => e.1 / 64 == n)
/-- The first detection on any branch freezes the AGC at the gain it has settled at, a free value in range (DESIGN CHOICE). -/
def freezeGain (n : Nat) (d : Dev) : Dev :=
  if (ixtasEngine d n).agc && !agcFrozen d n then
    let (v, d1) := drawFree d
    setIxtasEngine n { ixtasEngine d1 n with agcGain := v.toNat % 61 } d1
  else d
def execPreDetect (n : Engine) (b : Branch) (corr : Byte) : State → Host.Outcome State Fault Refusal :=
  lift fun d => guard (ixtasHears d n && decide ((ixtasEngine d n).threshold ≤ corr.toNat)) (fun d => preDetect n (branchNo n b) corr.toNat (freezeGain n d)) d
/-- The primary ends: a challenger that holds a preamble becomes the primary. -/
def endPrimary (i : Nat) (d : Dev) : Dev := setBranch i { primary := (branchOf d i).challenger } d
/-- A sync window passes without a match. -/
def preExpired (n i : Nat) (challenger : Bool) (d : Dev) : Dev :=
  let x := branchOf d i
  let gone (y : BranchState) : Dev := ixtasTally n 1 (ixtasCount n 1 1 (setBranch i y d))
  match (if challenger then x.challenger else x.primary) with
  | .preamble _ => gone (if challenger then { x with challenger := .idle } else { x with primary := .idle })
  | .idle | .reception _ => d
def execPreExpired (n : Engine) (b : Branch) (challenger : Bool) : State → Host.Outcome State Fault Refusal :=
  lift fun d => guard (ixtasHears d n) (preExpired n (branchNo n b) challenger) d
/-- A sync match of the primary starts its reception; one of the challenger displaces the primary or ends the challenger, by
QUALITY. -/
def syncMatch (n i : Nat) (challenger : Bool) (q : Nat) (d : Dev) : Dev :=
  let x := branchOf d i
  let matched (y : BranchState) : Dev := ixtasTally n 2 (ixtasCount n 3 1 (setBranch i y d))
  let displaced (y : BranchState) : Dev := ixtasTally n 5 (ixtasCount n 6 1 (matched y))
  match challenger, x.primary, x.challenger with
  | false, .preamble _, _ => matched { x with primary := .reception q }
  | true, .reception p, .preamble _ => displaced { primary := if p < q then .reception q else .reception p }
  | _, _, _ => d
def execSyncMatch (n : Engine) (b : Branch) (challenger : Bool) (word : Word) (quality : Byte) :
    State → Host.Outcome State Fault Refusal :=
  lift fun d => guard (ixtasHears d n && decide (bitErrors word (ixtasEngine d n).sync ≤ (ixtasEngine d n).tol))
    (syncMatch n (branchNo n b) challenger quality.toNat) d
/-- The header's own checks: VERSION 2 or 3, reserved bits zero, LENGTH at most 240. -/
def ixtasHeaderFits (h : List Byte) : Bool := (u8 h 0 % 16 == 2 || u8 h 0 % 16 == 3) && decide (u8 h 0 < 64) && decide (u8 h 6 ≤ 240)
def receiving (d : Dev) (i : Nat) : Bool := match (branchOf d i).primary with | .reception _ => true | _ => false
def hdrReject (n i : Nat) (d : Dev) : Dev := ixtasTally n 3 (ixtasCount n 4 1 (endPrimary i d))
/-- HDR_REJECT: the eight header bytes, first byte in the most significant place, fail their checks. -/
def execHdrReject (n : Engine) (b : Branch) (header : BitVec 64) : State → Host.Outcome State Fault Refusal :=
  lift fun d => guard (ixtasHears d n && receiving d (branchNo n b) && !ixtasHeaderFits (be 8 header.toNat)) (hdrReject n (branchNo n b)) d

/-! ## Packets and messages (R371, R373, R374, R382, R386) -/

/-- The packet types (R382). -/
def kindKnown (k : Nat) : Bool := within 1 4 k || within 0x10 0x13 k || k == 0x20
def packetSource (p : List Byte) : Nat := beNat (part p 1 2)
def packetDest (p : List Byte) : Nat := beNat (part p 3 2)
/-- The packet is for this device (R371). -/
def forUs (d : Dev) (n : Nat) (p : List Byte) : Bool :=
  let t := packetDest p
  t == 0xFFFF || (t % 256 / 16 == n && (t / 256 == 0 || t / 256 == (ixtasEngine d n).node))
/-- The coach a packet concerns: its tone's, but for key agreement and host messages the addressed one (R366). -/
def concerned (r : Received) : Nat :=
  if 0x10 ≤ u8 r.bytes 5 && packetDest r.bytes != 0xFFFF then packetDest r.bytes % 256 else 16 * r.engine + r.tone
/-- The INVOCATION of a protected payload lies above the last one accepted. -/
def freshPayload (d : Dev) (c : Nat) (payload : List Byte) : Bool :=
  match (partnerOf d c).lastInv with | some l => decide (l < beNat (part payload 0 4)) | none => true
/-- Open a protected payload with the coach's receive key: the plaintext and its INVOCATION (R374). -/
def openPayload (d : Dev) (c : Nat) (header payload : List Byte) : Option (List Byte × Nat) :=
  let inv := beNat (part payload 0 4)
  match openKey d c with
  | none => none
  | some i =>
    let k := vaultEntry d i
    if payload.length < 20 || !freshPayload d c payload then none
    else (gcmOpen k.key (ivOf k.salt inv) header (part payload 4 (payload.length - 20)) (payload.drop (payload.length - 16))).map (·, inv)
def keyOpens (d : Dev) (c : Nat) : Bool := (openKey d c).isSome
/-- A whole message reaches firmware or the host's path. A capability or trace exchange ends the precedence of an earlier host write
(R88, R178). -/
def gotMessage (m : Message) (d : Dev) : Dev :=
  if m.kind = 0x20 then { d with ixtas := { d.ixtas with hostIn := d.ixtas.hostIn ++ [m] } }
  else
    let d1 := { d with ixtas := { d.ixtas with inbox := d.ixtas.inbox ++ [m] } }
    if m.kind = 2 then setCoachRx m.coach { coachRx d1 m.coach with hostWrote := false } d1
    else if m.kind = 3 then
      setFrameTx m.coach { frameTx d1 m.coach with hostTrace := false } (setFrameRx m.coach { frameRx d1 m.coach with hostTrace := false } d1)
    else d1
/-- A packet is lost for want of room (R373, R386). -/
def dropPacket (n : Nat) (d : Dev) : Dev := ixtasCause n 0 (ixtasCount n 9 1 d)
def isAssembly (n source ident : Nat) (a : Assembly) : Bool := a.head.engine == n && a.head.source == source && a.ident == ident
/-- The message of an assembly whose fragments are all there. -/
def assembled (a : Assembly) : Option Message :=
  let ps := (List.range a.count).map (tabGet (fun _ => none) a.pieces)
  if ps.all Option.isSome then some { a.head with body := ps.flatMap (·.getD []) } else none
/-- A fragment joins its message, at most 16 of which an engine assembles at once (R373). DEDUCED: a fragment whose INDEX is not below
its COUNT is discarded. -/
def gotFragment (m : Message) (d : Dev) : Dev :=
  let ident := u16 m.body 0
  let index := u8 m.body 2
  let old := d.ixtas.assemblies.find? (isAssembly m.engine m.source ident)
  let rest := d.ixtas.assemblies.filter (fun a => !isAssembly m.engine m.source ident a)
  let count := match old with | some a => a.count | none => u8 m.body 3
  if m.body.length < 4 || count ≤ index then d
  else if old.isNone && decide (16 ≤ (d.ixtas.assemblies.filter (fun a => a.head.engine == m.engine)).length) then dropPacket m.engine d
  else
    let a := old.getD { head := { m with body := [], ident := some ident }, ident := ident, count := count, pieces := [] }
    let b := { a with pieces := tabPut (fun _ => none) a.pieces index (some (m.body.drop 4)) }
    match assembled b with
    | some w => gotMessage w { d with ixtas := { d.ixtas with assemblies := rest } }
    | none => { d with ixtas := { d.ixtas with assemblies := rest ++ [b] } }
/-- The message or fragment in an opened packet. -/
def packetMessage (r : Received) (c : Nat) (prot : Bool) (plain : List Byte) : Message :=
  { engine := r.engine, coach := c, kind := u8 r.bytes 5, source := packetSource r.bytes, dest := packetDest r.bytes, prot := prot
    body := plain, at_ := r.at_ }
/-- A protected packet is opened by a job of the engine: the key is held, the payload long enough and its invocation new. -/
def opensJob (d : Dev) (c : Nat) (payload : List Byte) : Bool := keyOpens d c && decide (20 ≤ payload.length) && freshPayload d c payload
/-- A packet is opened and handed on: protection first, then reassembly. A CAPABILITY or TRACE without PROT on a coach whose key is held
is discarded and an agreement started (R382). -/
def acceptPacket (r : Received) (d : Dev) : Dev :=
  let c := concerned r
  let header := part r.bytes 0 8
  let payload := r.bytes.drop 8
  let flags := u8 r.bytes 0
  let kind := u8 r.bytes 5
  let frag := flags / 16 % 2 == 1
  let hand (m : Message) (d : Dev) : Dev := if frag then gotFragment m d else gotMessage m d
  let t := 16 * r.engine + r.tone
  let d1 := setPartner t { partnerOf d t with lastHeard := r.at_, cn0 := r.cn0 } d
  if flags / 32 % 2 = 1 then
    let d2 := if opensJob d1 c payload then innerJob .ixtas (1 + ceilDiv (payload.length - 20) 16) d1 else d1
    match openPayload d1 c header payload with
    | some (plain, inv) => hand (packetMessage r c true plain) (setPartner c { partnerOf d2 c with lastInv := some inv } d2)
    | none => ixtasTally r.engine 4 (ixtasCount r.engine 5 1 d2)
  else if (kind == 2 || kind == 3) && keyHeld d1 c then wantAgreement c (partnerCause c 5 (bump (keyUnprot c) 1 d1))
  else hand (packetMessage r c false payload) d1
/-- Firmware takes every packet of its ring. -/
def readRing (d : Dev) : Dev :=
  if firmwareRuns d then d.ixtas.ring.foldl (fun d r => acceptPacket r d) { d with ixtas := { d.ixtas with ring := [] } } else d
/-- A packet that has passed its CRC (R371, R380, R386). -/
def deliverPacket (r : Received) (d : Dev) : Dev :=
  if !forUs d r.engine r.bytes || !kindKnown (u8 r.bytes 5) then ixtasCount r.engine 8 1 d
  else if u8 r.bytes 5 = 0x20 then acceptPacket r d
  else if 256 ≤ d.ixtas.ring.length then dropPacket r.engine d
  else readRing { d with ixtas := { d.ixtas with ring := d.ixtas.ring ++ [r] } }
/-- The CRC is judged and the reception ends. -/
def judgePacket (n i tone : Nat) (p : PacketFacts) (d : Dev) : Dev :=
  if crc16 p.bytes = p.crc then
    deliverPacket { engine := n, tone := tone, bytes := p.bytes, cn0 := p.cn0.toNat, at_ := nowNs d }
      (ixtasTally n 6 (ixtasCount n 7 1 (endPrimary i d)))
  else ixtasTally n 4 (ixtasCount n 5 1 (endPrimary i d))
/-- A decoded packet whose header fits and whose LENGTH is the number of its payload bytes. -/
def packetFits (p : List Byte) : Bool := ixtasHeaderFits p && p.length == 8 + u8 p 6
def execRxOk (n : Engine) (b : Branch) (p : PacketFacts) : State → Host.Outcome State Fault Refusal :=
  lift fun d => guard (ixtasHears d n && receiving d (branchNo n b) && packetFits p.bytes) (judgePacket n (branchNo n b) b.tone p) d
/-- FRAG_TIMEOUT: the message of this SOURCE and MSG_ID is discarded, 10 s after its first fragment. -/
def execFragTimeout (n : Engine) (source ident : BitVec 16) : State → Host.Outcome State Fault Refusal :=
  lift fun d => guard (d.ixtas.assemblies.any (fun a => isAssembly n source.toNat ident.toNat a && decide (a.head.at_ + 10000000000 ≤ nowNs d)))
    (fun d => ixtasCause n 3 (ixtasCount n 12 1
      { d with ixtas := { d.ixtas with assemblies := d.ixtas.assemblies.filter (fun a => !isAssembly n source.toNat ident.toNat a) } })) d
/-- A host message enters the host queue of 64, or is dropped; HOST_MSG on source 0x2A1 (R386). -/
def hostMessage (m : Message) (d : Dev) : Dev :=
  if 64 ≤ d.ixtas.hostQueue.length then dropPacket m.engine d
  else raise 0x2A1 { d with ixtas := { d.ixtas with hostQueue := d.ixtas.hostQueue ++ [m] } }
def execHostMsg (c : Coach) : State → Host.Outcome State Fault Refusal :=
  lift fun d => match d.ixtas.hostIn.find? (fun m => m.coach == c.val) with
    | some m => hostMessage m { d with ixtas := { d.ixtas with hostIn := d.ixtas.hostIn.erase m } }
    | none => d

/-! ## Messages of the partner (R383 to R385) -/

/-- Firmware acts on the oldest message of this type for a coach. -/
def onMessage (c kind : Nat) (f : Message → Act) : Act := fun d =>
  match d.ixtas.inbox.find? (fun m => m.coach == c && m.kind == kind) with
  | some m => if firmwareRuns d then f m { d with ixtas := { d.ixtas with inbox := d.ixtas.inbox.erase m } } else d
  | none => d
/-- The highest common version of an offer, bit v − 1 for version v: 3, 2 or none. -/
def commonVersion (offer : Nat) : Nat := if offer.testBit 2 then 3 else if offer.testBit 1 then 2 else 0
/-- C/N0 that a class needs with the 3 dB of margin, 0.5 dB-Hz (R369, R384). -/
def classNeed (k : Nat) : Nat := if k = 0 then 110 else if k = 1 then 122 else if k = 2 then 138 else 144
/-- The highest class that the partner's CN0 carries; DEDUCED: of those the partner receives, and A where none is carried. -/
def bestClass (v mask cn0 : Nat) : Nat :=
  ([3, 2, 1].find? (fun k => mask.testBit k && (k != 3 || v == 3) && decide (classNeed k ≤ cn0))).getD 0
/-- COACH_CONFIG and COACH_RX_CONFIG of a coach as firmware would write them with another frame version. -/
def coachBody (d : Dev) (c v : Nat) : List Byte :=
  let x := coachTx d c
  let g := x.atBoundary.getD x.cfg
  le 2 c ++ le 1 g.slots ++ le 1 g.profile ++ le 1 v ++ [0] ++ leI 2 g.power ++ le 2 g.seedX ++ le 2 g.seedY ++ zeros 4
def coachRxBody (c slots profile v sx sy : Nat) (x : CoachRx) : List Byte :=
  le 2 c ++ le 1 slots ++ le 1 profile ++ le 1 v ++ le 1 (b2n x.enable) ++ le 2 sx ++ le 2 sy ++ le 2 x.locThreshold ++ zeros 4
def sameVersionBody (d : Dev) (c v : Nat) : List Byte :=
  let x := coachRx d c
  coachRxBody c x.slots x.profile v x.seedX x.seedY x
/-- AUTO_VERSION: the common frame version goes into COACH_CONFIG with APPLY_MODE 0 and into COACH_RX_CONFIG; a refusal of either raises
NEG_REFUSED and changes nothing. DEDUCED: a receive configuration that has no slots yet only takes the version. -/
def applyVersion (c v : Nat) (d : Dev) : Dev :=
  let x := coachTx d c
  let y := coachRx d c
  let txSame := (x.atBoundary.getD x.cfg).version == v
  let rxSame := y.version == v
  let txRefused := if txSame then none else judge coachConfigService (coachBody d c v) d
  let rxRefused := if rxSame || y.slots = 0 then none else judge coachRxConfigService (sameVersionBody d c v) d
  if txRefused.isSome || rxRefused.isSome then partnerCause c 6 (noteBrake rxRefused (noteBrake txRefused d))
  else
    let d1 := if txSame then d else coachApply (coachBody d c v) d
    if rxSame then d1
    else if y.slots = 0 then setCoachRx c { coachRx d1 c with version := v } d1
    else applyRxCfg c (rxCfgOf (sameVersionBody d c v)) d1
/-- The partner as a HELLO leaves it, before the class is chosen. -/
def partnerFrom (m : Message) (p : Partner) : Partner :=
  { p with state := if p.state = .known then .known else .heard, ixtas := commonVersion (u8 m.body 0), frame := commonVersion (u8 m.body 1)
           cn0Reported := u8 m.body 3, coach := u8 m.body 4, node := m.source / 256 }
/-- A received HELLO (R383, R384). DEDUCED: NO_COMMON_VERSION is raised when the partner is first heard and when a common version is
lost; a partner that reports RESTARTED is answered as one heard for the first time. -/
def gotHello (c : Nat) (m : Message) (d : Dev) : Dev :=
  let p := partnerOf d c
  let first := !heardNow p
  let q := partnerFrom m p
  let k := bestClass q.ixtas (u8 m.body 2) q.cn0Reported
  let auto := (ixtasCoach d c).txClass == 4
  let d1 := setPartner c { q with cls := k } d
  let d2 := if auto && k != p.cls then partnerCause c 7 d1 else d1
  let d3 := if first then partnerCause c 0 d2 else d2
  let d4 := if q.frame = 0 then (if first || p.frame != 0 then partnerCause c 3 d3 else d3)
            else if (ixtasCoach d c).autoVersion then applyVersion c q.frame d3 else d3
  if first || flag m.body 5 1 then sendCapability c d4 else d4
def execHelloPacket (c : Coach) : State → Host.Outcome State Fault Refusal := lift (onMessage c 1 fun m => if m.body.length = 24 then gotHello c m else fun d => d)
/-- COACH_RX_CONFIG as the partner's CAPABILITY gives it (R88). -/
def capabilityBody (c : Nat) (b : List Byte) (x : CoachRx) : List Byte :=
  coachRxBody c (u8 b 50) (u8 b 51) (u8 b 52) (u16 b 54) (u16 b 56) x
/-- A policy that waited for the exchange takes effect (R339). -/
def takePolicy (c : Nat) (d : Dev) : Dev :=
  match tabGet (fun _ => none) d.trust.policyNext c with
  | some p => { d with trust := { d.trust with policy := tabPut (fun _ => {}) d.trust.policy c p
                                               policyNext := tabPut (fun _ => none) d.trust.policyNext c none } }
  | none => d
/-- A received CAPABILITY (R88, R95, R375, R383): the partner's record, the far-end identity, the expected heartbeat word, the receive
configuration unless the host has written it since the message arrived or it would be refused. -/
def gotCapability (c : Nat) (m : Message) (d : Dev) : Dev :=
  let p := partnerOf d c
  let fp : BitVec 384 := BitVec.ofNat 384 (beNat (part m.body 0 48))
  let word := heartbeatWord (ixtasEngine d (engineOf c)).sync (u8 m.body 53 / 2 % 4) (u8 m.body 48)
  let d1 := setPartner c { p with state := .known, fingerprint := fp, coach := u8 m.body 48, node := m.source / 256
                                  capability := m.body, hbWord := some word } d
  let d2 := if p.capability = m.body then d1 else partnerCause c 2 d1
  let d3 := noteHitchRx (engineOf c / 2) (setCoachRx c { coachRx d2 c with far := some fp } d2)
  let body := capabilityBody c m.body (coachRx d3 c)
  let verdict := if (coachRx d3 c).hostWrote then none else judge coachRxConfigService body d3
  let d4 := if (coachRx d3 c).hostWrote || verdict.isSome then noteBrake verdict d3 else applyRxCfg c (rxCfgOf body) d3
  takePolicy c d4
def execCapability (c : Coach) : State → Host.Outcome State Fault Refusal :=
  lift (onMessage c 2 fun m => if m.body.length = 64 then gotCapability c m else fun d => d)
/-- TX_TRACE_TAG takes the tag of the coach's own text and, with EXP_SET, EXP_TRACE_TAG that of the expected text, unless the host has set
them (R178, R385). -/
def ownTraceTags (c : Nat) (d : Dev) : Dev :=
  let g := ixtasCoach d c
  let d1 := if (frameTx d c).hostTrace then d else setFrameTx c { frameTx d c with trace := traceTag g.text } d
  if (frameRx d1 c).hostTrace || !g.expSet then d1 else setFrameRx c { frameRx d1 c with expTrace := traceTag g.expected } d1
/-- A received TRACE (R178, R385). -/
def gotTrace (c : Nat) (m : Message) (d : Dev) : Dev :=
  let g := ixtasCoach d c
  let p := partnerOf d c
  let tag := u16 m.body 0
  let text := m.body.drop 2
  let differs := g.expSet && text != g.expected
  let d1 := setPartner c { p with traceTag := some tag, traceText := text, traceDiffers := differs } d
  let d2 := if differs then partnerCause c 4 d1 else d1
  let d3 := ownTraceTags c d2
  if !(frameRx d3 c).hostTrace && !g.expSet && p.traceTag.isNone then setFrameRx c { frameRx d3 c with expTrace := tag } d3 else d3
def execTrace (c : Coach) : State → Host.Outcome State Fault Refusal :=
  lift (onMessage c 3 fun m => if m.body.length = 34 then gotTrace c m else fun d => d)
def execCapRequest (c : Coach) : State → Host.Outcome State Fault Refusal := lift (onMessage c 4 fun _ => sendCapability c)
/-- Three HELLO periods without the partner: it is lost; no data-plane setting changes. -/
def execPartnerLost (c : Coach) : State → Host.Outcome State Fault Refusal :=
  lift fun d => guard (firmwareRuns d && heardNow (partnerOf d c) &&
      decide ((partnerOf d c).lastHeard + 300000000 * (ixtasCoach d c).period ≤ nowNs d))
    (fun d => partnerCause c 1 (setPartner c { partnerOf d c with state := .lost, cn0 := 0 } d)) d

end Sys2Proof.Machine
end

