-- ==== Sys2Proof/Machine/IxtasConfig.lean ====
section
/-! DEFINITION. The Ixtas commands (R388 to R393) and what sleep does to the channel (R387). -/

namespace Sys2Proof.Machine

/-! ## Configuration (R367, R375, R389, R390) -/

/-- Every context of an engine's branches is idle. -/
def stopSearch (n : Nat) (d : Dev) : Dev :=
  { d with ixtas := { d.ixtas with branches := d.ixtas.branches.filter (fun e => e.1 / 64 != n) } }
def ixtasEngRun (b : List Byte) (d : Dev) : Dev :=
  let n := u8 b 0
  let d1 := setIxtasEngine n { ixtasEngine d n with
    rx := flag b 1 0, tx := flag b 1 1, agc := flag b 1 2, depth := u8 b 2, tones := u8 b 3, capped := false, gain := u8 b 4
    threshold := u8 b 5, tol := u8 b 6, node := u8 b 7, sync := BitVec.ofNat 32 (u32 b 8) } d
  if flag b 1 0 then d1 else stopSearch n d1
/-- A depth above 3 % in all is out of range, one above IXTAS_DEPTH is the brake's (R367). -/
def ixtasEngConfigService : Service where
  opcode := 0x0801
  targets _ b := engineBlock (u8 b 0)
  checks d b :=
    [(!(within 0 15 (u8 b 0) && within 2 30 (u8 b 2) && within 1 15 (u8 b 3) && within 0 60 (u8 b 4) && within 64 255 (u8 b 5)
        && within 0 4 (u8 b 6)), outOfRange),
     (decide (30 < u8 b 2 * u8 b 3), outOfRange),
     (decide (ixtasDepth d (u8 b 0) < u8 b 2 * u8 b 3), braked 5)]
  run _ b d := okay (ixtasEngRun b d)
def execIxtasEngConfig (mb : Mailbox) : State → Host.Outcome State Fault Refusal := lift (serve ixtasEngConfigService mb)
def ixtasCoachRun (b : List Byte) (d : Dev) : Dev :=
  let c := u16 b 0
  let old := ixtasCoach d c
  let d1 := setIxtasCoach c { txClass := u8 b 2, hbClass := u8 b 3, period := u16 b 4, autoVersion := flag b 6 0, expSet := flag b 6 1
                              text := part b 8 32, expected := part b 40 32 } d
  let moved := if u8 b 2 = 4 && old.txClass != 4 && heardNow (partnerOf d c) && classNow d1 c != classNow d c then partnerCause c 7 d1 else d1
  if old.text != part b 8 32 then sendTrace c (ownTraceTags c moved)
  else if flag b 6 1 && (!old.expSet || old.expected != part b 40 32) then ownTraceTags c moved
  else moved
/-- Class A or B on a coach that carries twin legs is HB_CLASS (46), before the range of HB_CLASS is judged. -/
def ixtasCoachConfigService : Service where
  opcode := 0x0802
  targets _ b := coachBlock (u16 b 0)
  checks d b :=
    [(!within 0 255 (u16 b 0), outOfRange),
     (beats d (u16 b 0) && (decide (u8 b 2 < 2) || decide (u8 b 3 < 2)), badArg 46),
     (!(within 0 4 (u8 b 2) && within 2 3 (u8 b 3) && within 1 600 (u16 b 4)), outOfRange)]
  run _ b d := okay (ixtasCoachRun b d)
def execIxtasCoachConfig (mb : Mailbox) : State → Host.Outcome State Fault Refusal := lift (serve ixtasCoachConfigService mb)

/-! ## Status (R391, R392) -/

def ixtasEngStatusBody (n : Nat) (m : BitVec 64) (d : Dev) : List Byte :=
  let e := ixtasEngine d n
  [0] ++ le 1 (b2n (agcFrozen d n) + 2 * b2n e.capped) ++ le 1 (if agcFrozen d n then e.agcGain else if e.agc then m.toNat % 61 else e.gain) ++ le 1 e.depth ++ le 1 e.tones
    ++ le 1 (tonesOnAir d n) ++ zeros 2 ++ (coachesOf n).flatMap (fun t => le 1 (airWithin (nowNs d) (toneTx d t).air / 1000000))
    ++ le 4 (causeOf d (.ixtasEng n)).toNat ++ zeros 4 ++ (List.range 12).flatMap (fun i => le 8 (countOf d (keyEngine n (2 + i))))
/-- DESIGN CHOICE: the gain that an AGC has settled at is a free value in range. -/
def ixtasEngStatusService : Service where
  opcode := 0x0803
  targets _ b := engineBlock (u8 b 0)
  freeze := .never
  checks _ b := [(!within 0 15 (u8 b 0), outOfRange)]
  run _ b d :=
    let (m, d1) := drawFree d
    done (ixtasEngStatusBody (u8 b 0) m d) (clearCause (.ixtasEng (u8 b 0)) (flag b 1 0) d1)
def execIxtasEngStatus (mb : Mailbox) : State → Host.Outcome State Fault Refusal := lift (serve ixtasEngStatusService mb)
def PartnerState.code : PartnerState → Nat
  | .notHeard => 0 | .heard => 1 | .known => 2 | .lost => 3
def partnerFlags (d : Dev) (c : Nat) : Nat :=
  let p := partnerOf d c
  b2n (keyHeld d c) + 2 * b2n p.traceDiffers + 4 * b2n (p.hbWord.isSome && !(chainOf d c).ixtasFailed) + 8 * b2n (beats d c)
def partnerStatusBody (c : Nat) (d : Dev) : List Byte :=
  let p := partnerOf d c
  [0] ++ le 1 p.state.code ++ le 1 p.ixtas ++ le 1 p.frame ++ le 1 (classNow d c) ++ le 1 (partnerFlags d c) ++ le 1 p.cn0
    ++ le 1 p.cn0Reported ++ le 8 p.lastHeard ++ be 48 p.fingerprint.toNat ++ le 1 p.coach ++ le 1 p.node ++ le 2 (p.traceTag.getD 0)
    ++ p.traceText ++ le 4 (causeOf d (.partner c)).toNat ++ zeros 4
def ixtasPartnerStatusService : Service where
  opcode := 0x0804
  freeze := .never
  checks _ b := [(!within 0 255 (u16 b 0), outOfRange)]
  run _ b d := done (partnerStatusBody (u16 b 0) d) (clearCause (.partner (u16 b 0)) (flag b 2 0) d)
def execIxtasPartnerStatus (mb : Mailbox) : State → Host.Outcome State Fault Refusal := lift (serve ixtasPartnerStatusService mb)

/-! ## Host messages and the wake pattern (R381, R386, R393) -/

/-- Host messages that wait on an engine's tones. -/
def hostWaiting (d : Dev) (n : Nat) : Nat := ((coachesOf n).map (fun t => ((toneTx d t).waiting.filter (fun p => p.level == 5)).length)).sum
def sendsProtected (d : Dev) (b : List Byte) : Bool := !flag b 5 0 && protects d (u16 b 0)
def tooLong (d : Dev) (b : List Byte) : Bool :=
  decide (payloadLimit d (u16 b 0) (classNow d (u16 b 0)) < u8 b 4 + (if sendsProtected d b then 20 else 0))
def keySpent (d : Dev) (c : Nat) : Bool := match sealKey d c with | some i => spent d i | none => false
/-- DEDUCED: a message to be protected under a key at its limit is refused with KEY_EXHAUSTED, as any job (R300). -/
def ixtasSendService : Service where
  opcode := 0x0805
  targets _ b := coachBlock (u16 b 0)
  freeze := .never
  checks d b :=
    [(!within 0 255 (u16 b 0), outOfRange),
     (decide (220 < u8 b 4) || tooLong d b, badArg 47),
     (decide (16 ≤ hostWaiting d (engineOf (u16 b 0))), busy 0),
     (sendsProtected d b && keySpent d (u16 b 0), { status := .keyExhausted })]
  run _ b d :=
    let c := u16 b 0
    done (zeros 4 ++ le 1 (toneTx d c).seq)
      (sendAs c 5 (classNow d c) (ixtasVersion d c) 0x20 (u16 b 2) (flag b 5 0) (part b 8 (u8 b 4)) d)
def execIxtasSend (mb : Mailbox) : State → Host.Outcome State Fault Refusal := lift (serve ixtasSendService mb)
def hostMessageBody (m : Message) : List Byte :=
  [0, 1] ++ le 2 m.coach ++ le 2 m.source ++ le 2 m.dest ++ le 1 m.body.length ++ le 1 (b2n m.prot) ++ [0] ++ le 8 m.at_ ++ m.body
def ixtasRecvService : Service where
  opcode := 0x0806
  freeze := .never
  run _ _ d := match d.ixtas.hostQueue with
    | m :: t => done (hostMessageBody m) { d with ixtas := { d.ixtas with hostQueue := t } }
    | [] => done (zeros 19) d
def execIxtasRecv (mb : Mailbox) : State → Host.Outcome State Fault Refusal := lift (serve ixtasRecvService mb)
/-- DEDUCED: a pattern cannot be sent by an engine that emits no light or whose Ixtas transmit is disabled: NOT_READY. -/
def wakeSendService : Service where
  opcode := 0x0807
  targets _ b := engineBlock (u8 b 0)
  freeze := .never
  checks d b :=
    [(!(within 0 15 (u8 b 0) && within 0 15 (u8 b 1) && within 8 15 (u8 b 2)), outOfRange),
     (beats d (16 * u8 b 0 + u8 b 1), badArg 47),
     (!ixtasSends d (u8 b 0), notReady 0)]
  run _ b d :=
    let t := 16 * u8 b 0 + u8 b 1
    let x := toneTx d t
    okay (setTone t { x with waiting := x.waiting ++ [{ level := 0, cls := 0, bytes := [], wake := u8 b 2 }] } d)
def execWakeSend (mb : Mailbox) : State → Host.Outcome State Fault Refusal := lift (serve wakeSendService mb)

/-! ## Firmware restart and sleep (R387) -/

/-- Firmware packets that are not on air are discarded at a firmware restart. -/
def dropFirmwarePackets (d : Dev) : Dev :=
  d.ixtas.tones.foldl (fun d e => setTone e.1 { toneTx d e.1 with waiting := (toneTx d e.1).waiting.filter (fun p => p.level == 5 || p.level == 0) } d) d
/-- Transmission and the search stop. -/
def ixtasSleeps (d : Dev) : Dev :=
  { (List.range 256).foldl (fun d t => cutTone t d) d with ixtas := { d.ixtas with
      branches := []
      tones := tabMap (fun _ => {}) (fun _ x => { x with waiting := [] }) (((List.range 256).foldl (fun d t => cutTone t d) d).ixtas.tones) } }
/-- On return to RUN every Ixtas key handle is destroyed, every partner is not heard, and HELLOs start their cycle. -/
def forgetPartner (c : Nat) (d : Dev) : Dev :=
  let p := partnerOf d c
  let erase (h : Option Nat) (d : Dev) : Dev := match h.bind (findKey d) with | some i => eraseKey i d | none => d
  setPartner c { helloSent := p.helloSent } (erase p.keyRx (erase p.keyTx d))
def ixtasReturns (d : Dev) : Dev := (d.ixtas.partners.map (·.1)).foldl (fun d c => forgetPartner c d) d

end Sys2Proof.Machine
end

