-- ==== Sys2Proof/Machine/Agree.lean ====
section
/-! DEFINITION. Key agreement: policy, the four messages, loading, repeats and failures (R321 to R326, R339, R340). -/

namespace Sys2Proof.Machine

/-! ## Commands (R339) -/

def keyPolicyOf (b : List Byte) : KeyPolicy :=
  { source := u8 b 2, pinRequired := flag b 3 0, rotate := u32 b 4, timeout := u16 b 8, retry := u16 b 10, lead := u32 b 12
    pin := BitVec.ofNat 384 (beNat (part b 16 48)) }
/-- A policy with KEY_SOURCE 0 on a coach whose partner's fingerprint is not known waits for the next capability exchange. DEDUCED:
KEY_SOURCE 1 abandons the wait for a start and an attempt that runs, with no KA_FAIL and no retry; one that waits may then start. -/
def keyPolicyRun (c : Nat) (p : KeyPolicy) (d : Dev) : Dev :=
  if p.source = 0 && (partnerOf d c).fingerprint == 0 then
    { d with trust := { d.trust with policyNext := tabPut (fun _ => none) d.trust.policyNext c (some p) } }
  else
    let d1 := { d with trust := { d.trust with policy := tabPut (fun _ => {}) d.trust.policy c p
                                               policyNext := tabPut (fun _ => none) d.trust.policyNext c none } }
    let x := agreement d1 c
    if p.source = 1 then
      startWaiting (setAgreement c { x with state := .idle, retryAt := none, heldInit := none, lastConfirm := [], lastSettle := [] } d1)
    else d1
def keyPolicyService : Service where
  opcode := 0x0628
  checks _ b :=
    [(!(within 0 255 (u16 b 0) && within 0 1 (u8 b 2) && within 60 86400 (u32 b 4) && within 10 600 (u16 b 8) && within 1 600 (u16 b 10)
        && within 100 600000 (u32 b 12)), outOfRange)]
  run _ b d := okay (keyPolicyRun (u16 b 0) (keyPolicyOf b) d)
def execKeyPolicy (mb : Mailbox) : State → Host.Outcome State Fault Refusal := lift (serve keyPolicyService mb)
/-- KA_START. DEDUCED: on a coach under KEY_SOURCE 1, on which firmware runs no agreement, it is refused with DENIED; while one runs or
waits it adds nothing; a refusal by the freeze leaves KA_RESULT 9. -/
def kaStartService : Service where
  opcode := 0x0629
  checks d b :=
    [(!within 0 255 (u16 b 0), outOfRange), (d.trust.identityErased, denied 38), (pinLow d, denied 0),
     ((policyOf d (u16 b 0)).source == 1, denied 0)]
  run _ b d := okay (wantAgreement (u16 b 0) d)
  refused v b d :=
    if v = braked 7 && decide (u16 b 0 < 256) then setAgreement (u16 b 0) { agreement d (u16 b 0) with result := 9 } d else d
def execKaStart (mb : Mailbox) : State → Host.Outcome State Fault Refusal := lift (serve kaStartService mb)
def KaState.code : KaState → Nat
  | .idle => 0 | .initSent => 1 | .respSent => 2 | .confirmSent => 3 | .waiting => 4
/-- When the next agreement is due: the retry, else ROTATE_PERIOD after the current key came into use; 0 where neither is. -/
def nextDue (d : Dev) (c : Nat) : Nat :=
  let x := agreement d c
  match x.retryAt with
  | some t => t
  | none => if (policyOf d c).source = 0 && ((cipherTx d c).current).isSome then x.usedSince + (policyOf d c).rotate * 1000000000 else 0
def kaStatusBody (c : Nat) (d : Dev) : List Byte :=
  let x := agreement d c
  zeros 4 ++ le 1 x.state.code ++ le 1 x.result ++ le 2 x.attempts ++ le 8 x.lastDone ++ le 8 (nextDue d c) ++ be 48 x.peer.toNat
    ++ le 4 (causeOf d (.agree c)).toNat
def kaStatusService : Service where
  opcode := 0x062A
  freeze := .never
  checks _ b := [(!within 0 255 (u16 b 0), outOfRange)]
  run _ b d := done (kaStatusBody (u16 b 0) d) (clearCause (.agree (u16 b 0)) (flag b 2 0) d)
def execKaStatus (mb : Mailbox) : State → Host.Outcome State Fault Refusal := lift (serve kaStatusService mb)

/-! ## Confirmation (R323) -/

/-- Confirmation tag over TH and a label byte: CMAC under the confirmation key. -/
def confirmTag (x th : List Byte) (label : Byte) : List Byte :=
  let key : BitVec 256 := BitVec.ofNat 256 (beNat (part x 112 32))
  let m := th ++ [label]
  let n := (m.length - 1) / 16 * 16
  let acc := (cipherBlocks (m.take n)).foldl (fun a b => aes256 key (a ^^^ cipherBlock b)) 0
  cipherBytes (cmacLast key acc (m.drop n))
/-- The CMAC of a confirmation is a job of FIRMWARE. -/
def confirmJob (th : List Byte) (d : Dev) : Dev := innerJob .firmware (ceilDiv (th.length + 1) 16) d
/-! ## Ends of an attempt -/

/-- An attempt fails: KA_FAIL, and the initiator retries after KA_RETRY (R325). -/
def failAgreement (c r : Nat) (d : Dev) : Dev :=
  let x := agreement d c
  let again := if x.state = .respSent then none else some (nowNs d + (policyOf d c).retry * 1000000000)
  startWaiting (raiseCause (.agree c) 1 (setAgreement c { x with state := .idle, result := r, retryAt := again } d))
/-- An agreement completes. -/
def finishAgreement (c : Nat) (d : Dev) : Dev :=
  startWaiting (raiseCause (.agree c) 0
    (setAgreement c { agreement d c with state := .idle, result := 0, attempts := 0, lastDone := nowNs d, retryAt := none } d))
/-- Why a partner is not accepted (R322): 5 this device, 3 chain, 4 pin, 2 signatures. -/
def partnerFault (d : Dev) (c : Nat) (f : KaFacts) (signed : Bool) : Option Nat :=
  let p := policyOf d c
  firstOf [(f.fingerprint == ownFingerprint, 5), (!f.chains, 3), (p.pinRequired && f.fingerprint != p.pin, 4), (signed && !f.signed, 2)]

/-! ## Loading (R287, R324) -/

/-- START_FC from the transmit frame count and KA_LEAD in frames, rounded up, held to 64 to 2²⁶ (R324). -/
def startCount (d : Dev) (c : Nat) : Nat :=
  let lead := clamp 64 (2 ^ 26) (ceilDiv ((policyOf d c).lead * 1000000 * periodDen d c) periodNum)
  ((loadBase d c 0).getD 0 + lead) % loadMod d c 0
/-- A load at this START_FC comes too late (R287). -/
def loadLate (d : Dev) (c dir start : Nat) : Bool :=
  let lead := loadLead d c dir start
  decide (lead < 64) || decide (loadMod d c dir ≤ 2 * lead) || decide (2 ^ 26 < lead)
/-- The keys of the agreement enter the vault: two line keys, and the Ixtas key once per direction (R323, R374); the handles of the
last agreement on the coach are destroyed (DESIGN CHOICE). -/
def storeAgreed (c : Nat) (initiator : Bool) (x : List Byte) (d : Dev) : Dev :=
  let old := (agreement d c).handles
  let d0 := old.foldl (fun d h => match findKey d h with | some i => eraseKey i d | none => d) d
  let put (kind i : Nat) (salt : BitVec 64) (key : BitVec 256) (s : List Nat × Dev) : List Nat × Dev :=
    (fun r : Option Nat × Dev => (s.1 ++ [r.1.getD i], r.2)) (storeKey kind 0 (2 ^ 32) key salt s.2)
  let s := put 2 0 (lineSalt x 0) (lineKey x 0) ([], d0)
  let s := put 2 0 (lineSalt x 1) (lineKey x 1) s
  let s := put 3 0 (BitVec.ofNat 64 (2 ^ 56)) (protectionKey x) s
  let s := put 3 0 (BitVec.ofNat 64 (2 ^ 57)) (protectionKey x) s
  let out := nth s.1 (if initiator then 2 else 3) 0
  let inn := nth s.1 (if initiator then 3 else 2) 0
  setAgreement c { agreement s.2 c with handles := s.1 }
    (setPartner c { partnerOf s.2 c with keyTx := some out, keyRx := some inn, lastInv := none } s.2)
/-- The vault has room for an agreement's four keys. -/
def vaultRoom (d : Dev) : Bool := decide (vaultUsed d + 4 ≤ 4096)
/-- Load the receive key at START_FC into the slot named. -/
def loadRxKey (c slot start : Nat) (key : BitVec 256) (salt : BitVec 64) (d : Dev) : Dev :=
  let x := cipherRx d c
  useFlip 5 (setCipherRx c (putRxSlot slot (hitKey (flipMaskFor 5 d) { key := key, salt := salt, startFc := start, limit := x.limit }) x) d)
/-- Load the transmit key at START_FC into the slot that is not current. -/
def loadTxKey (c start : Nat) (key : BitVec 256) (salt : BitVec 64) (d : Dev) : Dev :=
  let x := cipherTx d c
  useFlip 5 (setCipherTx c (putTxSlot (nextSlot x) (hitKey (flipMaskFor 5 d) { key := key, salt := salt, startFc := start, limit := x.limit }) x) d)
/-- The receive key may be loaded: in time, into a slot that is not the one in use and whose pending key does not come into use within
64 frames. -/
def rxLoadable (d : Dev) (c slot start : Nat) : Bool :=
  !loadLate d c 1 start && !pendingClose d c 1 slot && !((frameRx d c).delivered.isSome && (cipherRx d c).lastSlot == some slot)
def txLoadable (d : Dev) (c start : Nat) : Bool := !loadLate d c 0 start && !pendingClose d c 0 (nextSlot (cipherTx d c))

/-! ## The messages (R322 to R325) -/

/-- A received KA_INIT. Crossed with this side's own, the numerically lower fingerprint stays initiator (R322). DEDUCED: an own KA_INIT
that stays makes the crossing one disappear, and one that is refused leaves an own attempt running; while 16 agreements run it waits, and the coach with
it; while a freeze is engaged none is answered; a repeat, known by MSG_ID and identifier, changes nothing (R386). -/
def gotInit (c : Nat) (f : KaFacts) (m : Message) (d : Dev) : Dev :=
  let x := agreement d c
  let crossed := x.state == .initSent || x.state == .confirmSent
  let noted := { x with initId := m.ident, initIdent := u64 m.body 0 }
  let again := m.ident.isSome && m.ident == x.initId && u64 m.body 0 == x.initIdent
  if (policyOf d c).source = 1 || m.body.length ≠ 1705 || agreeBarred d || again then d
  else match partnerFault d c f false with
    | some r => raiseCause (.agree c) 1 (setAgreement c { noted with result := r } d)
    | none =>
      if crossed && decide (ownFingerprint.toNat < f.fingerprint.toNat) then d
      else if freezeOn d then d
      else if !x.state.running && !mayAgree d then
        setAgreement c { noted with state := .waiting, heldInit := some (f.fingerprint, m.body), retryAt := none } d
      else respond c f.fingerprint m.body (setAgreement c { noted with result := if crossed then 8 else x.result } d)
def execKaInit (c : Coach) (f : KaFacts) : State → Host.Outcome State Fault Refusal := lift (onMessage c 0x10 (gotInit c f))
/-- A received KA_RESP: verified, the initiator derives the keys and sends KA_CONFIRM. -/
def gotResp (c : Nat) (f : KaFacts) (m : Message) (d : Dev) : Dev :=
  let x := agreement d c
  if agreeBarred d || x.state ≠ .initSent || m.body.length ≠ 6428 || u64 m.body 0 ≠ x.ident.toNat then d
  else match partnerFault d c f true with
    | some r => failAgreement c r d
    | none =>
      let keys := derivedBytes x.initBody m.body
      let th := transcript x.initBody m.body
      let start := startCount d c
      let body := le 8 x.ident.toNat ++ bothSignatures th 0x49 ++ le 8 start ++ le 1 (nextSlot (cipherTx d c)) ++ confirmTag keys th 0x49
      confirmJob th <| sendToPartner c 2 0x12 true body
        (setAgreement c { x with state := .confirmSent, respBody := m.body, derived := keys, startFc := start
                                 keyIndex := nextSlot (cipherTx d c), peer := f.fingerprint, confirmAt := nowNs d, lastConfirm := body
                                 confirmId := some (ixtasEngine d (engineOf c)).ident } d)
def execKaResp (c : Coach) (f : KaFacts) : State → Host.Outcome State Fault Refusal := lift (onMessage c 0x11 (gotResp c f))
/-- The responder loads both keys and sends KA_SETTLE. -/
def settleResponder (c slot start : Nat) (confirm : Message) (d : Dev) : Dev :=
  let x := agreement d c
  let th := transcript x.initBody x.respBody
  let own := startCount d c
  let index := nextSlot (cipherTx d c)
  let body := le 8 x.ident.toNat ++ le 8 own ++ le 1 index ++ confirmTag x.derived th 0x53
  let d1 := confirmJob th <| loadTxKey c own (lineKey x.derived 1) (lineSalt x.derived 1)
    (loadRxKey c slot start (lineKey x.derived 0) (lineSalt x.derived 0) (storeAgreed c false x.derived d))
  finishAgreement c (sendToPartner c 2 0x13 true body
    (setAgreement c { agreement d1 c with lastConfirm := confirm.body, confirmId := confirm.ident, lastSettle := body, startFc := own, keyIndex := index } d1))
/-- A received KA_CONFIRM: the same one again repeats KA_SETTLE unchanged; a receive load that comes too late sends none. -/
def gotConfirm (c : Nat) (f : KaFacts) (m : Message) (d : Dev) : Dev :=
  let x := agreement d c
  let th := transcript x.initBody x.respBody
  let start := u64 m.body 4731
  let slot := u8 m.body 4739
  if agreeBarred d then d
  else if !x.state.running && u64 m.body 0 == x.ident.toNat && m.ident == x.confirmId && !x.lastSettle.isEmpty then sendToPartner c 2 0x13 true x.lastSettle d
  else if x.state ≠ .respSent || m.body.length ≠ 4756 || u64 m.body 0 ≠ x.ident.toNat then d
  else match partnerFault d c f true with
    | some r => failAgreement c r d
    | none =>
      let d := confirmJob th d
      if m.body.drop 4740 ≠ confirmTag x.derived th 0x49 then failAgreement c 6 d
      else if !rxLoadable d c slot start || 1 < slot then failAgreement c 7 d
      else if freezeOn d then failAgreement c 9 (brakeRefuses 7 d)
      else if !vaultRoom d then raiseCause .vault 0 d
      else settleResponder c slot start m d
def execKaConfirm (c : Coach) (f : KaFacts) : State → Host.Outcome State Fault Refusal := lift (onMessage c 0x12 (gotConfirm c f))
/-- A received KA_SETTLE: verified, it replaces the coach's Ixtas keys (R326); the initiator then loads its receive key and its
transmit key; a load that comes too late keeps the current key (R324, R325). -/
def gotSettle (c : Nat) (m : Message) (d : Dev) : Dev :=
  let x := agreement d c
  let th := transcript x.initBody x.respBody
  let start := u64 m.body 8
  let slot := u8 m.body 16
  if agreeBarred d || x.state ≠ .confirmSent || m.body.length ≠ 33 || u64 m.body 0 ≠ x.ident.toNat then d
  else
    let d1 := confirmJob th d
    if m.body.drop 17 ≠ confirmTag x.derived th 0x53 then failAgreement c 6 d1
    else if freezeOn d then failAgreement c 9 (brakeRefuses 7 d1)
    else if !vaultRoom d then raiseCause .vault 0 d1
    else
      let d2 := storeAgreed c true x.derived d1
      if !rxLoadable d2 c slot start || 1 < slot then failAgreement c 7 d2
      else
        let d3 := loadRxKey c slot start (lineKey x.derived 1) (lineSalt x.derived 1) d2
        if txLoadable d3 c x.startFc then
          finishAgreement c (loadTxKey c x.startFc (lineKey x.derived 0) (lineSalt x.derived 0) d3)
        else failAgreement c 7 d3
def execKaSettle (c : Coach) (_f : KaFacts) : State → Host.Outcome State Fault Refusal := lift (onMessage c 0x13 (gotSettle c))

/-! ## Repeats, timeout, retry, rotation (R325, R326)

Each acts where its time has come by DEVTIME, in which R339 gives NEXT_DUE. -/

/-- Nanoseconds that KA_CONFIRM takes on the air at the rate class in use. -/
def confirmAir (d : Dev) (c : Nat) : Nat := messageAir d c (classNow d c) 0x12 (agreement d c).lastConfirm
/-- No KA_SETTLE within four airtimes of KA_CONFIRM: it is repeated until START_FC_I is fewer than 64 frames away. -/
def repeatConfirm (c : Nat) (d : Dev) : Dev :=
  let x := agreement d c
  if loadLead d c 0 x.startFc < 64 || loadMod d c 0 ≤ 2 * loadLead d c 0 x.startFc then d
  else repeatToPartner c 2 0x12 (x.confirmId.getD 0) x.lastConfirm (setAgreement c { x with confirmAt := nowNs d } d)
def execKaConfirmRepeat (c : Coach) : State → Host.Outcome State Fault Refusal :=
  lift fun d => guard (firmwareRuns d && (agreement d c).state == .confirmSent &&
    decide ((agreement d c).confirmAt + 4 * confirmAir d c ≤ nowNs d)) (repeatConfirm c) d
def execKaTimeout (c : Coach) : State → Host.Outcome State Fault Refusal :=
  lift fun d => guard (firmwareRuns d && (agreement d c).state.running &&
    decide ((agreement d c).began + (policyOf d c).timeout * 1000000000 ≤ nowNs d)) (failAgreement c 1) d
def execKaRetry (c : Coach) : State → Host.Outcome State Fault Refusal :=
  lift fun d => guard (firmwareRuns d && (agreement d c).retryAt.isSome && decide (nextDue d c ≤ nowNs d)) (wantAgreement c) d
def execRotatePeriod (c : Coach) : State → Host.Outcome State Fault Refusal :=
  lift fun d => guard (firmwareRuns d && ((cipherTx d c).current).isSome && ((agreement d c).retryAt).isNone &&
    decide ((agreement d c).usedSince + (policyOf d c).rotate * 1000000000 ≤ nowNs d)) (wantAgreement c) d
/-- A firmware restart abandons every agreement in progress with KA_RESULT 1 (R340). -/
def abandonAgreements (d : Dev) : Dev :=
  (d.trust.agree.map (·.1)).foldl (fun d c => if (agreement d c).state.running then failAgreement c 1 d else d) d

end Sys2Proof.Machine
end

