-- ==== Sys2Proof/Machine/Brakes.lean ====
section
/-! DEFINITION. Host writes of the brake registers (R60, R70, R228, R330 to R337). The brake block is written through the hub. -/

namespace Sys2Proof.Machine

def setBrakes (f : Brakes → Brakes) (d : Dev) : Dev := { d with brakes := f d.brakes }
/-- Brake number i of BRAKE_LOCK is locked: 0 launch, 1 bias, 2 cipher, 3 key, 4 Ixtas, 5 slot, 6 freeze (R332). -/
def locked (d : Dev) (i : Nat) : Bool := d.brakes.lock.getLsbD i
/-- WRITE_ERR is set where a write was clamped or discarded (R333). -/
def noteWriteErr (p : Bool) (d : Dev) : Dev := if p then setBrakes (fun b => { b with writeErr := true }) d else d
/-- A field held to its limits, with WRITE_ERR where it lay beyond them. -/
def beyond (lo hi v : Nat) : Bool := v < lo || hi < v

/-- BRAKE_LOCK: a bit written 1 sets and stays until device reset. -/
def writeBrakeLock (v : Word) : Act := setBrakes fun b => { b with lock := b.lock ||| v.setWidth 7 }
def execBrakeLock (w : RegWrite) : State → Host.Outcome State Fault Refusal := lift (hostWrite 1 w writeBrakeLock)

/-- KEY_CEILING (R335). -/
def writeKeyCeiling (v : Word) (d : Dev) : Dev :=
  if locked d 3 then d
  else noteWriteErr (beyond 0xFFFFF 0xFFFFFFFF v.toNat) (setBrakes (fun b => { b with ceilingM1 := clamp 0xFFFFF 0xFFFFFFFF v.toNat }) d)
def execKeyCeiling (w : RegWrite) : State → Host.Outcome State Fault Refusal := lift (hostWrite 1 w writeKeyCeiling)

/-- SLOT_BRAKE (R228). -/
def writeSlotBrake (v : Word) (d : Dev) : Dev :=
  if locked d 5 then d
  else noteWriteErr (beyond 1 1000 (fld v 0 10)) (setBrakes (fun b => { b with minSwapMs := clamp 1 1000 (fld v 0 10) }) d)
def execSlotBrake (w : RegWrite) : State → Host.Outcome State Fault Refusal := lift (hostWrite 1 w writeSlotBrake)

/-- FREEZE_CTRL (R337); the agreements that a freeze held back start when it lifts. -/
def writeFreezeCtrl (v : Word) (d : Dev) : Dev :=
  if locked d 6 then d else startWaiting (setBrakes (fun b => { b with hostFreeze := bit v 0 }) d)
def execFreezeCtrl (w : RegWrite) : State → Host.Outcome State Fault Refusal := lift (hostWrite 1 w writeFreezeCtrl)

/-- A launch cap below the PEAK_TARGET in force caps the engine: CAPPED (R60). -/
def checkCap (n : Nat) (d : Dev) : Dev :=
  let e := engTx d n
  if launchCap d n < e.peak && !e.capped then raiseCause (.engTx n) 4 (setEngTx n { e with capped := true } d) else d
def setEngBrake (n : Nat) (x : Nat × Nat × Nat) : Act :=
  setBrakes fun b => { b with engines := tabPut engBrakeReset b.engines n x }
/-- ENG_BRAKE: the launch field and the Ixtas fields each under their own lock (R332, R336). -/
def writeLaunch (n : Nat) (v : Word) (d : Dev) : Dev :=
  if locked d 0 then d
  else noteWriteErr (beyond 1 63 (fld v 0 6))
    (checkCap n (setEngBrake n (clamp 1 63 (fld v 0 6), ixtasAirtime d n, ixtasDepth d n) d))
def writeIxtasBrake (n : Nat) (v : Word) (d : Dev) : Dev :=
  if locked d 4 then d
  else noteWriteErr (beyond 1 100 (fld v 8 7) || beyond 2 30 (fld v 16 5))
    (clampDepth n (setEngBrake n (launchCap d n, clamp 1 100 (fld v 8 7), clamp 2 30 (fld v 16 5)) d))
def writeEngBrake (n : Nat) (v : Word) (d : Dev) : Dev := writeIxtasBrake n v (writeLaunch n v d)
def execEngBrake (n : Engine) (w : RegWrite) : State → Host.Outcome State Fault Refusal := lift (hostWrite 1 w (writeEngBrake n))

/-- BIAS_WINDOW in the two steps of R333. -/
def writeBiasWindow (b : Nat) (v : Word) (d : Dev) : Dev :=
  let lo := fld v 0 16
  let hi := fld v 16 16
  if locked d 1 then d
  else if hi < lo then noteWriteErr true d
  else noteWriteErr (beyond 0 14000 lo || beyond 0 14000 hi) (windowChanged b
    (setBrakes (fun x => { x with window := tabPut biasWindowReset x.window b (clamp 0 14000 lo, clamp 0 14000 hi) }) d))
def execBiasWindow (b : BiasOut) (w : RegWrite) : State → Host.Outcome State Fault Refusal := lift (hostWrite 1 w (writeBiasWindow b))

/-- BIAS_SLEW; an entry sweep in progress restarts (R70). -/
def writeBiasSlew (b : Nat) (v : Word) (d : Dev) : Dev :=
  if locked d 1 then d
  else
    let x := biasOf d b
    let d1 := setBrakes (fun x => { x with slew := tabPut (fun _ => 100) x.slew b (clamp 1 1000 (fld v 0 10)) }) d
    noteWriteErr (beyond 1 1000 (fld v 0 10)) (if x.state = .sweep then setBias b { x with lockPoint := none } d1 else d1)
def execBiasSlew (b : BiasOut) (w : RegWrite) : State → Host.Outcome State Fault Refusal := lift (hostWrite 1 w (writeBiasSlew b))

/-- The device with only these secure marks in mask word `i`. -/
def onlySecure (i : Nat) (v : Word) (d : Dev) : Dev := setBrakes (fun b => { b with secure := tabPut (fun _ => 0) [] i v }) d
/-- SECURE_MASK: SECURE_CONFLICT where a queue newly marked violates the cipher-brake check on the active pages (R334). -/
def writeSecureMask (i : Nat) (v : Word) (d : Dev) : Dev :=
  if locked d 2 then d
  else
    let old := tabGet (fun _ => 0) d.brakes.secure i
    let fresh := onlySecure i (v &&& ~~~ old) d
    let ok := cipherOkTx fresh (judgedTx fresh 0) && cipherOkRx fresh (judgedRx fresh (fun _ => false))
    let d1 := setBrakes (fun b => { b with secure := tabPut (fun _ => 0) b.secure i v }) d
    if ok then d1 else raiseCause .vault 2 d1
def execSecureMask (i : Fin 128) (w : RegWrite) : State → Host.Outcome State Fault Refusal := lift (hostWrite 1 w (writeSecureMask i))

end Sys2Proof.Machine
end

