-- ==== Sys2Proof/Machine/FrameReceive.lean ====
section
/-! DEFINITION. The receive framer: codewords released by the pool, the alignment hunt, headers in SYNC, hitless changes and the
header heartbeat (R133, R134, R166 to R184, R109, R231). -/

namespace Sys2Proof.Machine

/-! ## Release (R133, R134) -/

/-- The outcome of a codeword that is done. -/
def doneOutcome (w : PoolCw) : Option (Fin 3) := match w.state with | .done o => some o | _ => none
/-- What a release adds to the bins of its coach (R205, R214). -/
def binRelease (w : PoolCw) (o : Fin 3) (b : Bin) : Bin :=
  if o = 0 then binEvent 0 (correctedBits w o) { b with cleared := b.cleared + 1 } else binEvent o.val 1 b
def releaseWord (w : PoolCw) (o : Fin 3) (d : Dev) : Dev :=
  let c := w.coach
  let d1 := coachBins c (binRelease w o) (countRelease w o (setCws (d.pool.cws.erase w) d))
  if (frameRx d1 c).align = .off then d1 else setFrameRx c { frameRx d1 c with inbox := (frameRx d1 c).inbox ++ [releaseRecord w o] } d1
/-- CODEWORD_RELEASE: the oldest codeword of the coach, once it is done. -/
def codewordRelease (c : Nat) (d : Dev) : Dev :=
  match d.pool.cws.find? (fun w => w.coach == c) with
  | some w => match doneOutcome w with
    | some o => releaseWord w o d
    | none => d
  | none => d
def execCodewordRelease (c : Coach) : State → Host.Outcome State Fault Refusal :=
  lift fun d => guard (!asleep d) (codewordRelease c) d

/-! ## The hunt (R167 to R170) -/

/-- The candidate bits of a codeword. -/
def keptOf (w : Released) : Kept := { bits := w.info.setWidth 256, erased := w.outcome == 2, seq := w.seq }
/-- The header of a fitting candidate. -/
def fitted (k : Kept) : Option Header := if !k.erased && headerFits k.bits then some (headerOf k.bits) else none
/-- Count continuity: `n` frames after a latched count. -/
def continues (latched n : Nat) (h : Header) : Bool := h.fc == (latched + n) % fcMod h.version
def confirms (latched n : Nat) (k : Kept) : Bool := match fitted k with | some h => continues latched n h | none => false
/-- What a retest of kept codewords yields: the candidate in PRESYNC with the codewords after it, and what it counted. -/
structure Rehunt where
  found : Option (Header × List Kept) := none
  fits : List Header := []
  falses : Nat := 0
/-- Test kept codewords in arrival order (R169). -/
def rehunt : List Kept → Rehunt
  | [] => {}
  | k :: t =>
    match fitted k with
    | none => rehunt t
    | some h =>
      match t[15]? with
      | none => { found := some (h, t), fits := [h] }
      | some v =>
        if confirms h.fc 1 v then { found := some (h, t), fits := h :: (fitted v).toList }
        else
          let r := rehunt t
          { r with fits := h :: r.fits, falses := r.falses + 1 }
/-- Fitting headers are counted, and the last one is kept for the report (R182, R187). -/
def noteFit (c : Nat) (h : Header) (d : Dev) : Dev :=
  let d1 := frameCount c 0 0 d
  setFrameRx c { frameRx d1 c with last := some h } d1
def falsePresync (c : Nat) (d : Dev) : Dev := raiseCauseMs (.frameCoach c) 2 (frameCount c 2 2 d)
/-- PRESYNC has failed: hunting resumes at the codeword after the failed candidate. DESIGN CHOICE: every kept header that fits in the retest counts in FITS, one that was counted at its confirmation again. -/
def presyncFails (c : Nat) (ks : List Kept) (d : Dev) : Dev :=
  let r := rehunt ks
  let d1 := (List.range (r.falses + 1)).foldl (fun d _ => falsePresync c d) d
  let d2 := r.fits.foldl (fun d h => noteFit c h d) d1
  let x := frameRx d2 c
  setFrameRx c (match r.found with
    | some (h, t) => { x with align := .presync, latched := h.fc, latchedVersion := h.version, kept := t, confirmed := b2n (decide (16 ≤ t.length)) }
    | none => { x with align := .hunt, kept := [] }) d2
/-- HUNT tests a candidate. -/
def huntTest (c : Nat) (k : Kept) (d : Dev) : Dev :=
  match fitted k with
  | some h =>
    let d1 := noteFit c h d
    setFrameRx c { frameRx d1 c with align := .presync, latched := h.fc, latchedVersion := h.version, kept := [], confirmed := 0 } d1
  | none => d

/-! ## Headers in SYNC (R174 to R182) -/

/-- One fitting header's word on a raw indication: two consecutive ones change it. DESIGN CHOICE: consecutive are two fitting headers with no other fitting header between them, whatever lay between: a misfit or a loss of SYNC forgets nothing. -/
def pairStep (v : Bool) (p : Pair) : Pair :=
  if v = p.raw then { p with once := false } else if p.once then { raw := v } else { p with once := true }
/-- The role check of a version 3 coach with twin legs (R342). -/
def roleStep (d : Dev) (c : Nat) (h : Header) (p : Pair) : Pair :=
  if (coachRx d c).version = 3 ∧ rxRole d c ≠ 0 then pairStep (decide (h.twinRole ≠ rxRole d c)) p else {}
/-- The indications after a fitting header. PARTNER_CFG is judged outside a latched change. -/
def pairsAfter (d : Dev) (c : Nat) (h : Header) (x : FrameRx) : FrameRx :=
  let r := coachRx d c
  { x with
    vmm := pairStep (decide (h.version ≠ r.version)) x.vmm
    ais := pairStep (h.stat == 1) x.ais
    hold := pairStep (h.stat == 3) x.hold
    bdi := pairStep h.bdi x.bdi
    tim := if x.timEnable then pairStep (decide (h.trace ≠ x.expTrace)) x.tim else {}
    partner := if x.chg.isSome then x.partner else pairStep (decide (h.slots ≠ x.slots) || (h.version == 3 && decide (h.profile ≠ r.profile))) x.partner }
/-- A fitting header's indications: RAW_CHANGE, PARTNER_CFG, masks and twin paths follow a change. -/
def noteHeader (c : Nat) (h : Header) (d : Dev) : Dev :=
  let x := frameRx d c
  let y := pairsAfter d c h x
  let ch := chainOf d c
  let role := roleStep d c h ch.role
  let raws := rawBits x != rawBits y
  let d1 := setChain c { ch with role := role } (setFrameRx c y (if raws then seeAll c d else d))
  let d2 := if raws then raiseCause (.frameCoach c) 4 d1 else d1
  let d3 := if y.partner.raw && !x.partner.raw then raiseCause (.frameCoach c) 7 d2 else d2
  let d4 := if role.raw && !ch.role.raw then (rxTwins d c).foldl (fun d w => twinCause w 6 d) d3 else d3
  if raws || role.raw != ch.role.raw then settleRx (engineOf c) d4 else d4
/-- CHG_SLOTS would be refused under the receive configuration (R180): outside 1 to 40, or beyond H (R47, R50). -/
def chgRefused (d : Dev) (c slots : Nat) : Bool :=
  !within 1 40 slots || entropyOver (engTx d (engineOf c)).rate (coachRx d c).profile slots
/-- The change announcement of a fitting version 3 header (R180); `seq` is the CW_SEQ of its codeword. DEDUCED: the window in which a
header with CHG_VALID = 0 contradicts the latch is that of R161, the 256 frames before CHG_AT. -/
def noteChange (c seq : Nat) (h : Header) (d : Dev) : Dev :=
  let x := frameRx d c
  let k (at_ : Nat) : Nat := modSub 65536 at_ (h.fc % 65536)
  let conflict := raiseCause (.frameCoach c) 6
  if h.version ≠ 3 ∨ x.chgApplied then d
  else if h.chgValid then
    if chgRefused d c h.chgSlots then conflict d
    else
      let d1 := setFrameRx c { x with chg := some (h.chgSlots, h.chgAt, (seq + 16 * k h.chgAt) % 2 ^ 32) } d
      match x.chg with
      | none => d1
      | some (s, a, _) => if s = h.chgSlots ∧ a = h.chgAt then d else conflict d1
  else match x.chg with
    | some (_, a, _) => if within 1 256 (k a) then conflict d else d
    | none => d
/-- The far-end block of a fitting header (R177, R184, R202). -/
def farBlock (c : Nat) (h : Header) (d : Dev) : Dev :=
  if h.version = 3 then
    let x := coachEntity d c
    setCoachEntity c { x with feBlocks := x.feBlocks + 1, feErrored := x.feErrored + b2n (decide (0 < h.bei)) } d
  else d
/-- A fitting header at the expected position: jump, heartbeat, indications, announcement. -/
def headerFitsNow (c seq : Nat) (h : Header) (expected : Nat) (d : Dev) : Dev :=
  let jump := h.fc != expected % fcMod h.version
  let d1 := if jump then raiseCause (.frameCoach c) 3 (frameCount c 4 4 d) else d
  let d2 := setFrameRx c { frameRx d1 c with count := h.fc, misfits := 0 } d1
  noteChange c seq h (noteHeader c h (farBlock c h (modChain c headerSeen d2)))

/-! ## Frames in SYNC (R166, R172, R174, R231) -/

/-- A receive swap of the coach applies at a delivered frame: its count is F_c or has passed it (R231). -/
def rxSwapDue (d : Dev) (c version fc : Nat) : Bool :=
  match (coachSwap d c).armed with
  | some f => decide (2 * modSub (fcMod version) fc f < fcMod version)
  | none => false
/-- Queues that a page gives the coach. -/
def rxNamed (d : Dev) (c : Nat) (p : Bool) : List Nat := (rxLegsOn d c 40 p).map (·.1)
/-- The first run of a tributary whose receive side is enabled sets its offset (R233). -/
def enableTrib (q : Nat) (d : Dev) : Dev :=
  if rxSlotsOf d q = 0 then setRxQueue q { rxQueue d q with expected := none, runs := [] } d else d
def switchRx (c : Nat) (d : Dev) : Dev :=
  let x := coachSwap d c
  let seen := (rxNamed d c x.rxPage1).foldl (fun d q => seeQueueAll q d) d
  let d1 := (rxNamed d c (!x.rxPage1)).foldl (fun d q => enableTrib q d) seen
  let d2 := raise (0x100 + engineOf c) (setCoachSwap c { x with armed := none, done := true, rxPage1 := !x.rxPage1 } d1)
  settleRx (engineOf c) ((rxNamed d c x.rxPage1).foldl (fun d q => tribOff q d) d2)
/-- A delivered frame enters the cipher lane: receive swap, receive CIPHER_MODE, its legs at the de-mapper, and the count of received hold frames
(R292). -/
def beginDelivered (c : Nat) (h : Header) (mode : Bool) (d : Dev) : Dev :=
  let d1 := if rxSwapDue d c h.version h.fc then switchRx c d else d
  let d2 := setCipherRx c { cipherRx d1 c with lastSlot := if h.cipher then some h.keyIndex else none } d1
  let x := frameRx d2 c
  let p := (coachSwap d2 c).rxPage1
  let f : DemapFrame :=
    { fc := h.fc, slots := x.slots, page1 := p, profile := (coachRx d2 c).profile, resync := x.resynced
      todo := rxLegsOn d2 c x.slots p, mode := mode }
  let d3 := setFrameRx c { x with resynced := false } d2
  let d4 := if f.todo.isEmpty then d3 else { d3 with slots := { d3.slots with demap := tabMod (fun _ => []) d3.slots.demap c (· ++ [f]) } }
  if h.stat = 3 ∧ !h.cipher then laneCipherTally c 4 1 (cipherCount c 10 1 d4) else d4
/-- A frame's lead codeword, with its header in force. Raw VMM is judged here (R172), and CIPHER_MODE takes effect (R285). -/
def beginFrame (c : Nat) (h : Header) (fits : Bool) (w : Released) (d : Dev) : Dev :=
  let ok := !(frameRx d c).vmm.raw
  let d1 := if ok then d else tally 1 8 c 1 d
  let d2 := setCipherRx c { cipherRx d1 c with mode := (cipherRx d1 c).modeNext } d1
  setFrameRx c { frameRx d2 c with frame := some { header := h, fits := fits, delivered := ok, words := [w], mode := (cipherRx d2 c).mode } } d2
/-- What the siding holds of a segment whose first word was stored XOR a flip mask (R424, R430). -/
def hitSegment (m : BitVec 72) (s : Segment) : Segment :=
  if m = 0 then s else match readFlipped m (BitVec.ofNat 64 (u64 s.body 0)) with
    | some v => { s with body := le 8 v.toNat ++ s.body.drop 8 }
    | none => { s with lost := true }
/-- The four segments of a frame go to the cipher lane; they lie in the siding. -/
def passSegments (c : Nat) (f : InFrame) (d : Dev) : Dev :=
  let x := cipherRx d c
  let segs := [0, 1, 2, 3].map (fun g => { segmentOf f.header g ((f.words.drop (4 * g)).take 4) with mode := f.mode })
  useFlip 2 (setCipherRx c { x with segs := x.segs ++ putAt segs 0 (hitSegment (flipMaskFor 2 d)) } d)
/-- A frame's last codeword: the frame has lain within SYNC from its first codeword to this one and is delivered, if raw VMM was clear (R172);
else its bad codewords are its BEI (R160). -/
def endFrame (c : Nat) (f : InFrame) (d : Dev) : Dev :=
  if f.words.length < 16 then d
  else if f.delivered then
    let d1 := passSegments c f (beginDelivered c f.header f.mode d)
    setFrameRx c { frameRx d1 c with delivered := some f.header.fc } (tally 1 6 c 1 d1)
  else setFrameRx c { frameRx d c with bei := sat 15 (f.words.filter (fun w => w.outcome != 0)).length } d
/-- The next codeword of a frame in progress. -/
def addWord (c : Nat) (f : InFrame) (w : Released) (d : Dev) : Dev :=
  let g := { f with words := f.words ++ [w] }
  endFrame c g (setFrameRx c { frameRx d c with frame := some g } d)
/-- SYNC is lost to HUNT by misfits (R168). -/
def fallToHunt (c : Nat) (d : Dev) : Dev := settleRx (engineOf c) (toHunt c (syncLoss c d))
/-- The codeword at the expected position in SYNC. -/
def syncLead (c : Nat) (f : InFrame) (w : Released) (d : Dev) : Dev :=
  let x := frameRx d c
  match fitted (keptOf w) with
  | some h => beginFrame c h true w (headerFitsNow c w.seq h (x.count + 1) (noteFit c h d))
  | none =>
    let d1 := frameCount c 1 1 d
    if x.misfits = 3 then fallToHunt c d1
    else
      let n := (x.count + 1) % fcMod f.header.version
      beginFrame c { f.header with fc := n } false w (setFrameRx c { frameRx d1 c with count := n, misfits := x.misfits + 1 } d1)
def syncWord (c : Nat) (w : Released) (d : Dev) : Dev :=
  match (frameRx d c).frame with
  | some f => if f.words.length < 16 then addWord c f w d else syncLead c f w d
  | none => d
/-- PRESYNC ends in SYNC: raw LOF clears, SYNC_GAIN, and this frame is the first delivered. -/
def gainSync (c : Nat) (h : Header) (w : Released) (d : Dev) : Dev :=
  let d1 := seeRaw c 2 d
  let x := frameRx d1 c
  let d2 := setFrameRx c { x with align := .sync, kept := [], misfits := 0, count := h.fc, lastSync := nowNs d } d1
  beginFrame c h true w (headerFitsNow c w.seq h h.fc (settleRx (engineOf c) (raiseCause (.frameCoach c) 0 d2)))
def presyncWord (c : Nat) (w : Released) (d : Dev) : Dev :=
  let x := frameRx d c
  let k := keptOf w
  let n := x.kept.length + 1
  let keep (d : Dev) : Dev := setFrameRx c { frameRx d c with kept := x.kept ++ [k], confirmed := b2n (decide (16 ≤ n)) } d
  if n % 16 ≠ 0 then keep d
  else match fitted k with
    | some h =>
      if continues x.latched (n / 16) h then (if n = 32 then gainSync c h w (noteFit c h d) else keep (noteFit c h d))
      else presyncFails c (x.kept ++ [k]) d
    | none => presyncFails c (x.kept ++ [k]) d
/-- The first codeword at a new H has reached the framer: the latched change is over. -/
def noteH (c : Nat) (w : Released) (d : Dev) : Dev :=
  if w.hChange then
    let x := frameRx d c
    setFrameRx c { x with slots := (coachRx d c).slotsNow, chg := if x.chgApplied then none else x.chg, chgApplied := false } d
  else d
/-- A codeword with RESYNC: kept codewords are discarded and it becomes the candidate. DEDUCED: a change latched before it cannot be
applied, its CW_SEQ having no meaning any more. -/
def resyncWord (c : Nat) (w : Released) (d : Dev) : Dev :=
  let was := (frameRx d c).align
  let d1 := toHunt c d
  let x := frameRx d1 c
  let d2 := setFrameRx c { x with slots := (coachRx d c).slotsNow, chg := none, chgApplied := false, resynced := true } d1
  huntTest c (keptOf w) (if was = .sync then settleRx (engineOf c) d2 else d2)
/-- CANDIDATE_TEST: the framer takes the oldest codeword released to it. -/
def candidateTest (c : Nat) (d : Dev) : Dev :=
  let x := frameRx d c
  match x.inbox with
  | [] => d
  | w :: t =>
    let d1 := noteH c w (setFrameRx c { x with inbox := t } d)
    if x.align = .off then d1
    else if w.resync then resyncWord c w d1
    else match x.align with
      | .hunt => huntTest c (keptOf w) d1
      | .presync => presyncWord c w d1
      | .sync => syncWord c w d1
      | .off => d1
def execCandidateTest (c : Coach) : State → Host.Outcome State Fault Refusal :=
  lift fun d => guard (!asleep d) (candidateTest c) d

/-! ## Timers (R109, R170, R176) -/

/-- HB_MISS: 1.5 frame periods without a heartbeat, then each further period. -/
def hbMiss (c : Nat) (d : Dev) : Dev := modChain c headerMiss (raiseCauseMs (.frameCoach c) 8 (frameCount c 5 5 d))
def execHbMiss (c : Coach) : State → Host.Outcome State Fault Refusal :=
  lift fun d => guard (!asleep d && (frameRx d c).align != .off) (hbMiss c) d
/-- FRAME_HUNT_TIMEOUT: HUNT for 2 ms sends a LOCKED coach back to CW_HUNT. -/
def execFrameHuntTimeout (c : Coach) : State → Host.Outcome State Fault Refusal :=
  lift fun d => guard (!asleep d && isLocked d c && (frameRx d c).align == .hunt)
    (fun d => settleRx (engineOf c) (leaveState c .cwHunt d)) d
/-- CHG_APPLIED: the codeword announced is the next to be delivered; the receiver takes the new H from it. DEDUCED: H_CHANGE of R116
is raised with it. -/
def chgApplied (c s : Nat) (d : Dev) : Dev :=
  let x := coachRx d c
  let h := needH (engTx d (engineOf c)).rate x.profile s
  raiseCause (.frameCoach c) 5 (raiseCause (.coachRx c) 7 <| setFrameRx c { frameRx d c with chgApplied := true }
    (cutRxSlots c s x.slotsNow (setCoachRx c { x with slotsNow := s, hNow := h, hChange := true }) d))
def execChgApplied (c : Coach) : State → Host.Outcome State Fault Refusal :=
  lift fun d =>
    match (frameRx d c).chg with
    | some (s, _, q) => guard (!asleep d && isLocked d c && !(frameRx d c).chgApplied && (coachRx d c).cwSeq == q) (chgApplied c s) d
    | none => d

end Sys2Proof.Machine
end

