-- ==== Sys2Proof/Machine/Demap.lean ====
section
/-! DEFINITION. Verdicts on received segments, and the de-mapper (R202, R232, R284, R288, R292 to R296, R334). -/

namespace Sys2Proof.Machine

/-! ## Verdicts (R288, R289, R295, R296) -/

/-- How a segment ends (R295): failed with the count that it adds to, or verified with its plaintext. -/
inductive SegVerdict
  | lost | erased | cipherReject | clearReject | noKey | mismatch | ok (plain : List Byte)
  deriving DecidableEq, Repr
/-- The key for a segment: from the slot its KEY_INDEX names, while I stays below the effective limit. -/
def rxKey (d : Dev) (c : Nat) (s : Segment) : Option KeySlot :=
  match rxSlot (cipherRx d c) s.header.keyIndex with
  | some k => if invocationOf s.header.version s.header.fc k.startFc s.g < slotLimit d k then some k else none
  | none => none
def openSegment (s : Segment) (k : KeySlot) : Option (List Byte) :=
  gcmOpen k.key (ivOf k.salt (invocationOf s.header.version s.header.fc k.startFc s.g)) (aadOf s.header s.g) s.body s.tag
def verdictOf (d : Dev) (c : Nat) (s : Segment) : SegVerdict :=
  let m := s.mode
  if s.lost then .lost
  else if 0 < s.erased then .erased
  else if s.header.cipher then
    if !m then .cipherReject
    else match rxKey d c s with
      | none => .noKey
      | some k => match openSegment s k with | some p => .ok p | none => .mismatch
  else if s.header.stat ≠ 3 ∧ m then .clearReject
  else if s.tag = clearTag s.body then .ok s.body else .mismatch
def SegVerdict.passed : SegVerdict → Bool
  | .ok _ => true
  | _ => false
/-- A failure that counts towards KEY_MISMATCH: TAG_FAIL_CLEAN or NO_KEY. -/
def cleanFail (v : SegVerdict) (s : Segment) : Bool := v = .noKey || (v = .mismatch && s.uncorr == 0)
/-- The counts of a verdict (R295, R296, R310, R313); a failure raises TAG_FAIL at most once per millisecond and enters the bins. -/
def countVerdict (c : Nat) (v : SegVerdict) (s : Segment) (d : Dev) : Dev :=
  let failed (d : Dev) : Dev :=
    coachBins c (binEvent 3 1) (raiseCauseMs (.cipherCoach c) 4 (laneCipherTally c 2 1 (cipherCount c 1 1 d)))
  match v with
  | .ok _ =>
    let d1 := laneCipherTally c 1 1 (cipherCount c 0 1 d)
    if 0 < s.uncorr then cipherCount c 8 1 d1 else d1
  | .lost => failed d
  | .erased => cipherCount c 7 1 (failed d)
  | .cipherReject => cipherCount c 6 1 (failed d)
  | .clearReject => cipherCount c 5 1 (failed d)
  | .noKey => laneCipherTally c 8 1 (cipherCount c 4 1 (failed d))
  | .mismatch =>
    let d1 := cipherCount c 2 1 (failed d)
    if s.uncorr = 0 then cipherCount c 3 1 d1 else d1
/-- USAGE_WARN of a receive key (R289), with a segment that does not fail (R296). -/
def warnRx (c : Nat) (s : Segment) (d : Dev) : Dev :=
  let x := cipherRx d c
  match (if s.header.cipher && s.mode then rxKey d c s else none) with
  | some k =>
    if warnDue d x.warn (invocationOf s.header.version s.header.fc k.startFc s.g) k then
      cipherAlarm c 1 (setCipherRx c (putRxSlot s.header.keyIndex (some { k with warned := true }) x) d)
    else d
  | none => d
/-- The framer's share of a verdict: the items of BEI (R160). -/
def beiItems (c : Nat) (ok : Bool) (s : Segment) (d : Dev) : Dev :=
  let x := frameRx d c
  let w := (if s.g = 0 then 0 else x.badWords) + s.uncorr + s.erased
  let f := (if s.g = 0 then 0 else x.failedSegs) + b2n (!ok)
  setFrameRx c { x with badWords := w, failedSegs := f, bei := if s.g = 3 && x.align == .sync then sat 15 (w + f) else x.bei } d
/-- All four segments verified under one slot: the other is emptied if its START_FC is earlier. -/
def retireKey (c : Nat) (h : Header) (d : Dev) : Dev :=
  let x := cipherRx d c
  match rxSlot x h.keyIndex, rxSlot x (1 - h.keyIndex) with
  | some k, some o =>
    let m := fcMod h.version
    if k.startFc % m ≠ o.startFc % m ∧ reached m k.startFc o.startFc then
      cipherCause c 6 (setCipherRx c (putRxSlot (1 - h.keyIndex) none x) d)
    else d
  | _, _ => d
/-- The block of a coach ends with its last verdict (R202), with KEY_MISMATCH judged once per unbroken run. -/
def endBlock (c : Nat) (h : Header) (d : Dev) : Dev :=
  let x := cipherRx d c
  let e := coachEntity d c
  let bad := b2n x.bad
  let run := if x.cleanFails = 4 then x.run + 1 else 0
  let on := b2n !(coachOff d c)
  let d1 := setCoachEntity c { e with blocks := e.blocks + 1, errored := e.errored + bad, ivFrames := e.ivFrames + on, ivErrored := e.ivErrored + on * bad } d
  let alarm := decide (x.mismatch ≤ run) && !(x.mismatched && decide (0 < x.run))
  let d2 := setCipherRx c { x with run := sat 1024 run, mismatched := decide (0 < run) && (x.mismatched || alarm) } d1
  let d3 := if alarm then cipherAlarm c 5 d2 else d2
  if h.cipher && x.okSegs == 4 then retireKey c h d3 else d3
/-- The segment goes to the de-mapper's frame. -/
def pushSegment (c : Nat) (s : Segment) (v : SegVerdict) (d : Dev) : Dev :=
  let o : SegmentOut :=
    { plain := match v with | .ok p => some p | _ => none, good := s.good, hold := v.passed && s.header.stat == 3 && !s.header.cipher }
  let put (f : DemapFrame) : DemapFrame := if f.fc = s.header.fc then { f with segments := f.segments ++ [o] } else f
  { d with slots := { d.slots with demap := tabMod (fun _ => []) d.slots.demap c (fun l => l.map put) } }
def judgeSegment (c : Nat) (s : Segment) (d : Dev) : Dev :=
  let v := verdictOf d c s
  let x := cipherRx d c
  let first := s.g == 0
  let bad := !v.passed || decide (0 < s.uncorr + s.erased)
  let d1 := setCipherRx c { x with
    segs := x.segs.drop 1, okSegs := (if first then 0 else x.okSegs) + b2n v.passed
    cleanFails := (if first then 0 else x.cleanFails) + b2n (cleanFail v s), bad := (!first && x.bad) || bad } d
  let d2 := pushSegment c s v (beiItems c v.passed s ((if v.passed then warnRx c s else id) (countVerdict c v s d1)))
  if s.g = 3 then endBlock c s.header d2 else d2
/-- SEGMENT_VERDICT: the oldest segment of the coach that waits for its verdict, which is segment `g` of its frame. -/
def segmentVerdict (c g : Nat) (d : Dev) : Dev :=
  match (cipherRx d c).segs with
  | s :: _ => if s.g = g then judgeSegment c s d else d
  | [] => d
def execSegmentVerdict (c : Coach) (g : Fin 4) : State → Host.Outcome State Fault Refusal :=
  lift fun d => guard (!asleep d) (segmentVerdict c g) d

/-! ## The de-mapper (R217 to R220, R232) -/

/-- Segment of a byte of the slot area, and the offset in its body. -/
def bodyOf (profile b : Nat) : Nat × Nat :=
  let n0 := bodyBytes profile 0
  if b < n0 then (0, b) else (1 + (b - n0) / bodyBytes profile 1, (b - n0) % bodyBytes profile 1)
def segAt (f : DemapFrame) (g : Nat) : SegmentOut := nth f.segments g { plain := none, good := [], hold := false }
/-- A word of the slot area; none in a failed segment or in a codeword that was not cleared. -/
def areaWord (f : DemapFrame) (w : Nat) : Option QWord :=
  let (g, o) := bodyOf f.profile (8 * w)
  let s := segAt f g
  match s.plain with
  | some p =>
    if nth s.good ((8 * o + (if g = 0 then 256 else 0)) / infoLength f.profile) false then some (BitVec.ofNat 64 (un p o 8)) else none
  | none => none
/-- What a leg frame holds: lost (`bad`: its justification word lay in a bad codeword or segment), nothing (a hold segment), or FILL_KIND, OFFSET
and words. -/
inductive LegFrame
  | lost (bad : Bool) | hold | run (kind offset : Nat) (words : List (Option QWord))
  deriving DecidableEq, Repr
/-- The words that carry data, by R220. -/
def dataWords (f : DemapFrame) (total count : Nat) : Nat → List Nat → List (Option QWord)
  | _, [] => []
  | i, w :: t => if carriesData total count i then areaWord f w :: dataWords f total count (i + 1) t else dataWords f total count (i + 1) t
def readLeg (f : DemapFrame) (slots : List Nat) : LegFrame :=
  match legWords f.profile f.slots slots with
  | [] => .lost false
  | j :: ps =>
    if (segAt f (bodyOf f.profile (8 * j)).1).hold then .hold
    else match areaWord f j with
      | none => .lost true
      | some w =>
        if jCheck w && jSlots w == slots.length then .run (jKind w) (jOffset w) (dataWords f ps.length (jCount w) 0 ps) else .lost false
/-- The reference coach of a tributary: the lowest-numbered that delivers it, for a twin tributary on its preferred path (R202). -/
def referenceCoach (d : Dev) (q : Nat) : Option Nat :=
  match twinOf d true q with
  | some w => (pathCoaches d w (twinRx d w).prefB).head?
  | none => (rxCoachesOf d q).head?
/-- A block of a tributary ends. -/
def tribBlock (c q : Nat) (d : Dev) : Dev :=
  if referenceCoach d q = some c then
    let x := rxQueue d q
    let e := queueEntity d q
    setQueueEntity q { e with blocks := e.blocks + 1, errored := e.errored + b2n x.errored } (setRxQueue q { x with errored := false } d)
  else d
/-- A RESYNC on a coach: the next run of each of its tributaries sets the offset (R233). -/
def restartRuns (c q : Nat) (d : Dev) : Dev :=
  match twinOf d true q with
  | some w =>
    let b := (twinCfg d w).engineB == engineOf c
    setTwinRx w (withPath (twinRx d w) b { pathOf (twinRx d w) b with expected := none, runs := [] }) d
  | none => setRxQueue q { rxQueue d q with expected := none, runs := [] } d
/-- A run goes to its queue, or to its path of a twin tributary. -/
def deliverRun (c q : Nat) (r : Run) (d : Dev) : Dev :=
  match twinOf d true q with
  | some w => runToPath w ((twinCfg d w).engineB == engineOf c) r d
  | none => runToQueue q r d
/-- A secure tributary's words from a coach in receive mode 0 are fill (R334). -/
def secured (d : Dev) (mode : Bool) (q : Nat) (ws : List (Option QWord)) : List (Option QWord) :=
  if secureQueue d q && !mode then ws.map (fun _ => none) else ws
/-- The present block of a tributary is errored. A twin tributary's merge takes its data from whichever path has it, so its blocks are errored by YLS
alone (R202). -/
def errBlock (q : Nat) (bad : Bool) (d : Dev) : Dev :=
  if bad && (twinOf d true q).isNone then setRxQueue q { rxQueue d q with errored := true } d else d
def takeLeg (c q : Nat) (mode : Bool) (l : LegFrame) (d : Dev) : Dev :=
  match l with
  | .hold => setRxQueue q { rxQueue d q with fillKind := 0 } d
  | .lost bad => queueCause q 8 (queueTally q 9 1 (queueCount q 1 5 1 (errBlock q bad d)))
  | .run kind offset words =>
    let ws := secured d mode q words
    let n := (ws.filter Option.isNone).length
    let d1 := errBlock q (words.any Option.isNone) (setRxQueue q { rxQueue d q with fillKind := kind, hunting := (rxQueue d q).hunting || kind != 0 } d)
    deliverRun c q { offset := offset, words := ws, at_ := nowNs d } (queueCount q 1 4 n d1)
/-- The first complete frame at the de-mapper that still has a leg with this lead slot. -/
def legWaiting (d : Dev) (c leg : Nat) : Option (DemapFrame × Nat × List Nat) :=
  (tabGet (fun _ => []) d.slots.demap c).findSome? (fun f =>
    if f.segments.length = 4 then (f.todo.find? (fun l => l.2.head? == some leg)).map (fun l => (f, l)) else none)
/-- The leg is taken; a frame without legs left is finished. -/
def dropLeg (c fc leg : Nat) (d : Dev) : Dev :=
  let cut (f : DemapFrame) : DemapFrame := if f.fc = fc then { f with todo := f.todo.filter (fun l => l.2.head? != some leg) } else f
  { d with slots := { d.slots with demap := tabMod (fun _ => []) d.slots.demap c (fun l => (l.map cut).filter (fun f => !f.todo.isEmpty)) } }
/-- LEG_FRAME_DEMAP. -/
def legFrameDemap (c leg : Nat) (d : Dev) : Dev :=
  match legWaiting d c leg with
  | some (f, q, slots) =>
    let d1 := if f.resync then restartRuns c q d else d
    tribBlock c q (takeLeg c q f.mode (readLeg f slots) (dropLeg c f.fc leg d1))
  | none => d
def execLegFrameDemap (c : Coach) (leg : SlotPos) : State → Host.Outcome State Fault Refusal :=
  lift fun d => guard (!asleep d) (legFrameDemap c leg) d

end Sys2Proof.Machine
end

