-- ==== Sys2Proof/Machine/Events.lean ====
section
/-! DEFINITION. The event concentrator: targets and fallback, claims, completions, software sets, moderation and delivery to
the host (chapter 16). -/

namespace Sys2Proof.Machine

/-- Priority stack of a core, top first. -/
def stackOf (d : Dev) (x : Nat) : List (Nat × Nat) := tabGet (fun _ => []) d.ec.claimStacks x
def setStack (x : Nat) (st : List (Nat × Nat)) (d : Dev) : Dev :=
  { d with ec := { d.ec with claimStacks := tabPut (fun _ => []) d.ec.claimStacks x st } }
/-- A priority lies above the current priority of a stack; with an empty stack every priority does. -/
def above (st : List (Nat × Nat)) (p : Nat) : Bool :=
  match st with
  | [] => true
  | (_, q) :: _ => decide (q < p)

/-- Where a source is delivered now: FALLBACK while its target core stands in power-down wait with SLEEP_ROUTE 0 (R474). While
MC0 to MC3 are in reset or booting there is no fallback (R479). -/
def routedTo (d : Dev) (s : Nat) : Nat :=
  let t := srcTarget d s
  if t < 4 && d.fw.state == .running && d.ec.corePdWait.getLsbD t && !bit (srcCfg d s) 10 then srcFallback d s else t
/-- The cores are held in reset or booting: events targeted at them stay pending (R31, R479). -/
def coresHeld (d : Dev) : Bool := d.fw.state != .running
/-- A pending, enabled source is eligible on target `t`: on a core, its priority lies above the core's current priority; on the
host, its vector is not unacknowledged (R469, R475, R476). -/
def eligibleOn (d : Dev) (t s : Nat) : Bool :=
  d.ec.pend.getLsbD s && srcEnable d s && routedTo d s == t &&
    (if t < 4 then !coresHeld d && above (stackOf d t) (srcPrio d s) else !d.ec.unack.getLsbD (srcVector d s))
/-- The sources from `from` on that satisfy `p`, lowest first, of `n`. -/
def sourcesWhere (p : Nat → Bool) : Nat → Nat → List Nat
  | _, 0 => []
  | i, n + 1 => if p i then i :: sourcesWhere p (i + 1) n else sourcesWhere p (i + 1) n
/-- Of a list in ascending order, the one of highest priority, the lowest number among equals (R471, R477). -/
def highest (d : Dev) : List Nat → Option Nat
  | [] => none
  | s :: t => match highest d t with
    | none => some s
    | some r => if srcPrio d s < srcPrio d r then some r else some s
def eligible (d : Dev) (t : Nat) : List Nat := sourcesWhere (eligibleOn d t) 0 2048

/-- The value EC_CLAIM and EC_HOST_CLAIM read with (R481, R482). -/
def claimValue (d : Dev) : Option Nat → Word
  | none => 0
  | some s => pack [(0, s), (12, srcPrio d s), (31, 1)]
/-- A core executes: it stands in no wait (R474, R475). -/
def coreAwake (x : Nat) (d : Dev) : Dev :=
  { d with ec := { d.ec with coreWait := d.ec.coreWait &&& ~~~ BitVec.twoPow 4 x, woken := d.ec.woken &&& ~~~ BitVec.twoPow 4 x } }
/-- A core's trap entry commits: its signal is used up (R469, R471). -/
def coreRuns (x : Nat) (d0 : Dev) : Dev :=
  let d := coreAwake x d0
  { d with ec := { d.ec with signalled := d.ec.signalled &&& ~~~ BitVec.twoPow 4 x, trapEntry := d.ec.trapEntry &&& ~~~ BitVec.twoPow 4 x } }
/-- The signal of a core starts its trap entry, which ends a clocked wait. -/
def signalCore (x : Nat) (d : Dev) : Dev :=
  { d with ec := { d.ec with signalled := d.ec.signalled ||| BitVec.twoPow 4 x, trapEntry := d.ec.trapEntry ||| BitVec.twoPow 4 x
                             coreWait := d.ec.coreWait &&& ~~~ BitVec.twoPow 4 x } }
/-- A claim on a target restarts its MOD_TIMER (R475). -/
def noteClaim (t : Nat) (d : Dev) : Dev :=
  { d with ec := { d.ec with claimAt := tabPut (fun _ => none) d.ec.claimAt t (some (elapsedNs d)) } }
/-- A core reads EC_CLAIM: the entry commit point (R471). -/
def claimCore (x : Nat) (d : Dev) : Dev :=
  let r := highest d (eligible d x)
  let d1 := noteClaim x (coreRuns x (setOut [claimValue d r] d))
  match r with
  | none => tally 7 4 x 1 d1
  | some s =>
    let d2 := clearPend s (setStack x ((s, srcPrio d s) :: stackOf d x) d1)
    tally 7 3 x 1 (if srcTarget d s = x then d2 else tally 7 7 x 1 d2)
/-- A core does not execute: the cores are held, CK_MGT is stopped, or the core is in power-down wait. -/
def coreStopped (d : Dev) (x : Nat) : Bool := coresHeld d || mgtStopped d || d.ec.corePdWait.getLsbD x
def execEcClaim (x : CoreId) : State → Host.Outcome State Fault Refusal :=
  lift fun d => if coreStopped d x then d else claimCore x d

/-- After a completion the core enters an eligible event at once, without restoring the interrupted context; only where none is eligible
does it restore it (R473). -/
def leaveHandler (x : Nat) (d : Dev) : Dev := if (eligible d x).isEmpty then d else tally 7 2 x 1 (signalCore x d)
/-- A completion: pops if it names the top, else a stack-order fault (R472, R474). -/
def completeCore (x s : Nat) (d : Dev) : Dev :=
  match stackOf d x with
  | (top, _) :: rest =>
    if top = s then leaveHandler x (setStack x rest d) else faultCore x d
  | [] => faultCore x d
where
  faultCore (x : Nat) (d : Dev) : Dev :=
    let d1 := { d with ec := { d.ec with faults := tabMod (fun _ => 0) d.ec.faults x (fun n => sat 0xFF (n + 1)) } }
    tally 7 5 x 1 (raise (0x308 + x) d1)
def execEcComplete (x : CoreId) (value : Word) : State → Host.Outcome State Fault Refusal :=
  lift fun d => if coreStopped d x then d else completeCore x (fld value 0 11) (coreAwake x d)

/-- Software sets a pending bit (R468). -/
def softSet (s : Nat) (d : Dev) : Dev := tally 7 1 (srcTarget d s) 1 (setPend s d)
def execEcSetpend (x : CoreId) (value : Word) : State → Host.Outcome State Fault Refusal :=
  lift fun d => if coreStopped d x then d else softSet (fld value 0 11) (coreAwake x d)
/-- For each set bit j of a word, apply `f` to 32 i + j. -/
def forBits (f : Nat → Act) (i : Nat) (v : Word) (d : Dev) : Dev :=
  (List.range 32).foldl (fun d j => if bit v j then f (32 * i + j) d else d) d
def execEcPend (i : Fin 64) (w : RegWrite) : State → Host.Outcome State Fault Refusal :=
  lift (regWrite 1 w (forBits softSet i))
/-- Pending sources of a vector: enabled, targeted at the host. DEDUCED: a source whose ENABLE is clear is not delivered and
so is no source of its vector. -/
def vectorSource (d : Dev) (v s : Nat) : Bool :=
  d.ec.pend.getLsbD s && srcEnable d s && routedTo d s == 4 && srcVector d s == v
/-- After anything that takes events from a target: a core without an eligible event is no longer signalled (R469), and no message is held for
a vector without a source (R436). -/
def settleSignals (d : Dev) : Dev :=
  let quiet (x : Nat) : Bool := d.ec.signalled.getLsbD x && (eligible d x).isEmpty
  let empty (v : Nat) : Bool := d.ec.msix.pending.getLsbD v && (sourcesWhere (vectorSource d v) 0 2048).isEmpty
  { d with ec := { d.ec with
      signalled := d.ec.signalled &&& ~~~ BitVec.ofNat 4 (bitsOf 4 quiet)
      msix := { d.ec.msix with pending := d.ec.msix.pending &&& ~~~ BitVec.ofNat 64 (bitsOf 64 empty) } } }
/-- The sources that the chapters assign: no other number is raised by hardware (R465). -/
def hardwareSource (s : Nat) : Bool :=
  [(0, 0x191), (0x1C0, 0x1D0), (0x1E0, 0x1E2), (0x200, 0x2A1), (0x2C0, 0x2C1), (0x2D0, 0x2E0), (0x2F0, 0x2F5), (0x300, 0x30C), (0x400, 0x7FF)].any
    (fun r => within r.1 r.2 s)
/-- EC_PEND_CLR: clears the bits written 1, except those a hardware raise reaches in the same CK_HUB cycle (R467). -/
def clearBits (i : Nat) (v : Word) (d : Dev) : Dev := settleSignals (forBits clearPend i v d)
def execEcPendClr (i : Fin 64) (w : RegWrite) (raisedNow : Word) : State → Host.Outcome State Fault Refusal :=
  lift fun d => forBits (fun s => if hardwareSource s then raise s else id) i raisedNow (regWrite 1 w (clearBits i) d)

/-- A host read of EC_HOST_CLAIM v (R477). -/
def hostClaim (v : Nat) (d : Dev) : Dev :=
  match highest d (sourcesWhere (vectorSource d v) 0 2048) with
  | none => tally 7 4 4 1 (noteClaim 4 d)
  | some s =>
    let d1 := settleSignals (clearPend s (noteClaim 4 d))
    tally 7 3 4 1 (if srcTarget d s = 4 then d1 else tally 7 7 4 1 d1)
def execEcHostClaim (r : RegRead) (v : Fin 64) : State → Host.Outcome State Fault Refusal :=
  lift (regRead 1 r (fun d => claimValue d (highest d (sourcesWhere (vectorSource d v) 0 2048))) (hostClaim v))
/-- The host acknowledges vectors: EC_HOST_UNACK_LO or _HI is W1C (R477). -/
def ackVectors (hi : Bool) (v : Word) (d : Dev) : Dev :=
  let m : BitVec 64 := (v.setWidth 64) <<< (if hi then 32 else 0)
  { d with ec := { d.ec with unack := d.ec.unack &&& ~~~ m } }
def execEcHostUnack (hi : Bool) (w : RegWrite) : State → Host.Outcome State Fault Refusal :=
  lift (regWrite 1 w (ackVectors hi))

/-- The value a write gives EC_SRC_CFG: reserved TARGET and FALLBACK values leave their field unchanged (R481, R550). -/
def srcCfgWritten (old v : Word) : Word :=
  pack [(0, fld v 0 4), (4, if fld v 4 3 ≤ 4 then fld v 4 3 else fld old 4 3),
        (7, if fld v 7 3 ≤ 4 then fld v 7 3 else fld old 7 3), (10, fld v 10 1), (11, fld v 11 1), (12, fld v 12 6)]
def writeSrcCfg (s : Nat) (v : Word) (d : Dev) : Dev :=
  settleSignals { d with ec := { d.ec with srcCfg := tabMod srcCfgReset d.ec.srcCfg s (srcCfgWritten · v) } }
def execEcSrcCfg (src : Fin 2048) (w : RegWrite) : State → Host.Outcome State Fault Refusal :=
  lift (regWrite 1 w (writeSrcCfg src))

/-! ## Moderation (R475, R476) -/

def modOf (d : Dev) (t : Nat) : Word := tabGet modReset d.ec.modr t
/-- The host or core is idle for moderation. -/
def targetIdle (d : Dev) (t : Nat) : Bool := if t < 4 then d.ec.coreWait.getLsbD t || d.ec.woken.getLsbD t else d.ec.unack == 0
/-- MOD_TIMER may have run out: its µs have passed since the last claim, which restarts it. That they have passed since the first eligible
event is a fact of the release. -/
def timerRan (d : Dev) (t : Nat) (f : ReleaseFacts) : Bool :=
  f.timerOut && (match tabGet (fun _ => none) d.ec.claimAt t with
    | some a => decide (a + 1000 * fld (modOf d t) 8 16 ≤ elapsedNs d)
    | none => true)
/-- A release condition of R475 holds for the eligible events `es`. A MOD_COUNT of 1 or a MOD_TIMER of 0 turns moderation off. -/
def releases (d : Dev) (t : Nat) (es : List Nat) (f : ReleaseFacts) : Bool :=
  let m := modOf d t
  !es.isEmpty && (targetIdle d t || fld m 0 8 ≤ 1 || fld m 8 16 == 0 || timerRan d t f || fld m 0 8 ≤ es.length
    || es.any (fun s => fld m 24 4 ≤ srcPrio d s))
/-- A release that moderation delayed: neither idle, nor urgent, nor with moderation off (DEDUCED: what R483 counts). -/
def releaseDelayed (d : Dev) (t : Nat) (es : List Nat) : Bool :=
  let m := modOf d t
  !(targetIdle d t || fld m 0 8 ≤ 1 || fld m 8 16 == 0 || es.any (fun s => fld m 24 4 ≤ srcPrio d s))
/-- The highest priority among the sources of a vector, plus 1; 0 where it has none. -/
def vectorRank (d : Dev) (es : List Nat) (v : Nat) : Nat :=
  es.foldl (fun m s => if srcVector d s = v then max m (srcPrio d s + 1) else m) 0
/-- A vector put before the first of lower rank. -/
def putVector (d : Dev) (es : List Nat) (v : Nat) : List Nat → List Nat
  | [] => [v]
  | w :: t => if vectorRank d es w < vectorRank d es v then v :: w :: t else w :: putVector d es v t
/-- The vectors with an eligible source, in order of their highest priority, the lower vector first among equals. -/
def vectorsToSend (d : Dev) (es : List Nat) : List Nat :=
  ((List.range 64).filter (fun v => 0 < vectorRank d es v)).foldl (fun l v => putVector d es v l) []
def msixEntry (d : Dev) (v : Nat) : MsixEntry := tabGet (fun _ => {}) d.ec.msix.table v
/-- The message of a vector is held: MSI-X is disabled, or the function or the vector is masked. -/
def msixHeld (d : Dev) (v : Nat) : Bool := !d.ec.msix.enable || d.ec.msix.functionMask || (msixEntry d v).masked
def vectorSet (vs : List Nat) : BitVec 64 := vs.foldl (fun u v => u ||| BitVec.twoPow 64 v) 0
/-- One MSI-X message for each vector leaves the device: its bit of EC_HOST_UNACK sets (R476, R477). -/
def sendMessages (vs : List Nat) (d : Dev) : Dev :=
  tally 7 6 4 vs.length { d with ec := { d.ec with
    unack := d.ec.unack ||| vectorSet vs, msix := { d.ec.msix with pending := d.ec.msix.pending &&& ~~~ vectorSet vs }
    messages := vs.map (fun v => (v, (msixEntry d v).address, (msixEntry d v).data)) } }
/-- The host is released: the messages of the vectors with an eligible source go, but those that are held, which the pending-bit array records. -/
def sendVectors (es : List Nat) (d : Dev) : Dev :=
  let vs := vectorsToSend d es
  let e := { d with ec := { d.ec with msix := { d.ec.msix with pending := d.ec.msix.pending ||| vectorSet (vs.filter (msixHeld d)) } } }
  sendMessages (vs.filter (fun v => !msixHeld d v)) e
/-- A mask has changed: messages that no mask holds any more leave (R476). -/
def releaseHeld (d : Dev) : Dev :=
  let vs := (vectorsToSend d (eligible d 4)).filter (fun v => d.ec.msix.pending.getLsbD v && !msixHeld d v)
  if d.ec.msix.pending = 0 || vs.isEmpty then d else sendMessages vs d
/-- A target is released by moderation: a core is signalled, the host's messages go. -/
def releaseTarget (t : Nat) (f : ReleaseFacts) (d : Dev) : Dev :=
  let es := eligible d t
  if releases d t es f && !(decide (t < 4) && d.ec.signalled.getLsbD t) then
    let d1 := tally 7 2 t 1 (if releaseDelayed d t es then tally 7 8 t 1 d else d)
    if t < 4 then signalCore t d1 else sendVectors es d1
  else d
/-- A core in power-down wait with an eligible event is woken; under SLEEP_ROUTE 1 it counts as idle (R474). -/
def wakeCore (x : Nat) (d : Dev) : Dev :=
  let es := eligible d x
  if d.ec.corePdWait.getLsbD x && !es.isEmpty then
    { d with ec := { d.ec with
        corePdWait := d.ec.corePdWait &&& ~~~ BitVec.twoPow 4 x
        woken := if es.any (fun s => srcTarget d s == x && bit (srcCfg d s) 10) then d.ec.woken ||| BitVec.twoPow 4 x else d.ec.woken } }
  else d
/-- Whether a core stands in its clocked wait (R475, R481). DESIGN CHOICE: no command says when a core enters that wait, so the release carries it. -/
def noteWait (x : Nat) (waits : Bool) (d : Dev) : Dev :=
  { d with ec := { d.ec with coreWait := if waits then d.ec.coreWait ||| BitVec.twoPow 4 x else d.ec.coreWait &&& ~~~ BitVec.twoPow 4 x } }
/-- MODERATION_RELEASE: nothing while the cores' clock or, for the host, CK_HUB is stopped (R480). -/
def execModerationRelease (t : Fin 5) (f : ReleaseFacts) : State → Host.Outcome State Fault Refusal :=
  lift fun d =>
    if t.val = 4 then guard (!blockDown d 1) (releaseTarget t f) d
    else guard (!mgtStopped d) (fun d => releaseTarget t f (noteWait t f.coreWaits (wakeCore t d))) d

/-! ## The MSI-X table (R436, R476) -/

/-- The function's identifiers as configuration space holds them: vendor and device ID, revision ID and class code (R436). -/
def pcieConfigWord (offset : Nat) : Word :=
  if offset = 0 then 0x51201F6D else if offset = 8 then BitVec.ofNat 32 (0x0B4000 * 256 + Config.stepping.toNat) else 0
/-- BAR2: 64 table entries of 16 bytes; the pending-bit array is read only. A message address is a multiple of 4. -/
def writeTable (offset : Nat) (v : Word) (d : Dev) : Dev :=
  let i := offset / 16
  let e := msixEntry d i
  let put (e : MsixEntry) : Dev := { d with ec := { d.ec with msix := { d.ec.msix with table := tabPut (fun _ => {}) d.ec.msix.table i e } } }
  if 64 ≤ i || offset % 4 ≠ 0 then d
  else if offset % 16 = 0 then put { e with address := BitVec.ofNat 64 (e.address.toNat / 2 ^ 32 * 2 ^ 32 + v.toNat / 4 * 4) }
  else if offset % 16 = 4 then put { e with address := BitVec.ofNat 64 (e.address.toNat % 2 ^ 32 + v.toNat * 2 ^ 32) }
  else if offset % 16 = 8 then put { e with data := v }
  else releaseHeld (put { e with masked := bit v 0 })
/-- Message Control: MSI-X Enable and Function Mask. -/
def writeMsixControl (v : Word) (d : Dev) : Dev :=
  releaseHeld { d with ec := { d.ec with msix := { d.ec.msix with enable := bit v 15, functionMask := bit v 14 } } }
/-- A write of the MSI-X structures, which the host reaches over PCIe alone. -/
def writeMsix (f : Word → Act) (w : RegWrite) : Act := fun d => guard (w.who == .pcie && reaches .pcie d && w.enables == 0xF) (f w.value) d

/-! ## Restart and power (R479, R480) -/

/-- Core claimStacks are emptied. -/
def emptyStacks (d : Dev) : Dev :=
  { d with ec := { d.ec with claimStacks := [], coreWait := 0, corePdWait := 0, woken := 0, signalled := 0, trapEntry := 0 } }
/-- At a firmware restart each source on a stack is set pending again. -/
def restartStacks (d : Dev) : Dev :=
  emptyStacks ((d.ec.claimStacks.flatMap (·.2)).foldl (fun d e => setPend e.1 d) d)

end Sys2Proof.Machine
end

