-- ==== Sys2Proof/Machine/Power.lean ====
section
/-! DEFINITION. Power domains, operating points, surge and its credit, thermal warnings, and the power commands other than
PWR_STATE (R512, R522 to R529). -/

namespace Sys2Proof.Machine

def setPower (p : Power) (d : Dev) : Dev := { d with power := p }
def setPins (p : Pins) (d : Dev) : Dev := { d with pins := p }

/-! ## Power domains (R489, R512) -/

/-- The counts of an engine's entries in the snapshot pages, and its block counters' selections (R491). -/
def engineKeys (n : Nat) : List Nat :=
  (List.range 8).map (keyBlock (24 + n)) ++ (List.range 16).map (keyEngine n) ++ (coachesOf n).map (fun c => keyCoach c 0)
def engineSelects (n : Nat) : List Nat := (List.range 8).map (8 * (24 + n) + ·)
/-- The same of a client tile. -/
def tileLanes (m : Nat) : List Nat := (List.range 64).map (64 * m + ·)
def tileKeys (m : Nat) : List Nat :=
  (List.range 8).map (keyBlock (3 + m)) ++ (tileLanes m).flatMap (fun l => (List.range 9).map (keyLane l))
def tileSelects (m : Nat) : List Nat := (List.range 8).map (8 * (3 + m) + ·)
/-- An engine has transmit, receive or its Ixtas channel enabled. -/
def engineUsed (d : Dev) (n : Nat) : Bool :=
  (engTx d n).enable || (engRx d n).enable || (ixtasEngine d n).tx || (ixtasEngine d n).rx
/-- A lane of a client tile belongs to an enabled port or link. -/
def tileUsed (d : Dev) (m : Nat) : Bool :=
  (tileLanes m).any (fun l => match groupAt d l with | some f => (group d f).enable | none => false)
/-- A domain's state. -/
def domainOn (d : Dev) (kind i : Nat) : Bool := if kind = 0 then d.power.engineOn.getLsbD i else d.power.clientOn.getLsbD i
def setDomain (kind i : Nat) (on : Bool) (d : Dev) : Dev :=
  let p := d.power
  if kind = 0 then
    setPower { p with engineOn := if on then p.engineOn ||| BitVec.twoPow 16 i else p.engineOn &&& ~~~ BitVec.twoPow 16 i } d
  else setPower { p with clientOn := if on then p.clientOn ||| BitVec.twoPow 2 i else p.clientOn &&& ~~~ BitVec.twoPow 2 i } d
/-- The links with an end that has no clock or power hold nothing (R22). -/
def stopLinks (d : Dev) : Dev := (List.range 6).foldl (fun d l => if linkClocked d l then d else stopLink l d) d
/-- What the loss and the return of a domain's power do: counts, links, and a client tile's groups on return. A calibration keeps its
results (R504). -/
def switchDomain (kind i : Nat) (on : Bool) (d : Dev) : Dev :=
  let keys := if kind = 0 then engineKeys i else tileKeys i
  let sels := if kind = 0 then engineSelects i else tileSelects i
  let d1 := setDomain kind i on d
  if on then (if kind = 0 then restartCounts keys sels d1 else restartTile i (restartCounts keys sels d1))
  else stopLinks (dropCounts keys sels d1)
/-- PWR_DOMAIN: the switch begins. DESIGN CHOICE: a request for the state a domain is in or on its way to changes nothing. -/
def domainTarget (d : Dev) (kind i : Nat) : Bool :=
  match (d.pins.domainChanging.filter (fun e => e.1 == kind && e.2.1 == i)).getLast? with
  | some e => e.2.2
  | none => domainOn d kind i
def pwrDomainService : Service where
  opcode := 0x0A02
  checks d b :=
    [(!(within 0 1 (u8 b 0) && within 0 (if u8 b 0 = 0 then 15 else 1) (u8 b 1) && within 0 1 (u8 b 2)), outOfRange),
     (u8 b 2 == 0 && (if u8 b 0 = 0 then engineUsed d (u8 b 1) else tileUsed d (u8 b 1)), busy 57)]
  run _ b d := okay (if domainTarget d (u8 b 0) (u8 b 1) = (u8 b 2 == 1) then d
    else setPins { d.pins with domainChanging := d.pins.domainChanging ++ [(u8 b 0, u8 b 1, u8 b 2 == 1)] } d)
def execPwrDomain (mb : Mailbox) : State → Host.Outcome State Fault Refusal := lift (serve pwrDomainService mb)
/-- The oldest switch in progress completes. -/
def domainChange (d : Dev) : Dev :=
  match d.pins.domainChanging with
  | [] => d
  | (kind, i, on) :: t => raiseCause .power 9 (switchDomain kind i on (setPins { d.pins with domainChanging := t } d))
def execDomainChange : State → Host.Outcome State Fault Refusal := lift fun d => guard (!asleep d) domainChange d

/-! ## Operating points (R522, R523, R535) -/

/-- The code that a rail carries: VPOOL by point P0 to P3, VMGT by point M0 to M2. -/
def poolVid (p : Nat) : Nat := nth [1, 3, 4, 5] p 4
def mgtVid (p : Nat) : Nat := nth [2, 4, 5] p 5
/-- The point whose voltage is commanded on VPOOL and on VMGT. -/
def poolCommanded (d : Dev) : Nat := match d.power.poolRise with | some (p, _) => p | none => d.pool.rail
def mgtCommanded (d : Dev) : Nat := match d.power.mgtRise with | some (p, _) => p | none => d.power.mgtPoint
/-- A new VMGT point within MGT_MAX: a lower one at once, the clock first; a higher one after VID_SETTLE; one requested during a
transition follows it (R523). -/
def moveMgt (q : Nat) (d : Dev) : Dev :=
  if d.power.mgtRise.isSome then setPower { d.power with mgtNext := some q } d
  else if q ≤ d.power.mgtPoint then setPower { d.power with mgtPoint := q } d
  else setPower { d.power with mgtRise := some (q, elapsedNs d) } d
/-- Firmware requests a VMGT point (R522): above MGT_MAX it is carried out there and raises POINT_LIMIT. -/
def requestMgt (p : Nat) (d : Dev) : Dev :=
  moveMgt (min p d.power.mgtMax) (if d.power.mgtMax < p then raiseCause .power 10 d else d)
/-- The voltage commanded has had VID_SETTLE, 25 µs, to settle. -/
def riseSettled (d : Dev) (r : Option (Nat × Nat)) : Bool :=
  match r with
  | some (_, at_) => decide (at_ + 25000 ≤ elapsedNs d)
  | none => false
/-- VPOOL has settled: the pool's clock may rise at the next epoch boundary. -/
def settlePool (d : Dev) : Dev :=
  if riseSettled d d.power.poolRise then setPool { d.pool with rail := poolCommanded d } (setPower { d.power with poolRise := none } d) else d
/-- VMGT has settled: the clock rises, never above MGT_MAX; then a request made meanwhile. -/
def settleMgt (d : Dev) : Dev :=
  if riseSettled d d.power.mgtRise then
    let d1 := setPower { d.power with mgtRise := none, mgtNext := none, mgtPoint := min (mgtCommanded d) d.power.mgtMax } d
    match d.power.mgtNext with
    | some q => moveMgt (min q d1.power.mgtMax) d1
    | none => d1
  else d
/-- VID_SETTLE: each rail whose 25 µs have passed. -/
def vidSettle (d : Dev) : Dev := settleMgt (settlePool d)
def execVidSettle : State → Host.Outcome State Fault Refusal := lift fun d => guard (!asleep d) vidSettle d

/-! ## Surge (R524, R525) -/

/-- The governor orders a revocation: REVOKED, and the pool shows it. -/
def revokeSurge (d : Dev) : Dev := if d.power.surge = .granted then raiseCause .power 3 (setSurge .revoked d) else d
/-- SURGE_GRANT: every monitor reads below 100 °C, which the event says, and the other conditions hold: the grant, GRANTED, and the
higher voltage is commanded. -/
def surgeGrant (d : Dev) : Dev :=
  let d1 := raiseCause .power 2 (setSurge .granted (setPower { d.power with exhausted := false } d))
  orderRail 3 d1
def execSurgeGrant : State → Host.Outcome State Fault Refusal :=
  lift fun d => guard (!asleep d && !(d.power.state == .entering && decide (5 ≤ d.power.stage))
    && (d.power.surge == .requested || d.power.surge == .revoked) && mayGrant d) surgeGrant d
/-- Credit in fortieths of a millisecond; at most 20 s. -/
def creditUnits (d : Dev) : Nat := 40 * d.power.credit + d.power.creditPart
def setCredit (v : Nat) (d : Dev) : Dev :=
  let w := sat 800000 v
  let d1 := setPower { d.power with credit := w / 40, creditPart := w % 40 } d
  if w = 800000 && creditUnits d < 800000 then raiseCause .power 5 d1 else d1
/-- The credit of 100 µs (R525). -/
def creditStep (d : Dev) : Dev :=
  if d.pool.point = 3 then setCredit (creditUnits d - 4) d
  else if d.pins.estimate ≤ 780 then setCredit (creditUnits d + 1) d
  else d
/-- POWER_ESTIMATE: the estimates of this 100 µs, and whether every monitor reads below 97 °C. Above 900 W surge is revoked; a
request that cannot be granted is refused. -/
def powerEstimate (now atP3 : Nat) (below97 : Bool) (d : Dev) : Dev :=
  let d1 := creditStep (setPins { d.pins with estimate := now, estimateP3 := atP3, estimateAt := some (elapsedNs d) } (setPower { d.power with hot := d.power.hot && !below97 } d))
  let d2 := if 900 < now then revokeSurge d1 else d1
  if d2.power.surge = .requested && !mayGrant d2 then setSurge .revoked d2 else d2
/-- 100 µs have passed since the last estimate. -/
def estimateDue (d : Dev) : Bool :=
  match d.pins.estimateAt with
  | some t => decide (t + 100000 ≤ elapsedNs d)
  | none => true
def execPowerEstimate (now atP3 : Nat) (below97 : Bool) : State → Host.Outcome State Fault Refusal :=
  lift fun d => guard (!asleep d && estimateDue d) (powerEstimate now atP3 below97) d
/-- EXHAUSTED: credit has reached 0 under surge. -/
def surgeExhausted (d : Dev) : Dev :=
  revokeSurge (raiseCause .power 4 (setPower { d.power with exhausted := true } d))
def execExhausted : State → Host.Outcome State Fault Refusal :=
  lift fun d => guard (!asleep d && d.power.surge == .granted && creditUnits d == 0) surgeExhausted d
/-- SURGE_HOT: a monitor has reached 100 °C under surge. -/
def surgeHot (d : Dev) : Dev := revokeSurge (raiseCause .power 7 (setPower { d.power with hot := true } d))
def execSurgeHot (m : Fin 16) : State → Host.Outcome State Fault Refusal :=
  lift fun d => guard (!asleep d && d.power.surge == .granted) ((fun _ : Fin 16 => surgeHot) m) d

/-- THERMAL_WARN: a monitor has reached 95 °C from below; at most once per second for all monitors (R526). -/
def thermalWarn (d : Dev) : Dev :=
  match d.pins.lastWarn with
  | some t => if nowNs d < t + 1000000000 then d else raiseCause .power 6 (setPins { d.pins with lastWarn := some (nowNs d) } d)
  | none => raiseCause .power 6 (setPins { d.pins with lastWarn := some (nowNs d) } d)
def execThermalWarn (m : Fin 16) : State → Host.Outcome State Fault Refusal :=
  lift fun d => guard (d.power.state != .off) ((fun _ : Fin 16 => thermalWarn) m) d

/-! ## Registers and commands (R528, R529) -/

/-- PWR_STATUS.STATE; OFF answers nothing, its code is not in the manual. -/
def PwrState.code : PwrState → Nat
  | .run => 0 | .idle => 1 | .sleep => 2 | .deepSleep => 3 | .entering => 4 | .leaving => 5 | .off => 3
def pwrStatusWord (d : Dev) : Word :=
  pack [(0, d.power.state.code), (3, d.power.stage), (6, b2n d.power.tripLatched), (8, d.power.refuser), (16, d.power.wakeCause)]
def pwrDvfsWord (d : Dev) : Word :=
  pack [(0, d.pool.point), (2, d.power.mgtPoint), (4, b2n (d.power.poolRise.isSome || d.power.mgtRise.isSome || d.pool.rail != d.pool.point))]
def pwrSurgeWord (d : Dev) : Word := pack [(0, d.power.surge.code), (16, d.power.credit)]
def pwrDomainsWord (d : Dev) : Word := pack [(0, d.power.engineOn.toNat), (16, d.power.clientOn.toNat)]
/-- PWR_CONFIG. Lowering MGT_MAX below the point in force lowers the point at once; clearing SURGE_ENABLE revokes. -/
def powerConfig (b : List Byte) (d : Dev) : Dev :=
  let d1 := setPower { d.power with
    allowIdle := flag b 0 0, surgeEnable := flag b 0 1, mgtMax := u8 b 1, regrant := u16 b 2
    mgtPoint := min d.power.mgtPoint (u8 b 1) } d
  if flag b 0 1 then d1 else revokeSurge d1
def pwrConfigService : Service where
  opcode := 0x0A03
  freeze := .never
  checks _ b := [(!(within 0 2 (u8 b 1) && within 100 20000 (u16 b 2)), outOfRange)]
  run _ b d := okay (powerConfig b d)
def execPwrConfig (mb : Mailbox) : State → Host.Outcome State Fault Refusal := lift (serve pwrConfigService mb)
def pwrStatusBody (d : Dev) : List Byte :=
  zeros 4 ++ [pwrStatusWord d, pwrDvfsWord d, pwrSurgeWord d, pwrDomainsWord d, causeOf d .power].flatMap (fun w => le 4 w.toNat)
def pwrStatusService : Service where
  opcode := 0x0A04
  freeze := .never
  run _ b d := done (pwrStatusBody d) (clearCause .power (flag b 0 0) d)
def execPwrStatus (mb : Mailbox) : State → Host.Outcome State Fault Refusal := lift (serve pwrStatusService mb)

end Sys2Proof.Machine
end

