-- ==== Sys2Proof/Machine/Entry.lean ====
section
/-! DEFINITION. IDLE, wake sources, the staged entry to a power state, the thermal trip, and the return to RUN (R508 to R521,
R526). -/

namespace Sys2Proof.Machine

/-! ## IDLE (R511) -/

/-- All four cores are in power-down wait, which the event says; CK_MGT stops under the laser transfers (R464). -/
def idleEntry (d0 : Dev) : Dev :=
  let d := stopTransfers d0
  { d with ec := { d.ec with corePdWait := 0xF, coreWait := 0 }, power := { d.power with state := .idle } }
def execIdleEntry : State → Host.Outcome State Fault Refusal :=
  lift fun d => guard (d.power.state == .run && d.power.allowIdle && d.fw.state == .running) idleEntry d
/-- Core x has an eligible event: one of its own whose SLEEP_ROUTE is 1, or one that falls back on it (R474). -/
def wokenCore (d : Dev) (x : Nat) : Bool := !(eligible d x).isEmpty
def wokenCores (d : Dev) : BitVec 4 := BitVec.ofNat 4 (bitsOf 4 (wokenCore d))
/-- A request that firmware has not taken waits, or a core is woken. -/
def idleEnds (d : Dev) : Bool := wokenCores d != 0 || (firstPending d d.mail.order).isSome
/-- The cluster leaves IDLE. DEDUCED: by a doorbell every core leaves power-down wait, by events the cores that they wake alone, so that a
FALLBACK that is woken takes its event (R474). A core woken under SLEEP_ROUTE 1 is released at once. -/
def idleExit (d : Dev) : Dev :=
  let run := { d with power := { d.power with state := .run } }
  let d1 := (List.range 4).foldl (fun d x => wakeCore x d) run
  let d2 := (List.range 4).foldl (fun d x => if d.ec.woken.getLsbD x then releaseTarget x { timerOut := false, coreWaits := false } d else d) d1
  takeRefused (if (firstPending d d.mail.order).isSome then { d2 with ec := { d2.ec with corePdWait := 0 } } else d2)
def execIdleExit : State → Host.Outcome State Fault Refusal :=
  lift fun d => guard (d.power.state == .idle && idleEnds d) idleExit d

/-! ## Wake sources (R513, R517) -/

/-- A source fires: during an entry that can be abandoned it is recorded; in SLEEP or DEEP SLEEP it begins the return to RUN. After
a thermal trip it is ignored until every monitor reads below 90 °C (R526): a free value says whether they do. -/
def wakeFires (i : Nat) (d : Dev) : Dev :=
  match d.power.state with
  | .entering =>
    if d.pins.tripEntry || d.pins.wakeSeen then d
    else setPins { d.pins with wakeSeen := true } (setPower { d.power with wakeCause := i } d)
  | .sleep | .deepSleep =>
    if d.pins.tripEntry then
      let (v, d1) := drawFree d
      if v.getLsbD 0 then setPower { d1.power with state := .leaving, wakeCause := i } d1 else d1
    else setPower { d.power with state := .leaving, wakeCause := i } d
  | .off | .run | .idle | .leaving => d
/-- The same for a source that its bit of PWR_WAKE_EN enables. -/
def wakeSource (i : Nat) (d : Dev) : Dev := if d.power.wakeEn.getLsbD i then wakeFires i d else d
/-- A rise of WAKE. In OFF it acts whatever its enable bit: the device leaves OFF through a power-on reset (R509). -/
def execWakePin : State → Host.Outcome State Fault Refusal :=
  lift fun d => if d.power.state = .off then setPins { d.pins with wakeSeen := true } d else wakeSource 0 d
def execSmpMatch : State → Host.Outcome State Fault Refusal := lift (wakeSource 1)
/-- The detector of engine n has received four consecutive repetitions on a tone, each within 4 bit errors of the pattern (R381):
WAKE_SEEN on source 0x2A0 in every state except OFF. -/
def wakePattern (n : Nat) (d : Dev) : Dev :=
  let d1 := raise 0x2A0 (ixtasTally n 11 (ixtasCause n 1 d))
  if d1.power.engineMask.getLsbD n then wakeSource 2 d1 else d1
def execWakeSeen (n : Engine) (tone : Fin 16) (words : Vector (BitVec 64) 4) : State → Host.Outcome State Fault Refusal :=
  lift fun d => guard (d.power.state != .off && words.toList.all (fun v => decide (bitErrors v wakeWord ≤ 4)))
    ((fun _ : Fin 16 => wakePattern n) tone) d
/-- Light has stayed above the threshold for 100 µs. -/
def execLight (n : Engine) : State → Host.Outcome State Fault Refusal :=
  lift fun d => guard (d.power.engineMask.getLsbD n) (wakeSource 3) d
/-- Signal on the pair of a lane that was in an enabled port or link at entry; not in DEEP SLEEP. -/
def execClientSignal (l : Lane) : State → Host.Outcome State Fault Refusal :=
  lift fun d => guard (d.pins.lanesBefore.getLsbD l && d.power.state != .deepSleep) (wakeSource 4) d
/-- WAKE_TIMER seconds since the commit; 0 never fires. -/
def execWakeTimer : State → Host.Outcome State Fault Refusal :=
  lift fun d => guard ((d.power.state == .sleep || d.power.state == .deepSleep) && d.power.wakeTimer != 0) (wakeSource 5) d

/-! ## HBM contents (R236, R358, R423, R510) -/

/-- A queue with its contents and stream word numbers gone. -/
def emptyTx (x : TxQueue) : TxQueue := { cfg := x.cfg, bpTime := x.bpTime }
def emptyRx (x : RxQueue) : RxQueue := { cfg := x.cfg, bpTime := x.bpTime }
/-- A transmit queue loses its contents; a twin tributary's stream goes with its queue. -/
def loseTxQueue (q : Nat) (d : Dev) : Dev :=
  d.twins.cfg.foldl (fun d e => if e.2.tx && e.2.queue == q then setTwinTx e.1 {} d else d) (setTxQueue q (emptyTx (txQueue d q)) d)
/-- HBM contents are lost: the fill map, every twin receive side, the global SPILL_ENABLE and the words in spill; a queue that held
some loses its other contents too (R236). -/
def loseHbm (d : Dev) : Dev :=
  let d1 := loseYard (loseFill d)
  let d2 := (d1.slots.tx.map (·.1)).foldl (fun d q => if (txQueue d q).spill.isEmpty then d else loseTxQueue q d) d1
  { d2 with slots := { d2.slots with
      spillEnable := false
      rx := tabMap (fun _ => {}) (fun _ x => if x.spill.isEmpty then x else emptyRx x) d2.slots.rx } }

/-! ## The stages of an entry (R514) -/

def allEngines : List Nat := List.range 16
/-- Every engine is muted through HOST_MUTE. -/
def hostMuteAll (d : Dev) : Dev :=
  allEngines.foldl (fun d n => muteSource n 1 (setEngTx n { engTx d n with hostMute := true } d))
    (setPins { d.pins with muteBefore := BitVec.ofNat 16 (bitsOf 16 (fun n => (engTx d n).hostMute)) } d)
/-- Each engine's own HOST_MUTE is restored. -/
def hostMuteBack (d : Dev) : Dev :=
  allEngines.foldl (fun d n =>
    if d.pins.muteBefore.getLsbD n then d else unmuteSource n 1 (setEngTx n { engTx d n with hostMute := false } d)) d
/-- A bias output at 0 V for DEEP SLEEP or OFF: it enters its mode anew when it resumes. -/
def biasZero (x : BiasOutput) : BiasOutput :=
  if x.state = .off then x
  else { x with mv := 0, state := .held, resume := match x.mode with | .lock => .sweep | .hold => .held | .manual => .manual }
def allBias (f : Nat → BiasOutput → BiasOutput) (d : Dev) : Dev := allEngines.foldl (fun d n => mapBias n f d) d
/-- Bias outputs that an entry held resume. -/
def biasResume (d : Dev) (b : Nat) (x : BiasOutput) : BiasOutput :=
  if x.state = .held && x.resume = .manual then enterMode (biasLow d b) (biasHigh d b) x
  else if (engTx d (b / 6)).state = .muted then x else resumeLock x
/-- Every enabled port and link goes to OFF. -/
def stopLanes (d : Dev) : Dev :=
  (List.range 128).foldl (fun d f => if (group d f).protocol ≠ 0 ∧ (group d f).enable then stopGroup f d else d) d
def startLanes (d : Dev) : Dev := [0, 1].foldl (fun d m => if d.power.clientOn.getLsbD m then restartTile m d else d) d
/-- The target loses HBM contents and bias voltages. -/
def deepTarget (d : Dev) : Bool := d.pins.target != .sleep
/-- The work of a stage, at its start. -/
def startStage (k : Nat) (d : Dev) : Dev :=
  let d1 := setPower { d.power with stage := k } d
  match k with
  | 3 => let d2 := ixtasSleeps (hostMuteAll d1); if deepTarget d then allBias (fun _ => biasZero) d2 else d2
  | 4 => stopLinks (pcieDown (stopLanes d1))
  | 5 => setSurge .none (moveMgt 0 d1)
  | _ => d1
/-- A free request of firmware for the VMGT point (R522). -/
def freeMgt (d : Dev) : Dev := let (v, d1) := drawFree d; requestMgt (v.toNat % 3) d1
/-- The blocks stopped so far restart in the reverse order of their stages, and firmware takes requests again (R516). -/
def restartBlocks (d0 : Dev) : Dev :=
  let k := d0.power.stage
  let d := setPower { d0.power with state := .run } d0
  let d1 := if 5 ≤ k then freeMgt d else d
  let d2 := if 4 ≤ k then startLanes d1 else d1
  let d3 := if 3 ≤ k then let e := hostMuteBack d2; allEngines.foldl (fun d n => settleEngine n d) (allBias (biasResume e) e) else d2
  startWaiting (setPins { d3.pins with wakeSeen := false, entryMailbox := none } d3)
/-- The answer of PWR_STATE after REASON: ABANDON_STAGE, REFUSER, WAKE_CAUSE. -/
def entryBody (stage : Nat) (d : Dev) : List Byte :=
  zeros 4 ++ le 1 stage ++ le 1 d.power.refuser ++ le 1 d.power.wakeCause ++ [0]
def answerEntry (st : Status) (stage : Nat) (d : Dev) : Dev :=
  match d.pins.entryMailbox with
  | some mb => post mb { status := st, body := entryBody stage d } d
  | none => d
/-- An entry is abandoned at the abort point of its stage. -/
def abandonEntry (refuser : Nat) (d : Dev) : Dev :=
  let d1 := setPower { d.power with refuser := refuser } d
  takeRefused (restartBlocks (raiseCause .power 1 (answerEntry .sleepRefused d1.power.stage d1)))

/-- Keys and job contexts are lost while CK_HUB is stopped (R298). -/
def loseKeys (d : Dev) : Dev :=
  { d with cipher := { d.cipher with
      tx := tabMap (fun _ => {}) (fun _ x => { x with slot0 := none, slot1 := none, current := none }) d.cipher.tx
      rx := tabMap (fun _ => {}) (fun _ x => { x with slot0 := none, slot1 := none, segs := [], okSegs := 0, cleanFails := 0 }) d.cipher.rx
      contexts := [], jobs := [], running := none } }
/-- A coach's frames stop: a configuration that waits for a frame boundary takes effect, an armed swap's page is taken. -/
def stopFrames (c : Nat) (d : Dev) : Dev :=
  let x := coachTx d c
  if !x.framesRun then setCoachTx c { x with starts := false } d
  else switchCoach c (dropCuts c (takeWaitingCfg c x.atBoundary (setCoachTx c { x with framesRun := false } d)))
/-- Stage 5 has brought VPOOL and VMGT to P0 and M0 (R514): a change that was not complete is so as the clocks stop. -/
def restPoint (d : Dev) : Dev :=
  let d1 := setPool { d.pool with point := 0, rail := 0 } (setPower { d.power with poolRise := none, mgtPoint := 0, mgtRise := none, mgtNext := none } d)
  if d.pool.point = 0 then d1 else raiseCause .pool 1 d1
/-- Codewords in the pool are discarded (R150). -/
def emptyPool (d : Dev) : Dev := setPool { d.pool with cws := [] } d
/-- The pool stops. -/
def stopPool (d : Dev) : Dev := let d1 := restPoint (emptyPool d); setPool { d1.pool with epochOn := false } d1
/-- The words of a target of MEM_DIAG are lost in the low-power state: HBM in DEEP SLEEP and OFF, of the SRAM all but the firmware bank, the depot banks
and the maps that are retained; in OFF all (R510, R519). -/
def targetLost (d : Dev) (depotLost : Bool) (t : Nat) : Bool :=
  d.pins.target == .off || (if 8 ≤ t then deepTarget d else match t with | 0 => depotLost | 3 => false | 4 => !d.power.connRetain | _ => true)
/-- Memory contents are lost. Which depot bank the depot's test words lie in is not in the manual: with some retained and some not, a free value. -/
def loseMemory (d : Dev) : Dev :=
  let (v, d1) := drawFree d
  let depotLost := d.power.retDepot != BitVec.allOnes 64 && (d.power.retDepot == 0 || v.getLsbD 0)
  let d2 := loseTestWords (targetLost d depotLost) d1
  { d2 with mem := { d2.mem with
      sramLosses := d2.mem.sramLosses + 1, hbmLosses := d2.mem.hbmLosses + b2n (deepTarget d) } }
/-- The clocks of R508 stop: what their blocks held is lost. -/
def stopClocks (d : Dev) : Dev :=
  let d1 := (List.range 256).foldl (fun d c => stopFrames c d) (stopPool (loseKeys (emptyStacks (loseMemory d))))
  if deepTarget d then loseHbm d1 else d1
/-- The entry commits: the answer OK, the clocks stop, SLEEPING rises, DEVTIME is recorded (R26, R514). -/
def commitEntry (d : Dev) : Dev :=
  let d1 := stopClocks (answerEntry .ok 0 d)
  let d2 := setPins { d1.pins with sleeping := true, entryMailbox := none, wakeSeen := false } (setPower { d1.power with state := d.pins.target } d1)
  raiseCause .power 0 { d2 with clock := { d2.clock with recorded := d2.clock.frac } }

/-- The refusal that the state of the device makes at the end of a stage. -/
def stageRefusal (d : Dev) : Option Nat :=
  if d.pins.tripEntry then none
  else match d.power.stage with
    | 1 =>
      if allEngines.any (fun n => (engineSwap d n).armed.isSome) || (List.range 256).any (fun c => (coachSwap d c).armed.isSome) then some 1
      else if d.mem.fill.isSome then some 5 else none
    | 4 =>
      if !d.pins.force && deepTarget d && (d.twins.cfg.any (fun e => e.2.rx) || d.slots.tx.any (fun e => !e.2.spill.isEmpty)
          || d.slots.rx.any (fun e => !e.2.spill.isEmpty)) then some 5 else none
    | _ => none
/-- The block that may refuse a stage for a reason of its own: a retention bank, a bias output, self-refresh, the hand-over. -/
def mayRefuse (d : Dev) : Option Nat :=
  match d.power.stage with | 2 => some 1 | 3 => some 6 | 4 => if deepTarget d then none else some 5 | 5 => some 4 | _ => none
/-- An abort point (R514 to R517). -/
def abortPoint (refuser : Option Nat) (d : Dev) : Dev :=
  match (stageRefusal d).or refuser with
  | some r => abandonEntry r d
  | none =>
    if d.pins.wakeSeen && !d.pins.tripEntry then abandonEntry 0xFF d
    else if d.power.stage < 5 then startStage (d.power.stage + 1) d
    else commitEntry d
/-- Firmware carries an entry out, hardware that of a thermal trip, which no block refuses. -/
def atAbortPoint (d : Dev) (refuser : Option Nat) : Bool :=
  d.power.state == .entering &&
    (if d.pins.tripEntry then refuser == none else d.fw.state == .running && (refuser == none || refuser == mayRefuse d))
def execAbortPoint (refuser : Option (Fin 256)) : State → Host.Outcome State Fault Refusal :=
  lift fun d => guard (atAbortPoint d (refuser.map (·.val))) (abortPoint (refuser.map (·.val))) d

def pwrTarget (t : Nat) : PwrState := if t = 2 then .sleep else if t = 3 then .deepSleep else .off
def beginEntry (mb : Nat) (b : List Byte) (d : Dev) : Dev :=
  let used := BitVec.ofNat 128 (bitsOf 128 (fun l => match groupAt d l with | some f => (group d f).enable | none => false))
  setPins { d.pins with target := pwrTarget (u8 b 0), force := flag b 1 0, entryMailbox := some mb, tripEntry := false
                        wakeSeen := false, lanesBefore := used } (setPower { d.power with state := .entering, stage := 1 } d)
/-- The PWR_STATE requests that stand next in doorbell order behind the one taken. -/
def secondEntries (mb : Nat) (d : Dev) : List Nat :=
  (d.mail.order.filter (fun m => m != mb && !(box d m).waiting)).takeWhile (fun m => (box d m).verdict == none && reqOpcode (box d m) == 0x0A01)
/-- PWR_STATE (R514, R515): stage 1 begins. Firmware takes no request doorbelled during the entry (R518). DESIGN CHOICE: the PWR_STATE requests
that stood doorbelled next behind this one are taken as stage 1 begins, and are refused with BUSY. -/
def pwrStateService : Service where
  opcode := 0x0A01
  checks d b := [(d.power.state == .entering, { status := .busy }), (!within 2 4 (u8 b 0), outOfRange)]
  run mb b d := ((secondEntries mb d).foldl (fun d m => refuse (fullSize 0x0A01 (reqBody (box d m))) m { status := .busy } d) (beginEntry mb b d), none)
def execPwrState (mb : Mailbox) : State → Host.Outcome State Fault Refusal := lift (serve pwrStateService mb)

/-! ## The thermal trip (R526) -/

/-- The trip takes over an entry by PWR_STATE, which is answered SLEEP_REFUSED. -/
def takeOver (d : Dev) : Dev :=
  match d.pins.entryMailbox with
  | some _ =>
    let d1 := setPower { d.power with refuser := 0xFD } d
    raiseCause .power 1 (answerEntry .sleepRefused d1.power.stage d1)
  | none => d
/-- Hardware enters SLEEP from stage 2 on, or from the stage an entry has reached. -/
def tripSleep (d : Dev) : Dev :=
  let fresh := d.power.state != .entering
  let d1 := takeOver d
  let lanes := BitVec.ofNat 128 (bitsOf 128 (fun l => match groupAt d l with | some f => (group d f).enable | none => false))
  setPins { d1.pins with target := .sleep, tripEntry := true, entryMailbox := none, wakeSeen := false
                         lanesBefore := if fresh then lanes else d1.pins.lanesBefore }
    (setPower { d1.power with state := .entering, stage := if fresh then 2 else max 2 d1.power.stage } d1)
/-- The trip. A device on its way back to RUN returns to SLEEP, before any clock has run again (DEDUCED); one that sleeps ignores wakes until cool. -/
def thermalTrip (d : Dev) : Dev :=
  let d1 := raiseCause .power 8 (muteAll allEngines 3 (setPower { d.power with tripLatched := true } d))
  match d.power.state with
  | .run | .idle | .entering => emptyPool (tripSleep d1)
  | .leaving => setPins { d1.pins with tripEntry := true } (setPower { d1.power with state := .sleep } d1)
  | .sleep | .deepSleep => setPins { d1.pins with tripEntry := true } d1
  | .off => d1
def execThermalTrip (m : Fin 16) : State → Host.Outcome State Fault Refusal :=
  lift fun d => guard (d.power.state != .off) ((fun _ : Fin 16 => thermalTrip) m) d
/-- The host clears TRIP_LATCHED; ALARM_N is released. -/
def clearTrip (v : Word) (d : Dev) : Dev := if bit v 6 then setPower { d.power with tripLatched := false } d else d
def execTripLatchedClear (w : RegWrite) : State → Host.Outcome State Fault Refusal := lift (hostWrite 0xFF w clearTrip)
/-- ALARM_N is low while TRIP_LATCHED is set. -/
def alarmLow (d : Dev) : Bool := d.power.tripLatched

/-! ## Return to RUN (R26, R520, R521) -/

/-- DEVTIME after `ns` of CK_AON, rounded up to the next nanosecond; DEVTIME_COARSE. DESIGN CHOICE: a phase slew in progress at the entry is
dropped; R26, R412 and R417 do not say. -/
def resumeClock (ns : Nat) (d : Dev) : Dev :=
  let f := ceilDiv (d.clock.recorded + ns * unitsPerNs) unitsPerNs * unitsPerNs
  applyFreeze { d with clock := { d.clock with frac := f, coarse := true, slew := 0, plain := d.clock.plain + (f - d.clock.recorded) } }
/-- The timing block starts in FREERUN with an empty ring, every enabled reference in WAIT (R417). DEDUCED: ACTIVE_REF is kept, since 0x1F
says that none was selected since reset; the clock starts at the XO; LOOP_OPEN, where it stands set, takes FREERUN to STEERED (R405). -/
def resumeTiming (d : Dev) : Dev :=
  let d1 := setTState .freerun d
  let d2 := { d1 with
    time := { d1.time with
      applied := 0, slewPart := 0, ring := [], differing := [], lastEdge := none, ppsValid := false, waiting := []
      refs := tabMap (fun _ => {}) (fun _ x => if x.q = .disabled then x
        else { x with q := .wait, history := [], drift := none, driftOver := 0, softWarn := false, okSince := none }) d1.time.refs }
    timeCfg := { d1.timeCfg with pairs := [] } }
  if d2.time.loopOpen then setTState .steered d2 else d2
/-- Transmit: the trip's mute and the entry's HOST_MUTE end; enabled engines pass through BIAS_ACQ, from held values after SLEEP. -/
def resumeBias (deep : Bool) (lo hi : Nat) (x : BiasOutput) : BiasOutput :=
  if x.state = .off then x
  else if deep then enterMode lo hi { x with mv := 0 }
  else match x.mode with
    | .lock => if x.lockPoint.isSome then { x with state := .locking } else { x with state := .sweep }
    | .hold => { x with state := .held }
    | .manual => enterMode lo hi x
def resumeEngine (deep : Bool) (n : Nat) (d : Dev) : Dev :=
  let e := engTx d n
  if e.state = .disabled then d
  else
    let d1 := mapBias n (fun b x => resumeBias deep (biasLow d b) (biasHigh d b) x) (setEngTx n { e with state := .biasAcq, gateOpen := false } d)
    settleEngine n (if e.laserLow then waitForLaser n (setEngTx n { engTx d1 n with state := .laserLow } d1) else d1)
def resumeTransmit (deep : Bool) (d : Dev) : Dev :=
  allEngines.foldl (fun d n => resumeEngine deep n d) (unmuteAll allEngines 3 (hostMuteBack d))
/-- Receive: every enabled coach waits for light, its framer hunts; equaliser states are kept in SLEEP alone. DEDUCED. -/
def resumeReceive (deep : Bool) (d : Dev) : Dev :=
  let d1 := (List.range 256).foldl (fun d c => frameStops c d) (allEngines.foldl (fun d n => loseEngine n d) d)
  { d1 with
    rx := { d1.rx with coaches := tabMap coachRxReset (fun _ x => { x with cut := false, stored := if deep then none else x.stored }) d1.rx.coaches }
    frames := { d1.frames with rx := tabMap (fun _ => {}) (fun _ x => { x with inbox := [] }) d1.frames.rx }
    slots := { d1.slots with demap := [] } }
/-- Connection memory and the receive map are initialised again unless CONN_RETAIN is set (R519); the tributaries that had slots have none (R197). -/
def resumePages (d : Dev) : Dev :=
  if d.power.connRetain then d
  else
    let qs := ((List.range 256).flatMap (fun c => tribsBetween d c 0 (coachTx d c).cfg.slots ++ rxBetween d c 0 40)).eraseDups
    qs.foldl (fun d q => tribOff q d)
      { d with slots := { d.slots with txPage0 := [], txPage1 := [], rxPage0 := [], rxPage1 := [], engines := [], coaches := [] } }
/-- Every depot page of a queue lies in a retained bank: the manual does not say which pages a queue is given, so with some banks
retained and some not it is a free value (DESIGN CHOICE). -/
def depotKept (x : TxQueue) (d : Dev) : Bool × Dev :=
  if x.cfg.pages = 0 || d.power.retDepot = BitVec.allOnes 64 then (true, d)
  else if d.power.retDepot = 0 then (false, d)
  else let (v, d1) := drawFree d; (v.getLsbD 0, d1)
/-- R520 for one transmit queue; a twin tributary's stream goes with its queue. -/
def resumeQueue (deep : Bool) (q : Nat) (d : Dev) : Dev :=
  let x := txQueue d q
  let (kept, d1) := depotKept x d
  if kept && d.power.connRetain && (x.spill.isEmpty || !deep) then setTxQueue q { txQueue d1 q with resumed := true } d1
  else loseTxQueue q d1
def resumeQueues (deep : Bool) (d : Dev) : Dev :=
  let d1 := (d.slots.tx.map (·.1)).foldl (fun d q => resumeQueue deep q d) d
  let d2 := { d1 with slots := { d1.slots with rx := tabMap (fun _ => {}) (fun _ x => emptyRx x) d1.slots.rx } }
  let d3 := d2.twins.cfg.foldl (fun d e => if e.2.tx then restartTwin e.1 d else d) d2
  (d3.slots.tx.map (·.1)).foldl (fun d q => settlePressure q d) d3
/-- DEEP SLEEP removes power: counts restart, snapshots are gone but for SNAP_SEQ, which counts since reset, and the sequencer goes on at row 0 with
the table as it stands (R489, R492, R496). -/
def resumeMeasure (deep : Bool) (d : Dev) : Dev :=
  if deep then { d with
    bench := { d.bench with rowHeld := none }
    meas := { d.meas with
      counts := [], selects := [], restarted := [], allRestarted := true, captured := none, published := { seq := d.meas.published.seq }, snapAt := none
      triggers := 0, row := 0, seqLenNow := d.meas.seqLen, rowAt := elapsedNs d } }
  else { d with meas := { d.meas with rowAt := elapsedNs d } }
/-- Links start again with empty replay buffers and SEQ 0 (R22). -/
def resumeLinks (d : Dev) : Dev := (List.range 10).foldl (fun d l => stopLink l d) d
/-- Boot ROM starts firmware from the bank without reloading it; RESTART_COUNT does not change. DEDUCED: a restart that a thermal trip
interrupted ends here too, and a boot that it interrupted goes on at its stage. -/
def resumeFirmware (d : Dev) : Dev :=
  if d.fw.stage < 5 then d
  else checkMode { restartDma (abandonAgreements d) with fw := { d.fw with
    state := .running, restartFreeze := false, mailboxReady := true, activating := none } }
/-- A calibration run that the sleep cut short is pending again. DESIGN CHOICE. -/
def resumeRuns (d : Dev) : Dev :=
  allEngines.foldl (fun d n => if (calOf d n).state = .running then calAbort n d else d) d
/-- The scrubber and the fill engine paused while their clocks stood (R428): what they last did moves on by `gap` ns of elapsed time. -/
def resumeScrub (gap : Nat) (d : Dev) : Dev :=
  { d with mem := { d.mem with sramAt := d.mem.sramAt + gap, hbmAt := d.mem.hbmAt + gap, fillAt := d.mem.fillAt + gap } }
/-- What a request that waits for an event acts on: the block that stopped under it (R445). -/
def waitingBlock (op : Nat) : Nat := if op = 0x0905 then 4 else if op = 0x0604 then 1 else 3
/-- A request that firmware had taken and whose block stopped is answered POWERED_DOWN, one that it had not taken NOT_READY (R445, R518). -/
def answerSlept (mb : Nat) (d : Dev) : Dev :=
  let b := box d mb
  if b.state = .pending && b.waiting then
    refuse (fullSize (reqOpcode b) (reqBody b)) mb { status := .poweredDown, block := waitingBlock (reqOpcode b) } d
  else answerNotReady mb d
/-- The device is back in RUN after `ns` of CK_AON since the commit. -/
def returnToRun (ns : Nat) (d : Dev) : Dev :=
  let deep := d.pins.target != .sleep
  let t0 := nowNs d
  let d0 := resumeClock ns d
  let d1 := setPins { d.pins with sleeping := false, tripEntry := false } (setPower { d.power with state := .run } (resumeScrub (elapsedNs d0 - elapsedNs d) d0))
  let d2 := ticksResume t0 (resumeTiming (setCredit (creditUnits d1 + ns / 100000) d1))
  let d3 := resumePages (resumeReceive deep (resumeTransmit deep (resumeLinks (resumeMeasure deep d2))))
  let d4 := startLanes (ixtasReturns (resumeQueues deep d3))
  let d5 := freeMgt (resumeRuns (resumeFirmware d4))
  startWaiting (answerAll answerSlept (stopTransfers (raiseCause .power 0 d5)))
/-- WAKE_TIMER fires no earlier than its seconds after the commit (R513). -/
def wakeInTime (ns : Nat) (d : Dev) : Bool := d.power.wakeCause != 5 || decide (d.power.wakeTimer * 1000000000 ≤ ns)
def execReturnToRun (elapsedNs : Nat) : State → Host.Outcome State Fault Refusal :=
  lift fun d => guard (d.power.state == .leaving && wakeInTime elapsedNs d) (returnToRun elapsedNs) d

end Sys2Proof.Machine
end

