-- ==== Sys2Proof/Machine/Firmware.lean ====
section
/-! DEFINITION. Boot, firmware restart under freeze, reattachment, staging and activation of an image (R30 to R37, R425, R440). -/

namespace Sys2Proof.Machine

/-! ## Boot (R32, R440) -/

/-- Boot ROM has written every word of region 3 but the journal (R32, R421, R425); its test words hold what it wrote. -/
def bootRam (d : Dev) : Dev :=
  let d1 := useFlip 3 (loseTestWords (· == 3) d)
  { d1 with mem := { d1.mem with everRan := true } }
/-- READY: the bin store is cleared, firmware runs and takes requests, those that waited are looked at (R536). -/
def bootReady (d : Dev) : Dev :=
  let d1 := clearBins { bootRam d with fw := { d.fw with stage := 5, state := .running, mailboxReady := true } }
  takeRefused (checkMode d1)
/-- Boot ROM accepts an image whose SVN is at or above the SVN floor (R316); whether both its signatures verify is a fact of the event. -/
def svnOk (d : Dev) (i : Image) : Bool := decide (d.trust.svnFloor.toNat ≤ i.svn.toNat)
/-- The present stage completes, or reports an error: 1 to 3 in VERIFY, 4 in RAM_INIT; after an error boot stands. VERIFY itself finds an
SVN below the floor. -/
def bootStage (err : Nat) (d : Dev) : Dev :=
  let f := d.fw
  if f.stage = 2 ∧ err = 0 ∧ svnOk d f.running = false then { d with fw := { f with bootErr := 3 } }
  else if f.stage = 2 ∧ err = 3 ∧ svnOk d f.running = true then d
  else if err = 0 then
    if f.stage = 4 then bootReady d else { d with fw := { f with stage := f.stage + 1, secureBoot := f.secureBoot || f.stage == 2 } }
  else if (f.stage = 2 ∧ err ≤ 3) ∨ (f.stage = 3 ∧ err = 4) then { d with fw := { f with bootErr := err } }
  else d
def execBootStage (err : Fin 5) : State → Host.Outcome State Fault Refusal :=
  lift fun d => guard (decide (d.fw.stage < 5) && d.fw.bootErr == 0 && !asleep d) (bootStage err) d

/-! ## Restart (R30, R31, R34) -/

/-- A restart may begin: boot has once reached READY, none is in progress, the cores have their clock. -/
def mayRestart (d : Dev) : Bool := d.fw.stage == 5 && (d.fw.state == .running || d.fw.state == .failed) && !asleep d
/-- Jobs of firmware, Ixtas and vault are abandoned and their slots freed (R306). -/
def freeContexts (d : Dev) : Dev :=
  { d with cipher := { d.cipher with
      jobs := d.cipher.jobs.filter (·.requester == .host)
      contexts := tabMap (fun _ => none) (fun _ x => match x with | some (.host, j) => some (.host, j) | _ => none) d.cipher.contexts } }
/-- What waits for firmware ends: adjustments that wait for an edge are not made (R33). DESIGN CHOICE: an entry by PWR_STATE in
progress ends here and its blocks restart. -/
def dropWaiting (d : Dev) : Dev :=
  let d1 := { d with time := { d.time with waiting := [] } }
  if d1.power.state = .entering && !d1.pins.tripEntry then restartBlocks d1
  else if d1.power.state = .idle then setPower { d1.power with state := .run } d1
  else d1
/-- The tick on which a restart begins. While it is in progress FALLBACK is clear: it has run no image yet (DEDUCED). DESIGN CHOICE: activation
spends the staged image, so a restart that follows a failed activation runs the previous image; R36 does not say which. -/
def beginRestart (cause : Nat) (d : Dev) : Dev :=
  let f := d.fw
  let d1 := { d with fw := { f with
    state := .restarting, restartFreeze := true, mailboxReady := false, restartCause := cause
    restartCount := sat 0xFFFF (f.restartCount + 1), activating := if cause = 3 then f.activating else none, fallback := false }, mem := { d.mem with fetchTraps := 0, dataTraps := 0, heldTraps := 0 } }
  checkMode (restartDma (freeContexts (dropFirmwarePackets (abandonAgreements (restartStacks (dropWaiting d1))))))
/-- FALLBACK after a restart in which boot ROM rejected the staged image, and so ran the previous one, or did not (R35, R37). -/
def fellBack (rejected : Bool) (f : Firmware) : Bool := rejected && f.activating.isSome
/-- A restart ends in FAILED: the freeze stays (R34). -/
def failRestart (rejected : Bool) (d : Dev) : Dev :=
  raise 0x30C (checkMode { d with fw := { d.fw with state := .failed, mailboxReady := false, fallback := fellBack rejected d.fw } })
def execRestartFailed (rejected : Bool) : State → Host.Outcome State Fault Refusal :=
  lift fun d => guard (d.fw.state == .restarting && !asleep d) (failRestart rejected) d

/-! ## Reattachment (R32, R33, R35) -/

/-- The image that boot ROM starts in a restart: the activated one, or with `rejected` the one that ran before. -/
def bootImage (rejected : Bool) (f : Firmware) : Image :=
  match f.activating with
  | some i => if rejected then f.running else i
  | none => f.running
/-- Firmware after a restart that reattaches. -/
def imageAfter (rejected : Bool) (f : Firmware) : Firmware :=
  { f with running := bootImage rejected f, fallback := fellBack rejected f, activating := none }
/-- Firmware answers a mailbox whose request was doorbelled and not answered: OK if the journal shows that it committed, else NOT_READY (R33).
The answer to a host job that the engine has kept is its own (R306), and so is that to a laser transfer (R464).
DESIGN CHOICE: the body of either is REASON 0 and zeros. -/
def answerUnposted (mb : Nat) (d : Dev) : Dev :=
  if (box d mb).state = .pending && !d.cipher.jobs.any (·.mailbox == some mb) && !d.mail.transfers.any (·.mailbox == mb) then
    post mb { status := if d.fw.journal.contains mb then .ok else .notReady, body := zeros (answerSize (box d mb)) } d
  else d
/-- The freeze lifts, firmware runs and answers the requests that were doorbelled and not answered; the journal then holds none of them. -/
def reattachFirmware (rejected : Bool) (d : Dev) : Dev :=
  let f := imageAfter rejected d.fw
  let d1 := checkMode { bootRam d with fw := { f with state := .running, restartFreeze := false, mailboxReady := true } }
  let d2 := answerAll answerUnposted (postTransfers d1)
  startWaiting (readRing { d2 with fw := { d2.fw with journal := [] } })
/-- Boot ROM verified, in this restart, the image that signals: both signatures (the operand) and the SVN; it may reject a staged image only. -/
def verifiedNow (verified rejected : Bool) (d : Dev) : Bool :=
  verified && svnOk d (bootImage rejected d.fw) && (!rejected || d.fw.activating.isSome)
/-- The reattachment signal: the freeze brake accepts it only from firmware that boot ROM verified in the same restart (R32). -/
def execReattachment (verified rejected : Bool) : State → Host.Outcome State Fault Refusal :=
  lift fun d => guard (d.fw.state == .restarting && !asleep d && verifiedNow verified rejected d) (reattachFirmware rejected) d

/-! ## Staging and activation (R35, R36) -/

def stageEnd (b : List Byte) : Nat := u32 b 4 + u16 b 8
/-- The rules of FW_STAGE. -/
def stageBad (d : Dev) (b : List Byte) : Bool :=
  let later := match d.fw.staged with
    | some s => s.size == u32 b 0 && s.bytes.length == u32 b 4
    | none => false
  !(within 1 3145728 (u32 b 0) && within 1 4064 (u16 b 8)) || (if flag b 10 0 then u32 b 4 != 0 else !later)
    || decide (u32 b 0 < stageEnd b) || flag b 10 1 != (stageEnd b == u32 b 0)
/-- The image after a chunk. -/
def stageChunk (b : List Byte) (d : Dev) : Staging :=
  let old := match d.fw.staged with | some s => if flag b 10 0 then [] else s.bytes | none => []
  { size := u32 b 0, bytes := old ++ part b 16 (u16 b 8), complete := flag b 10 1 }
def fwStageService : Service where
  opcode := 0x0120
  targets _ _ := [3]
  freeze := .never
  checks d b := [(stageBad d b, outOfRange)]
  run _ b d :=
    let s := stageChunk b d
    done (zeros 4 ++ le 4 s.bytes.length) { d with fw := { d.fw with staged := some s } }
def execFwStage (mb : Mailbox) : State → Host.Outcome State Fault Refusal := lift (serve fwStageService mb)

/-- The staged image, once a request with LAST set has completed it. -/
def wholeImage (d : Dev) : Option (List Byte) :=
  match d.fw.staged with
  | some s => if s.complete then some s.bytes else none
  | none => none
def imageOf (bs : List Byte) : Image :=
  { version := Config.imageVersion bs, svn := Config.imageSvn bs, digest := sha384 bs }
def activateChecks (d : Dev) (b : List Byte) : List (Bool × Verdict) :=
  match wholeImage d with
  | none => [(true, notReady 0)]
  | some bs =>
    [(u32 b 0 != bs.length || BitVec.ofNat 384 (beNat (part b 8 48)) != sha384 bs, outOfRange),
     (!Config.imageSigned bs || decide ((Config.imageSvn bs).toNat < d.trust.svnFloor.toNat), denied 0)]
def fwActivateService : Service where
  opcode := 0x0121
  targets _ _ := [3]
  freeze := .never
  checks := activateChecks
  run _ _ d :=
    match wholeImage d with
    | some bs =>
      let i := imageOf bs
      done (zeros 4 ++ le 4 i.version.toNat ++ le 1 i.svn.toNat ++ zeros 3)
        (beginRestart 3 { d with fw := { d.fw with activating := some i, staged := none } })
    | none => (d, none)
def execFwActivate (mb : Mailbox) : State → Host.Outcome State Fault Refusal := lift (serve fwActivateService mb)

/-! ## Registers of the identity block (R37, R440) -/

def FwState.code : FwState → Nat
  | .boot => 0 | .running => 1 | .restarting => 2 | .failed => 3
def fwStatusWord (d : Dev) : Word :=
  pack [(0, d.fw.state.code), (4, b2n (freezeOn d)), (5, b2n d.fw.fallback), (8, d.fw.restartCause), (16, d.fw.restartCount)]
/-- MAILBOX_READY: firmware takes requests; it does not during an entry to a power state (R514). -/
def mailboxReady (d : Dev) : Bool := d.fw.mailboxReady && (d.power.state == .run || d.power.state == .idle)
def bootStatusWord (d : Dev) : Word := pack [(0, d.fw.stage), (4, d.fw.bootErr), (12, b2n (mailboxReady d))]

end Sys2Proof.Machine
end

