-- ==== Sys2Proof/Machine/Faults.lean ====
section
/-! DEFINITION. Memory fill, the records of uncorrectable words, and the end of a link retrain (R17, R423, R431). -/

namespace Sys2Proof.Machine

/-! ## Fill (R423) -/

/-- Two ranges of GiB overlap. -/
def overlaps (a b : Nat × Nat) : Bool := decide (a.1 < b.1 + b.2) && decide (b.1 < a.1 + a.2)
def touches (r : Option (Nat × Nat)) (f n : Nat) : Bool := match r with | some x => overlaps x (f, n) | none => false
/-- Spill is enabled, or some queue holds spilled words. -/
def spillUsedNow (d : Dev) : Bool :=
  d.slots.spillEnable || d.slots.tx.any (fun e => !e.2.spill.isEmpty) || d.slots.rx.any (fun e => !e.2.spill.isEmpty)
/-- Some twin tributary with receive enabled has a path outside WAIT_FILL. -/
def yardUsed (d : Dev) : Bool :=
  d.twins.cfg.any (fun e => e.2.rx && !((twinRx d e.1).a.state == .waitFill && (twinRx d e.1).b.state == .waitFill))
def memFillService : Service where
  opcode := 0x0C01
  targets _ _ := [1, 5]
  checks d b :=
    [(!within 1 64 (u8 b 1), outOfRange),
     (d.mem.fill.isSome, busy 0),
     (decide (hbmGib < u8 b 0 + u8 b 1), outOfRange),
     (touches d.slots.spillRegion (u8 b 0) (u8 b 1) && spillUsedNow d, busy 50),
     (touches d.twins.yard (u8 b 0) (u8 b 1) && yardUsed d, busy 50)]
  run _ b d := okay (useFlip 6 { d with mem := { d.mem with fill := some (u8 b 0, u8 b 1), fillAt := elapsedNs d } })
def execMemFill (mb : Mailbox) : State → Host.Outcome State Fault Refusal := lift (serve memFillService mb)
/-- A fill ends; twin receive sides that waited for it leave WAIT_FILL (R358). -/
def execFillDone (failed : BitVec 64) : State → Host.Outcome State Fault Refusal :=
  lift fun d => guard (d.mem.fill.isSome && !asleep d) (fun d => yardFilled (fillDone failed d)) d

/-! ## Uncorrectable words (R424 to R428) -/

def recordOf (r : BadRead) (d : Dev) : ErrorRecord :=
  { region := r.region, consumer := r.consumer, syndrome := r.syndrome.toNat, source := r.source, addr := r.addr.toNat, time := nowNs d }
def logBad (r : BadRead) (d : Dev) : Dev := logError (if r.region = 6 then 1 else 0) (recordOf r d) d
/-- A lane key slot counts as empty (R286, R288). -/
def dropKeySlot (c : Nat) (rx one : Bool) (d : Dev) : Dev :=
  if rx then
    let x := cipherRx d c
    setCipherRx c (if one then { x with slot1 := none } else { x with slot0 := none }) d
  else
    let x := cipherTx d c
    setCipherTx c (if one then { x with slot1 := none } else { x with slot0 := none }) d
/-! ## Retraining (R17, R61, R100, R280) -/

/-- A link goes down: a line link mutes its tile's engines and takes their light, a client link takes its tile's ports. -/
def linkDown (l : Nat) (d : Dev) : Dev :=
  let d1 := raiseCause (.link l) 3 (setLink l { linkOf d l with retraining := false, down := true } d)
  if l < 4 then
    let ns := [4 * l, 4 * l + 1, 4 * l + 2, 4 * l + 3]
    ns.foldl (fun d n => loseEngine n d) (muteAll ns 2 d1)
  else if l < 6 then loseTile (l - 4) d1
  else d1
/-- A retrain ends: the link is up again, or retrains once more; the third failure in a row takes it down. -/
def retrainDone (l : Nat) (ok : Bool) (d : Dev) : Dev :=
  let x := linkOf d l
  if ok then setLink l { x with retraining := false, failedRetrains := 0 } d
  else if 2 ≤ x.failedRetrains then linkDown l (setLink l { x with failedRetrains := x.failedRetrains + 1 } d)
  else raiseCause (.link l) 2 (setLink l { x with failedRetrains := x.failedRetrains + 1, retrains := sat 0xFF (x.retrains + 1) } d)
def execLinkRetrainDone (l : LinkId) (ok : Bool) : State → Host.Outcome State Fault Refusal :=
  lift fun d => guard (linkClocked d l && (linkOf d l).retraining) (retrainDone l ok) d

end Sys2Proof.Machine
end

