-- ==== Sys2Proof/Machine/Journal.lean ====
section
/-! DEFINITION. The journal of committed configuration at the start of a restart, the causes of a restart, and what the consumer of an
uncorrectable word does (R17, R18, R30 to R33, R424 to R428). -/

namespace Sys2Proof.Machine

/-! ## Requests that commit and are not answered (R33) -/

/-- The configuration commands, whose commit the journal records. -/
def journalled : List Service :=
  [engTxConfigService, coachConfigService, hitchConfigService, txPreemphService, biasConfigService]
  ++ [engRxConfigService, coachRxConfigService, rxEqService, rxReacquireService, poolConfigService, poolCoachConfigService]
  ++ [frameConfigService, defectConfigService, pmConfigService, pmClearService, queueConfigService, slotWriteService, slotCopyService]
  ++ [slotArmService, rxSlotArmService, slotCancelService, queueFlushService, spillConfigService]
  ++ [cliPortConfigService, cliLaneConfigService, cliLaneTestService, cliRecclkService, cipherConfigService, cipherKeyLoadService]
  ++ [keyPolicyService, twinConfigService, twinForceService, twinRestartService, yardConfigService]
  ++ [ixtasEngConfigService, ixtasCoachConfigService, timeRefConfigService, timeConfigService, timeSelectService, timeSteerService]
  ++ [memFillService, scrubConfigService, ctrSelectService, calConfigService, pwrConfigService, pwrDomainService, tagWriteService, tagLockService]
/-- The request at the front of the doorbell order, taken as firmware stops: it commits, and the journal keeps that its response is not
posted. Nothing where it would be refused, or would not commit at once. -/
def commitFront (d : Dev) : Dev :=
  match firstPending d d.mail.order with
  | none => d
  | some mb =>
    let body := reqBody (box d mb)
    match journalled.find? (fun sv => takes sv.opcode mb d && (judge sv body d).isNone) with
    | none => d
    | some sv =>
      match sv.run mb body d with
      | (e, some a) => if a.status = .ok then { e with fw := { e.fw with journal := mb :: e.fw.journal } } else d
      | (_, none) => d
/-- Whether the request that firmware was serving committed before the tick of a restart: how far firmware had come is not stated, a free
value. -/
def journalFront (d : Dev) : Dev :=
  let (v, e) := drawFree d
  if v.getLsbD 0 then commitFront e else e

/-! ## The causes of a restart (R30) -/

/-- FW_RESTART: the host writes 1. -/
def hostRestart (v : Word) (d : Dev) : Dev := if bit v 0 && mayRestart d then beginRestart 4 (journalFront d) else d
def execFwRestart (w : RegWrite) : State → Host.Outcome State Fault Refusal := lift (hostWrite 0xFF w hostRestart)
/-- No heartbeat for 250 ms while the watchdog runs: neither in IDLE nor in a restart nor in FAILED. -/
def execWatchdog : State → Host.Outcome State Fault Refusal :=
  lift fun d => guard (mayRestart d && d.fw.state == .running && !mgtStopped d) (fun d => beginRestart 1 (journalFront d)) d
/-- A condition of RESTART_CAUSE 2: during a restart it ends that in FAILED (R30). -/
def fetchRestart (rejected : Bool) (d : Dev) : Dev :=
  if d.fw.state = .restarting then failRestart rejected d else if mayRestart d then beginRestart 2 (journalFront d) else d

/-! ## Uncorrectable words and their consumers (R424 to R428) -/

/-- The i-th word that a queue stores in depot or spill, in the order in which they leave. -/
def putStored {α : Type} (s : Store α) (spilled : Bool) (i : Nat) (f : α → α) : Store α :=
  if spilled then { s with spill := putAt s.spill i f }
  else { s with depot := putAt s.depot i f, late := if i < s.depot.length then s.late else putAt s.late (i - s.depot.length) f }
/-- A receive-map entry counts as DISCARD for the frame at the de-mapper (R424). -/
def discardSlot (j : Nat) (f : DemapFrame) : DemapFrame :=
  { f with todo := (f.todo.map (fun l => (l.1, l.2.filter (· != j)))).filter (fun l => !l.2.isEmpty) }
/-- A copy in the yard fails (R348, R351). -/
def failCopy (w : Nat) (pathB : Bool) (seq : Nat) (d : Dev) : Dev :=
  let x := twinRx d w
  let hit (c : HeldCopy) : Bool := c.valid && c.pathB == pathB && c.seq == seq
  if x.held.any hit then
    twinTally w 5 1 (twinCount w 6 1 (setTwinRx w { x with held := x.held.map (fun c => if hit c then { c with valid := false } else c) } d))
  else d
/-- A job context slot is uncorrectable: a job that is in the engine with it ends with MEM_ERROR, as does one that goes on from it. -/
def badContext (i : Nat) (d : Dev) : Dev :=
  { d with cipher := { d.cipher with
      jobs := d.cipher.jobs.map (fun j => if j.slot == some i then { j with kept := none, memError := true } else j)
      contexts := tabMod (fun _ => none) d.cipher.contexts i (fun v => v.map (fun e => (e.1, { e.2 with bad := true }))) } }
/-- What a word of the line datapath that is lost does to what it held (R424); `spilled`: it lay in HBM. -/
def losePlace (spilled : Bool) (p : BadPlace) (d : Dev) : Dev :=
  match p with
  | .keySlot c rx one => dropKeySlot c rx one d
  | .txWord q i => setTxQueue q (withTxStore (txQueue d q) (putStored (txStore (txQueue d q)) spilled i (fun _ => 0))) d
  | .rxWord q i => setRxQueue q (withRxStore (rxQueue d q) (putStored (rxStore (rxQueue d q)) spilled i (fun w => { w with value := none }))) d
  | .sent c leg i =>
    let x := frameTx d c
    let zero (l : SentLeg) : SentLeg := if l.slots.head? = some leg then { l with words := putAt l.words i (fun _ => 0) } else l
    setFrameTx c { x with sent := x.sent.map (fun f => { f with legs := f.legs.map zero }) } d
  | .siding c g =>
    let x := cipherRx d c
    setCipherRx c { x with segs := putAt x.segs (x.segs.findIdx (fun s => s.g == g.val)) (fun s => { s with lost := true }) } d
  | .yard w b seq => failCopy w b seq.toNat d
  | .txEntry c j => setFrameTx c { frameTx d c with skip := j.val :: (frameTx d c).skip } d
  | .rxEntry c j => { d with slots := { d.slots with demap := tabMod (fun _ => []) d.slots.demap c (fun l => putAt l 0 (discardSlot j)) } }
  | .context i => badContext i d
/-- The cores that have executed a trap return: its memory trap is over, and a load error that was held for it is taken (R424, R425). -/
def trapsReturn (cores : BitVec 16) (m : MemState) : MemState :=
  let back := cores &&& (m.fetchTraps ||| m.dataTraps)
  { m with fetchTraps := m.fetchTraps &&& ~~~ back, dataTraps := (m.dataTraps &&& ~~~ back) ||| (m.heldTraps &&& back)
           heldTraps := m.heldTraps &&& ~~~ back }
/-- A core's data trap; one during a memory trap of the same core is held until that trap returns (R424). -/
def dataTrap (core : Nat) (m : MemState) : MemState :=
  let b := BitVec.twoPow 16 core
  if (m.fetchTraps ||| m.dataTraps) &&& b = 0 then { m with dataTraps := m.dataTraps ||| b } else { m with heldTraps := m.heldTraps ||| b }
/-- The consequence for the consumer: 0 fetch, 1 load, 2 DMA, 3 line datapath, 4 scrubber, 5 narrow write, 6 checked read, 7 link. A fetch traps
its core, and one that fails while a fetch trap is active restarts the cluster (R425); which cores have executed their trap return since the last
such event is a fact of this one. The mark of a receive codeword is an operand of the command that brings it. -/
def consequence (r : BadRead) (d0 : Dev) : Dev :=
  let d := { d0 with mem := trapsReturn r.returned d0.mem }
  match r.consumer.val with
  | 0 =>
    if r.journal && d.fw.state = .restarting then failRestart r.rejected d
    else if d.mem.fetchTraps != 0 then fetchRestart r.rejected d
    else { d with mem := { d.mem with fetchTraps := d.mem.fetchTraps ||| BitVec.twoPow 16 r.source } }
  | 1 => { d with mem := dataTrap r.source d.mem }
  | 2 => haltDma r.source (r.descriptor, r.offset) r.hostChannel d
  | 3 => match r.place with | some p => losePlace (r.region == 6) p d | none => d
  | 5 => if r.byDma then haltDma r.source (r.descriptor, r.offset) r.hostChannel d else { d with mem := dataTrap r.source d.mem }
  | _ => d
/-- What the consumer of an uncorrectable word does: the event is logged, but for a word that the scrubber reads and that may never have been
written, which is counted only. -/
def consumeBad (r : BadRead) (d : Dev) : Dev :=
  if r.consumer.val = 4 ∧ maybeUnwritten d r.region r.addr.toNat = true then { d with mem := { d.mem with quiet := (d.mem.quiet + 1) % 2 ^ 32 } }
  else consequence r (logBad r d)
def execUncorrectableRead (r : BadRead) : State → Host.Outcome State Fault Refusal :=
  lift fun d => guard (!asleep d) (consumeBad r) d

/-- Retry exhaustion, with the words that did not reach their receivers: of a memory channel each is uncorrectable to its consumer and logged;
of a die-to-die link one record stands for all and each consumer acts (R17, R18, R424, R431). -/
def loseWords (l : Nat) (lost : List BadRead) (d : Dev) : Dev :=
  lost.foldl (fun d r => if l < 6 then consequence r d else consumeBad { r with region := 6 } d) d
def execRetryExhaustion (l : LinkId) (toHub : Bool) (lost : List BadRead) : State → Host.Outcome State Fault Refusal :=
  lift fun d => guard (linkRuns d l && exhausted (sideOf (linkOf d l) toHub)) (fun d => loseWords l lost (exhaustLink l toHub d)) d

end Sys2Proof.Machine
end

