-- ==== Sys2Proof/Machine/Resets.lean ====
section
/-! DEFINITION. Power-on reset and device reset (R530, R532). -/

namespace Sys2Proof.Machine

/-- What a reset keeps of the trust state: one-time-programmable memory and the user tag area; a new device wrapping key (R319). -/
def resetTrust (d : Dev) : Trust :=
  { wrapping := some (Config.free256 d.free), identityErased := d.trust.identityErased, svnFloor := d.trust.svnFloor
    tagLines := d.trust.tagLines, tagWrites := d.trust.tagWrites, tagLocked := d.trust.tagLocked }
/-- The pins stand as the board drives them. -/
def resetPins (zeroizeLow : Bool) (d : Dev) : Pins :=
  { perstLow := d.pins.perstLow, txmuteLow := d.pins.txmuteLow, testmode := d.pins.testmode, zeroizeLow := zeroizeLow }
/-- The device right after a reset that ends with SMP_ADDR[2:0] = `strap`; with ZEROIZE_N low the erasure completes before boot ROM
runs. DESIGN CHOICE: an image activated since the device was supplied is not kept; the bank holds the supplied image again. -/
def resetDev (strap : BitVec 3) (zeroizeLow : Bool) (d : Dev) : Dev :=
  let d1 := { Dev.reset with
    trust := resetTrust d, pins := resetPins zeroizeLow d, mail := { Dev.reset.mail with smpStrap := strap }, free := d.free + 1 }
  let d2 := if d.pins.txmuteLow then d1 else unmuteAll allEngines 0 d1
  if zeroizeLow then
    (let d3 := zeroizeAll d2
     { d3 with trust := { d3.trust with identityErased := true } })
  else d2
def execPowerOnReset (strap : BitVec 3) (zeroizeLow : Bool) : State → Host.Outcome State Fault Refusal :=
  lift fun d => guard (d.power.state != .off || d.pins.wakeSeen) (resetDev strap zeroizeLow) d
/-- RESET_N, or PWR_GOOD in any state other than OFF, has been low for 1 µs. -/
def execDeviceReset (strap : BitVec 3) (zeroizeLow : Bool) : State → Host.Outcome State Fault Refusal :=
  lift fun d => guard (d.power.state != .off) (resetDev strap zeroizeLow) d

end Sys2Proof.Machine
end

