-- ==== Sys2Proof/Machine/Registers.lean ====
section
/-! DEFINITION. The register map of BAR0 and the accesses that name an offset: REGISTER_WRITE and the sideband management port (R37,
R436 to R441, R453 to R459, R481, R500, R528). -/

namespace Sys2Proof.Machine

/-- The offset lies in [lo, hi). -/
def inSpan (lo hi o : Nat) : Bool := decide (lo ≤ o) && decide (o < hi)
/-- Half of a 64-bit value. -/
def half (v hi : Nat) : Word := BitVec.ofNat 32 (v / 2 ^ (32 * hi))

/-! ## The diagnostic windows (R439) -/

def inDiag (o : Nat) : Bool := inSpan 0x1000000 0x4000000 o
/-- Outside TEST and START_UP they are locked. -/
def diagLocked (d : Dev) : Bool := devMode d != .test && devMode d != .startUp

/-! ## Blocks (R453, R455, R459) -/

/-- The BLOCK_ID of the window an offset lies in; 0xFF for the always-on island and for offsets of no window. -/
def windowBlock (o : Nat) : Nat :=
  if o < 0x2000 || inSpan 0x30000 0x40000 o then 0xFF
  else if inSpan 0x40000 0x50000 o then 4
  else if inSpan 0x10000 0x18080 o || inSpan 0x20000 0x110000 o then 1
  else 0xFF

/-! ## Values read -/

/-- Identity block (R37, R440). -/
def idWord (d : Dev) (o : Nat) : Word :=
  if o = 0 then pack [(0, 0x5120), (16, b2n Config.isA32), (24, Config.stepping.toNat)]
  else if o = 4 then pack [(0, Config.bootRomVersion.toNat), (8, 6), (16, 4), (24, 0)]
  else if o = 8 then bootStatusWord d
  else if o = 0xC then pack [(0, b2n d.mail.down.valid), (8, d.mail.down.first), (16, d.mail.down.last), (24, d.mail.down.count)]
  else if o = 0x10 then fwStatusWord d
  else if o = 0x18 then pack [(0, b2n d.mail.smpWriteDisable), (8, 0x58 + d.mail.smpStrap.toNat)]
  else if 0x20 ≤ o && o < 0x30 then half Config.serial.toNat ((o - 0x20) / 4)
  else 0
def MbState.code : MbState → Nat
  | .idle => 0 | .pending => 1 | .done => 2
def Port.code : Port → Nat
  | .pcie => 0 | .smp => 1
def mbStateWord (d : Dev) (mb : Nat) : Word :=
  let b := box d mb
  pack [(0, b.state.code), (2, b.port.code), (3, b2n b.doorbellErr), (4, b2n b.writeErr), (8, b.negMajor), (16, b.negMinor), (24, b.discarded)]
/-- Event concentrator, host view (R481). -/
def ecCoreWord (d : Dev) (x : Nat) : Word :=
  let st := stackOf d x
  pack [(0, st.length), (5, match st with | (_, p) :: _ => p | [] => 0), (16, tabGet (fun _ => 0) d.ec.faults x)]
def ecWord (d : Dev) (o : Nat) : Word :=
  if o = 0 then pack [(0, b2n (d.ec.unack == 0)), (1, d.ec.coreWait.toNat), (5, d.ec.corePdWait.toNat)]
  else if o = 8 then half d.ec.unack.toNat 0
  else if o = 0xC then half d.ec.unack.toNat 1
  else if 0x10 ≤ o && o < 0x24 then modOf d ((o - 0x10) / 4)
  else if 0x30 ≤ o && o < 0x40 then ecCoreWord d ((o - 0x30) / 4)
  else if 0x100 ≤ o && o < 0x200 then claimValue d (highest d (sourcesWhere (vectorSource d ((o - 0x100) / 4)) 0 2048))
  else if 0x1000 ≤ o && o < 0x3000 then srcCfg d ((o - 0x1000) / 4)
  else if 0x3000 ≤ o && o < 0x3200 then half d.ec.pend.toNat ((o - 0x3000) / 4 % 64)
  else 0
/-- Power and sleep handshake (R528). -/
def powerWord (d : Dev) (o : Nat) : Word :=
  if o = 0 then pwrStatusWord d
  else if o = 4 then pack [(0, d.power.wakeEn.toNat), (16, d.power.engineMask.toNat)]
  else if o = 8 then BitVec.ofNat 32 d.power.wakeTimer
  else if o = 0xC then half d.power.retDepot.toNat 0
  else if o = 0x10 then half d.power.retDepot.toNat 1
  else if o = 0x14 then pack [(0, b2n d.power.connRetain)]
  else if o = 0x20 then pwrDvfsWord d
  else if o = 0x24 then pwrSurgeWord d
  else if o = 0x28 then pwrDomainsWord d
  else 0
/-- Timing block (R27, R415). -/
def refStatusWord (d : Dev) (r : Nat) : Word :=
  let x := refOf d r
  pack [(0, x.q.code), (3, b2n x.softWarn), (4, x.rank), (7, b2n (inPair d r)), (8, x.dqCause), (16, twos 16 (sat16 x.offset))]
def timeWord (d : Dev) (o : Nat) : Word :=
  if o = 0 then half (nowNs d) 0
  else if o = 4 then d.clock.latchHi
  else if o = 8 then d.clock.latchFrac.setWidth 32
  else if o = 0x10 then pack [(0, d.time.state.code), (8, d.time.activeRef), (16, b2n (historyValid d)), (17, b2n d.time.ppsValid),
    (18, b2n (!d.timeCfg.pairs.isEmpty)), (19, b2n d.time.steerErr)]
  else if o = 0x14 then pack [(0, b2n d.time.loopOpen)]
  else if o = 0x18 then half (twos 32 d.time.target) 0
  else if o = 0x1C then half (twos 32 d.time.applied) 0
  else if o = 0x20 then half (twos 32 d.time.holdoverFreq) 0
  else if o = 0x24 then pack [(0, d.time.steerSlew), (31, b2n d.time.steerLock)]
  else if o = 0x28 then half (twos 32 d.time.ppsOffset) 0
  else if 0x100 ≤ o && o < 0x170 then refStatusWord d ((o - 0x100) / 4)
  else 0
/-- Telemetry (R500). -/
def tallyWord (d : Dev) (t i : Nat) : Word :=
  let x := tallyOf d t
  if i = 0 then BitVec.ofNat 32 x.count
  else if i = 1 then half (twos 64 x.latchedSum) 0
  else if i = 2 then half (twos 64 x.latchedSum) 1
  else if i = 3 then half x.latchedSq 0
  else if i = 4 then half x.latchedSq 1
  else 0
def rowWord (d : Dev) (n : Nat) (b : Bool) : Word :=
  let r := rowOf d n
  if b then pack [(0, r.delay)] else pack [(0, r.channel), (8, r.tally), (16, r.repeatM1)]
def biasMuxOf (d : Dev) (m : Nat) : Nat := tabGet (fun m => 12 * m) d.bench.biasMux m
def telWord (d : Dev) (o : Nat) : Word :=
  if o < 0x400 then tallyWord d (o / 0x20) (o % 0x20 / 4)
  else if o < 0x800 then rowWord d ((o - 0x400) / 8) (o % 8 == 4)
  else if o < 0x880 then
    (let x := tallyOf d ((o - 0x800) / 4)
     pack [(0, twos 16 x.min), (16, twos 16 x.max)])
  else if o = 0x888 then satMask d
  else if o = 0x900 then pack [(0, b2n d.meas.run), (8, d.meas.seqLen)]
  else if o = 0x904 then telStatusValue d
  else if o = 0x908 then pack [(0, d.meas.urgentChannel), (8, d.meas.urgentTally), (29, b2n d.meas.urgentDropped), (30, b2n d.meas.urgentDone),
    (31, b2n d.meas.urgent.isSome)]
  else if 0x910 ≤ o && o < 0x930 then BitVec.ofNat 32 (biasMuxOf d ((o - 0x910) / 4))
  else if o = 0xF00 then pack [(1, b2n d.meas.freezeReq)]
  else if o = 0xF04 then pack [(0, b2n (d.meas.captured.isSome || d.meas.snapAt.isSome)), (1, b2n d.meas.frozen)]
  else if o = 0xF08 then BitVec.ofNat 32 d.meas.snapPeriod
  else if 0xF10 ≤ o && o < 0xF20 then tabGet (fun _ => 0) d.meas.snapUser ((o - 0xF10) / 4)
  else 0
/-- Memory integrity (R434). -/
def recordWord (x : Option ErrorRecord) (i : Nat) : Word :=
  match x with
  | none => 0
  | some r =>
    if i = 0 then pack [(0, 1), (1, r.region), (4, r.consumer), (8, r.syndrome), (16, r.source)]
    else if i = 1 then half r.addr 0
    else if i = 2 then BitVec.ofNat 32 (r.addr / 2 ^ 32 % 256)
    else if i = 3 then half r.time 0
    else half r.time 1
def logWord (x : LogGroup) (i : Nat) : Word :=
  if i < 5 then recordWord x.first i
  else if i < 10 then recordWord x.second (i - 5)
  else if i = 10 then BitVec.ofNat 32 x.overflow
  else if i = 11 then half x.lastAddr 0
  else if i = 12 then BitVec.ofNat 32 (x.lastAddr / 2 ^ 32 % 256)
  else 0
def linkWord (x : LinkState) (i : Nat) : Word :=
  if i = 0 then pack [(0, if x.down then 2 else if x.retraining then 1 else 0), (8, x.retrains)]
  else if i = 1 then BitVec.ofNat 32 x.retries
  else if i = 2 then BitVec.ofNat 32 x.exhaust
  else 0
def miWord (d : Dev) (o : Nat) : Word :=
  if o = 0 then pack [(0, (devMode d).code), (2, b2n d.mem.flipArmed), (3, b2n d.mem.flipIgnored), (4, b2n d.mem.fill.isSome)]
  else if o = 4 then BitVec.ofNat 32 d.mem.flipTarget
  else if o = 8 then half d.mem.flipMask.toNat 0
  else if o = 0xC then half d.mem.flipMask.toNat 1
  else if o = 0x10 then half d.mem.flipMask.toNat 2
  else if o = 0x18 then half d.mem.fillMap.toNat 0
  else if o = 0x1C then half d.mem.fillMap.toNat 1
  else if o = 0x20 then BitVec.ofNat 32 d.mem.group0.ce
  else if o = 0x24 then BitVec.ofNat 32 d.mem.group1.ce
  else if o = 0x28 then BitVec.ofNat 32 d.mem.ceThreshold
  else if 0x100 ≤ o && o < 0x300 then logWord (logGroup d ((o - 0x100) / 0x100)) (o % 0x100 / 4)
  else if 0x400 ≤ o && o < 0x4A0 then linkWord (linkOf d ((o - 0x400) / 0x10)) (o % 0x10 / 4)
  else 0
/-- Security status (R338). -/
def holdCount (d : Dev) : Nat := (d.cipher.tx.filter (fun e => e.2.hold)).length
def secWord (d : Dev) (o : Nat) : Word :=
  if o = 0 then pack [(0, b2n d.fw.secureBoot), (1, b2n d.trust.zeroized), (2, b2n d.trust.identityErased), (3, b2n d.pins.zeroizeLow),
    (8, d.trust.svnFloor.toNat), (16, vaultUsed d)]
  else if o = 4 then pack [(0, agreementsRunning d), (16, holdCount d)]
  else if o = 8 then half d.trust.tagLocked.toNat 0
  else if o = 0xC then half d.trust.tagLocked.toNat 1
  else 0
/-- The value of the register at an aligned BAR0 offset; write-only and unused offsets read zero (R437); an access at an
offset that is no multiple of 4 reaches this through readReg alone, split at words. DESIGN CHOICE (log 100): every W1S bit
that is a command (DOORBELL, RELEASE, TAKE, TRACK_RESET, TALLY_CLEAR, ARM) reads 0: R8 says that writing 1 sets the bit and nothing says when it clears; the state that it starts is read in its own status field. -/
def regValue (o : Nat) (d : Dev) : Word :=
  if o % 4 ≠ 0 then 0
  else if o < 0x1000 then idWord d o
  else if o < 0x2000 then BitVec.ofNat 32 (u32 (tagArea d) (o - 0x1000))
  else if inSpan 0x10000 0x18000 o then BitVec.ofNat 32 (leNat (windowBytes (box d ((o - 0x10000) / 0x1000)) (o % 0x1000) 4))
  else if inSpan 0x18000 0x18080 o then (if o % 0x10 = 4 then mbStateWord d ((o - 0x18000) / 0x10) else 0)
  else if inSpan 0x20000 0x30000 o then ecWord d (o - 0x20000)
  else if inSpan 0x30000 0x40000 o then powerWord d (o - 0x30000)
  else if inSpan 0x40000 0x50000 o then timeWord d (o - 0x40000)
  else if inSpan 0x50000 0x60000 o then telWord d (o - 0x50000)
  else if inSpan 0x60000 0x70000 o then miWord d (o - 0x60000)
  else if inSpan 0x70000 0x80000 o then brakeWord d (o - 0x70000)
  else if inSpan 0x80000 0x100000 o then snapWindowWord d (o - 0x80000)
  else if inSpan 0x100000 0x110000 o then secWord d (o - 0x100000)
  else 0

/-! ## What a read does besides -/

/-- Registers whose read has an effect: latches and RC fields. -/
def readEffect (o : Nat) (d : Dev) : Dev :=
  if o % 4 ≠ 0 then d
  else if inSpan 0x20100 0x20200 o then hostClaim ((o - 0x20100) / 4) d
  else if o = 0x40000 then latchDevtime d
  else if inSpan 0x50000 0x50400 o then (if o % 0x20 = 0 then latchTally ((o - 0x50000) / 0x20) d else d)
  else if o = 0x50904 then clearDrops d
  else if o = 0x60020 then clearCe 0 d
  else if o = 0x60024 then clearCe 1 d
  else if o = 0x60128 then clearOverflow 0 d
  else if o = 0x60228 then clearOverflow 1 d
  else if inSpan 0x60400 0x604A0 o then
    (let l := (o - 0x60400) / 0x10
     if o % 0x10 = 4 then setLink l { linkOf d l with retries := 0 } d
     else if o % 0x10 = 8 then setLink l { linkOf d l with exhaust := 0 } d
     else d)
  else d
/-- Why an access to an offset meets no register: the BLOCK_ID recorded. In SLEEP and DEEP SLEEP the SMP reaches the identity block, the tag
window and the power window alone (R459). DEDUCED: an offset there that belongs to no block is recorded under block 1, whose stopped clock
bars the way to it. -/
def downAt (o : Nat) (who : Accessor) (d : Dev) : Option Nat :=
  let b := windowBlock o
  if inDiag o && diagLocked d then some 0xFE
  else if who == .smp && asleep d && !(decide (o < 0x2000) || inSpan 0x30000 0x40000 o) then some (if b = 0xFF then 1 else b)
  else if blockDown d b then some b
  else none
/-- A read of the aligned register at an offset over SMP: the value, and the device after it. What an open diagnostic window reads as
is a free value. -/
def readAligned (o : Nat) (d : Dev) : Word × Dev :=
  match downAt o .smp d with
  | some b => (downValue, noteDown b d)
  | none => if inDiag o then (let (v, d1) := drawFree d; (v.setWidth 32, d1)) else (regValue o d, readEffect o d)
/-- A 32-bit read at an offset. DEDUCED: at one that is not aligned it is the two narrower reads of the registers that it touches, each
with its full side effects (R438). -/
def readReg (o : Nat) (d : Dev) : Word × Dev :=
  let k := o % 4
  if k = 0 then readAligned o d
  else
    let a := readAligned (o - k) d
    let b := readAligned (o - k + 4) a.2
    ((a.1 >>> (8 * k)) ||| (b.1 <<< (32 - 8 * k)), b.2)

/-! ## What a write does -/

def setMail (m : Mail) (d : Dev) : Dev := { d with mail := m }
def writeId (o : Nat) (who : Accessor) (v : Word) (d : Dev) : Dev :=
  if o = 0xC then (if bit v 0 then setMail { d.mail with down := {} } d else d)
  else if o = 0x10 then (if bit v 5 then { d with fw := { d.fw with fallback := false } } else d)
  else if o = 0x14 then (if who = .firmware then d else hostRestart v d)
  else if o = 0x18 then (if who = .pcie then setMail { d.mail with smpWriteDisable := bit v 0 } d else d)
  else d
/-- The enabled bytes of a word written to a mailbox window. -/
def wordCells (i : Nat) (enables : BitVec 4) (v : Word) : List (Fin 4096 × Byte) :=
  ((le 4 v.toNat).zipIdx.filter (fun p => enables.getLsbD p.2)).map (fun p => (Fin.ofNat 4096 (i + p.2), p.1))
def writeMailReg (mb r : Nat) (who : Accessor) (v : Word) (d : Dev) : Dev :=
  match portOf who with
  | none => if r = 4 then stateClear d else d
  | some p =>
    if r = 0 then (if bit v 0 then ringDoorbell mb p d else d)
    else if r = 4 then stateClear d
    else if r = 8 then (if bit v 0 then releaseBox mb p d else d)
    else d
where
  stateClear (d : Dev) : Dev :=
    let b := box d mb
    setBox mb { b with doorbellErr := b.doorbellErr && !bit v 3, writeErr := b.writeErr && !bit v 4 } d
/-- EC_MOD: a MOD_COUNT of 0 is stored as 1. -/
def writeMod (t : Nat) (v : Word) (d : Dev) : Dev :=
  { d with ec := { d.ec with
      modr := tabPut modReset d.ec.modr t (pack [(0, if fld v 0 8 = 0 then 1 else fld v 0 8), (8, fld v 8 16), (24, fld v 24 4)]) } }
def writeEc (o : Nat) (v : Word) (d : Dev) : Dev :=
  if o = 8 then ackVectors false v d
  else if o = 0xC then ackVectors true v d
  else if 0x10 ≤ o && o < 0x24 then writeMod ((o - 0x10) / 4) v d
  else if 0x1000 ≤ o && o < 0x3000 then writeSrcCfg ((o - 0x1000) / 4) v d
  else if 0x3000 ≤ o && o < 0x3100 then forBits softSet ((o - 0x3000) / 4) v d
  else if 0x3100 ≤ o && o < 0x3200 then clearBits ((o - 0x3100) / 4) v d
  else d
def writePower (o : Nat) (who : Accessor) (v : Word) (d : Dev) : Dev :=
  let p := d.power
  if o = 0 then (if who = .firmware then d else clearTrip v d)
  else if o = 4 then setPower { p with wakeEn := v.setWidth 6, engineMask := BitVec.ofNat 16 (fld v 16 16) } d
  else if o = 8 then setPower { p with wakeTimer := fld v 0 24 } d
  else if o = 0xC then setPower { p with retDepot := BitVec.ofNat 64 (p.retDepot.toNat / 2 ^ 32 * 2 ^ 32 + v.toNat) } d
  else if o = 0x10 then setPower { p with retDepot := BitVec.ofNat 64 (p.retDepot.toNat % 2 ^ 32 + v.toNat * 2 ^ 32) } d
  else if o = 0x14 then setPower { p with connRetain := bit v 0 } d
  else d
def writeTime (o : Nat) (who : Accessor) (v : Word) (d : Dev) : Dev :=
  if o = 0x10 then (if bit v 19 then { d with time := { d.time with steerErr := false } } else d)
  else if o = 0x14 then setLoop (bit v 0) d
  else if who = .firmware then d
  else if o = 0x18 then writeSteerFreq v d
  else if o = 0x24 then writeSteerSlew v d
  else d
/-- SNAP_PERIOD: larger values are stored as 100,000 ms. -/
def writePeriod (v : Word) (d : Dev) : Dev :=
  let p := min (fld v 0 17) 100000
  { d with meas := { d.meas with snapPeriod := p, periodsTaken := if p = 0 then 0 else nowMs d / p } }
/-- TEL_BIAS_MUX; DEDUCED: an output beyond 95 is discarded. -/
def writeMux (m : Nat) (v : Word) (d : Dev) : Dev :=
  if fld v 0 7 ≤ 95 then { d with bench := { d.bench with biasMux := tabPut (fun m => 12 * m) d.bench.biasMux m (fld v 0 7) } } else d
/-- TEL_URGENT by an offset: the sample is a free value. -/
def writeUrgentFree (v : Word) (d : Dev) : Dev :=
  let (x, d1) := drawFree d
  writeUrgent (x.setWidth 16) v d1
def writeTel (o : Nat) (who : Accessor) (v : Word) (d : Dev) : Dev :=
  if 0x400 ≤ o && o < 0x800 then writeRow ((o - 0x400) / 8) (o % 8 == 4) v d
  else if o = 0x880 then resetTrackers v d
  else if o = 0x884 then clearTallies v d
  else if o = 0x900 then writeTelCtrl v d
  else if o = 0x908 then writeUrgentFree v d
  else if 0x910 ≤ o && o < 0x930 then writeMux ((o - 0x910) / 4) v d
  else if o = 0xF00 then writeSnapCtrl v d
  else if o = 0xF08 then writePeriod v d
  else if 0xF10 ≤ o && o < 0xF20 && who ≠ .firmware then writeSnapUser ((o - 0xF10) / 4) v d
  else d
/-- One 32-bit part of the flip mask. -/
def writeFlipPart (i : Nat) (v : Word) (d : Dev) : Dev :=
  let m := d.mem.flipMask.toNat
  let n := if i = 2 then 8 else 32
  let w := m - m / 2 ^ (32 * i) % 2 ^ n * 2 ^ (32 * i) + v.toNat % 2 ^ n * 2 ^ (32 * i)
  { d with mem := { d.mem with flipMask := BitVec.ofNat 72 w } }
def writeMi (o : Nat) (who : Accessor) (v : Word) (d : Dev) : Dev :=
  if o = 0 then (if bit v 3 then { d with mem := { d.mem with flipIgnored := false } } else d)
  else if o = 0x28 then { d with mem := { d.mem with ceThreshold := fld v 0 16 } }
  else if o = 0x100 then clearFirst 0 v d
  else if o = 0x200 then clearFirst 1 v d
  else if who = .firmware then d
  else if o = 4 then writeFlipCtrl v d
  else if o = 8 then writeFlipPart 0 v d
  else if o = 0xC then writeFlipPart 1 v d
  else if o = 0x10 then writeFlipPart 2 v d
  else d
/-- Brake registers, which only the host writes (R330). -/
def writeBrake (o : Nat) (v : Word) (d : Dev) : Dev :=
  if o = 0 then writeBrakeLock v d
  else if o = 4 then setBrakes (fun b => { b with writeErr := b.writeErr && !bit v 8 }) d
  else if o = 8 then writeKeyCeiling v d
  else if o = 0xC then writeSlotBrake v d
  else if o = 0x10 then writeFreezeCtrl v d
  else if 0x100 ≤ o && o < 0x140 then writeEngBrake ((o - 0x100) / 4) v d
  else if 0x200 ≤ o && o < 0x500 then (if o % 8 = 0 then writeBiasWindow ((o - 0x200) / 8) v d else writeBiasSlew ((o - 0x200) / 8) v d)
  else if 0x800 ≤ o && o < 0xA00 then writeSecureMask ((o - 0x800) / 4) v d
  else d
/-- The effect of a write that reaches the register at an offset. -/
def writeEffect (o : Nat) (who : Accessor) (v : Word) (d : Dev) : Dev :=
  if o % 4 ≠ 0 then d
  else if o < 0x1000 then writeId o who v d
  else if inSpan 0x18000 0x18080 o then writeMailReg ((o - 0x18000) / 0x10) (o % 0x10) who v d
  else if inSpan 0x20000 0x30000 o then writeEc (o - 0x20000) v d
  else if inSpan 0x30000 0x40000 o then writePower (o - 0x30000) who v d
  else if inSpan 0x40000 0x50000 o then writeTime (o - 0x40000) who v d
  else if inSpan 0x50000 0x60000 o then writeTel (o - 0x50000) who v d
  else if inSpan 0x60000 0x70000 o then writeMi (o - 0x60000) who v d
  else if inSpan 0x70000 0x80000 o && who ≠ .firmware then writeBrake (o - 0x70000) v d
  else d
/-- A write to a mailbox window, which takes any byte enables (R438): the enabled bytes are stored. -/
def writeWindowAt (o : Nat) (w : RegWrite) : Act :=
  regWrite 1 { w with enables := 0xF } fun v d => writeWindow ((o - 0x10000) / 0x1000) (wordCells (o % 0x1000) w.enables v) d
/-- A write of a 32-bit register by its aligned offset. One that meets no register is discarded and recorded. -/
def writeAligned (o : Nat) (w : RegWrite) (d : Dev) : Dev :=
  if inSpan 0x10000 0x18000 o then writeWindowAt o w d
  else if !writeLands w d then d
  else match downAt o w.who d with
    | some b => noteDown b d
    | none => if inDiag o then d else writeEffect o w.who w.value d
/-- A write at an offset. One that is not aligned is two partial writes, which mailbox windows alone take (R438). -/
def writeReg (o : Nat) (w : RegWrite) (d : Dev) : Dev :=
  let k := o % 4
  let part (o : Nat) (e : BitVec 4) (v : Word) (d : Dev) : Dev :=
    if inSpan 0x10000 0x18000 o then writeWindowAt o { w with enables := e, value := v } d else d
  if k = 0 then writeAligned o w d
  else part (o - k + 4) (w.enables >>> (4 - k)) (w.value >>> (32 - 8 * k)) (part (o - k) (w.enables <<< k) (w.value <<< (8 * k)) d)

/-! ## The commands -/

/-- A write at an offset would change a diagnostic unit, whose behaviour in TEST and START_UP the manual does not give (R439). -/
def opensDiag (o : Nat) (w : RegWrite) (d : Dev) : Bool :=
  decide (o % 4 = 0) && inDiag o && (downAt o w.who d).isNone && writeLands w d
def execRegisterWrite (space : RegSpace) (offset : Word) (w : RegWrite) (s : State) : Host.Outcome State Fault Refusal :=
  match space with
  | .bar0 => if opensDiag offset.toNat w s.dev then .refused .diagnosticWindow else lift (writeReg offset.toNat w) s
  | .bar2 => lift (writeMsix (writeTable offset.toNat) w) s
  | .msixControl => lift (writeMsix writeMsixControl w) s

/-- A word that the SMP writes. -/
def smpWord (v : Word) : RegWrite := { who := .smp, enables := 0xF, value := v }
/-- One complete group of an SMP write; the pointer moves on by 4. -/
def smpGroup (v : Word) (d : Dev) : Dev :=
  let d1 := writeReg d.mail.smpPointer.toNat (smpWord v) d
  setMail { d1.mail with smpPointer := d.mail.smpPointer + 4 } d1
/-- The complete groups of a transaction; what is left at STOP is discarded. -/
def groupsOf : List Byte → List Word
  | a :: b :: c :: e :: t => BitVec.ofNat 32 (leNat [a, b, c, e]) :: groupsOf t
  | _ => []
/-- The device acknowledges its address: not in OFF, nor before boot ROM starts (R457, R532). -/
def smpAnswers (d : Dev) : Bool := d.power.state != .off && d.fw.stage != 0
def setPointer (offset : Word) (d : Dev) : Dev := setMail { d.mail with smpPointer := offset } d
/-- A whole write transaction. -/
def smpWrite (offset : Word) (bytes : List Byte) (d : Dev) : Dev := (groupsOf bytes).foldl (fun d v => smpGroup v d) (setPointer offset d)
/-- Some group of a transaction would change an open diagnostic unit. -/
def smpOpensDiag (offset : Word) (n : Nat) (d : Dev) : Bool :=
  (List.range n).any (fun i => opensDiag (offset + BitVec.ofNat 32 (4 * i)).toNat (smpWord 0) d)
def execSmpWrite (offset : Word) (bytes : List Byte) (s : State) : Host.Outcome State Fault Refusal :=
  if smpAnswers s.dev && smpOpensDiag offset (groupsOf bytes).length s.dev then .refused .diagnosticWindow
  else lift (fun d => guard (smpAnswers d) (smpWrite offset bytes) d) s
def execSmpPointer (offset : Word) : State → Host.Outcome State Fault Refusal :=
  lift fun d => guard (smpAnswers d) (setPointer offset) d
/-- Values read from the pointer on. -/
def smpValues : Nat → Dev → List Word × Dev
  | 0, d => ([], d)
  | n + 1, d =>
    let r := readReg d.mail.smpPointer.toNat d
    let d1 := setMail { r.2.mail with smpPointer := d.mail.smpPointer + 4 } r.2
    let t := smpValues n d1
    (r.1 :: t.1, t.2)
def execSmpRead (count : Fin 256) : State → Host.Outcome State Fault Refusal :=
  lift fun d => guard (smpAnswers d) (fun d => let r := smpValues count d; setOut r.1 r.2) d

end Sys2Proof.Machine
end

