-- ==== Sys2Proof/Machine/Dispatch.lean ====
section
/-! DEFINITION. One arm per command: its meaning. -/

namespace Sys2Proof.Machine

def exec (i : Instr) (s : State) : Host.Outcome State Fault Refusal :=
  match i with
  | .hello mb => Sys2Proof.Machine.execHello mb s
  | .laserConfig mb => Sys2Proof.Machine.execLaserConfig mb s
  | .laserXfer mb bus => Sys2Proof.Machine.execLaserXfer mb bus s
  | .fwStage mb => Sys2Proof.Machine.execFwStage mb s
  | .fwActivate mb => Sys2Proof.Machine.execFwActivate mb s
  | .engTxConfig mb => Sys2Proof.Machine.execEngTxConfig mb s
  | .coachConfig mb => Sys2Proof.Machine.execCoachConfig mb s
  | .coachEval mb => Sys2Proof.Machine.execCoachEval mb s
  | .hitchConfig mb => Sys2Proof.Machine.execHitchConfig mb s
  | .txPreemph mb => Sys2Proof.Machine.execTxPreemph mb s
  | .biasConfig mb => Sys2Proof.Machine.execBiasConfig mb s
  | .engTxStatus mb => Sys2Proof.Machine.execEngTxStatus mb s
  | .engRxConfig mb => Sys2Proof.Machine.execEngRxConfig mb s
  | .coachRxConfig mb => Sys2Proof.Machine.execCoachRxConfig mb s
  | .rxEqConfig mb => Sys2Proof.Machine.execRxEqConfig mb s
  | .rxReacquire mb => Sys2Proof.Machine.execRxReacquire mb s
  | .engRxStatus mb => Sys2Proof.Machine.execEngRxStatus mb s
  | .coachRxStatus mb => Sys2Proof.Machine.execCoachRxStatus mb s
  | .poolConfig mb => Sys2Proof.Machine.execPoolConfig mb s
  | .poolCoachConfig mb => Sys2Proof.Machine.execPoolCoachConfig mb s
  | .poolStatus mb => Sys2Proof.Machine.execPoolStatus mb s
  | .poolCoachStatus mb => Sys2Proof.Machine.execPoolCoachStatus mb s
  | .frameConfig mb => Sys2Proof.Machine.execFrameConfig mb s
  | .frameStatus mb => Sys2Proof.Machine.execFrameStatus mb s
  | .defectConfig mb => Sys2Proof.Machine.execDefectConfig mb s
  | .defectStatus mb => Sys2Proof.Machine.execDefectStatus mb s
  | .pmConfig mb => Sys2Proof.Machine.execPmConfig mb s
  | .pmRead mb => Sys2Proof.Machine.execPmRead mb s
  | .pmClear mb => Sys2Proof.Machine.execPmClear mb s
  | .queueConfig mb => Sys2Proof.Machine.execQueueConfig mb s
  | .queueStatus mb => Sys2Proof.Machine.execQueueStatus mb s
  | .slotWrite mb => Sys2Proof.Machine.execSlotWrite mb s
  | .slotRead mb => Sys2Proof.Machine.execSlotRead mb s
  | .slotCopy mb => Sys2Proof.Machine.execSlotCopy mb s
  | .slotArm mb => Sys2Proof.Machine.execSlotArm mb s
  | .rxSlotArm mb => Sys2Proof.Machine.execRxSlotArm mb s
  | .slotCancel mb => Sys2Proof.Machine.execSlotCancel mb s
  | .slotSwapStatus mb => Sys2Proof.Machine.execSlotSwapStatus mb s
  | .queueFlush mb => Sys2Proof.Machine.execQueueFlush mb s
  | .spillConfig mb => Sys2Proof.Machine.execSpillConfig mb s
  | .cliPortConfig mb => Sys2Proof.Machine.execCliPortConfig mb s
  | .cliLaneConfig mb => Sys2Proof.Machine.execCliLaneConfig mb s
  | .cliLaneStatus mb => Sys2Proof.Machine.execCliLaneStatus mb s
  | .cliLaneTest mb => Sys2Proof.Machine.execCliLaneTest mb s
  | .cliRecclk mb => Sys2Proof.Machine.execCliRecclk mb s
  | .cipherConfig mb => Sys2Proof.Machine.execCipherConfig mb s
  | .cipherKeyLoad mb => Sys2Proof.Machine.execCipherKeyLoad mb s
  | .cipherStatus mb => Sys2Proof.Machine.execCipherStatus mb s
  | .cipherJob mb => Sys2Proof.Machine.execCipherJob mb s
  | .cipherCtx mb => Sys2Proof.Machine.execCipherCtx mb s
  | .secCertRead mb => Sys2Proof.Machine.execSecCertRead mb s
  | .secAttest mb => Sys2Proof.Machine.execSecAttest mb s
  | .keyGenerate mb => Sys2Proof.Machine.execKeyGenerate mb s
  | .keyImport mb => Sys2Proof.Machine.execKeyImport mb s
  | .keyExport mb => Sys2Proof.Machine.execKeyExport mb s
  | .keyDestroy mb => Sys2Proof.Machine.execKeyDestroy mb s
  | .kekEstablish mb => Sys2Proof.Machine.execKekEstablish mb s
  | .keyPolicy mb => Sys2Proof.Machine.execKeyPolicy mb s
  | .kaStart mb => Sys2Proof.Machine.execKaStart mb s
  | .kaStatus mb => Sys2Proof.Machine.execKaStatus mb s
  | .zeroize mb => Sys2Proof.Machine.execZeroize mb s
  | .tagWrite mb => Sys2Proof.Machine.execTagWrite mb s
  | .tagLock mb => Sys2Proof.Machine.execTagLock mb s
  | .svnCommit mb => Sys2Proof.Machine.execSvnCommit mb s
  | .twinConfig mb => Sys2Proof.Machine.execTwinConfig mb s
  | .twinStatus mb => Sys2Proof.Machine.execTwinStatus mb s
  | .twinCommandForce mb => Sys2Proof.Machine.execTwinCommandForce mb s
  | .twinCommandRestart mb => Sys2Proof.Machine.execTwinCommandRestart mb s
  | .yardConfig mb => Sys2Proof.Machine.execYardConfig mb s
  | .ixtasEngConfig mb => Sys2Proof.Machine.execIxtasEngConfig mb s
  | .ixtasCoachConfig mb => Sys2Proof.Machine.execIxtasCoachConfig mb s
  | .ixtasEngStatus mb => Sys2Proof.Machine.execIxtasEngStatus mb s
  | .ixtasPartnerStatus mb => Sys2Proof.Machine.execIxtasPartnerStatus mb s
  | .ixtasSend mb => Sys2Proof.Machine.execIxtasSend mb s
  | .ixtasRecv mb => Sys2Proof.Machine.execIxtasRecv mb s
  | .wakeSend mb => Sys2Proof.Machine.execWakeSend mb s
  | .timeRefConfig mb => Sys2Proof.Machine.execTimeRefConfig mb s
  | .timeConfig mb => Sys2Proof.Machine.execTimeConfig mb s
  | .timeSelect mb => Sys2Proof.Machine.execTimeSelect mb s
  | .timeStatus mb => Sys2Proof.Machine.execTimeStatus mb s
  | .timeAdjust mb => Sys2Proof.Machine.execTimeAdjust mb s
  | .timeSteer mb => Sys2Proof.Machine.execTimeSteer mb s
  | .memFill mb => Sys2Proof.Machine.execMemFill mb s
  | .memStatus mb => Sys2Proof.Machine.execMemStatus mb s
  | .scrubConfig mb => Sys2Proof.Machine.execScrubConfig mb s
  | .memDiag mb => Sys2Proof.Machine.execMemDiag mb s
  | .dmaResume mb => Sys2Proof.Machine.execDmaResume mb s
  | .snapRead mb => Sys2Proof.Machine.execSnapRead mb s
  | .snapQueueRead mb => Sys2Proof.Machine.execSnapQueueRead mb s
  | .ctrSelect mb => Sys2Proof.Machine.execCtrSelect mb s
  | .calConfig mb => Sys2Proof.Machine.execCalConfig mb s
  | .calRun mb => Sys2Proof.Machine.execCalRun mb s
  | .calStatus mb => Sys2Proof.Machine.execCalStatus mb s
  | .calRead mb => Sys2Proof.Machine.execCalRead mb s
  | .calRestore mb => Sys2Proof.Machine.execCalRestore mb s
  | .pwrState mb => Sys2Proof.Machine.execPwrState mb s
  | .pwrDomain mb => Sys2Proof.Machine.execPwrDomain mb s
  | .pwrConfig mb => Sys2Proof.Machine.execPwrConfig mb s
  | .pwrStatus mb => Sys2Proof.Machine.execPwrStatus mb s
  | .registerWrite space offset w => Sys2Proof.Machine.execRegisterWrite space offset w s
  | .devtimeLoRead r => Sys2Proof.Machine.execDevtimeLoRead r s
  | .fwRestart w => Sys2Proof.Machine.execFwRestart w s
  | .mbDoorbell mb w => Sys2Proof.Machine.execMbDoorbell mb w s
  | .mbRelease mb w => Sys2Proof.Machine.execMbRelease mb w s
  | .mailboxWindowWrite mb who bytes => Sys2Proof.Machine.execMailboxWindowWrite mb who bytes s
  | .brakeLock w => Sys2Proof.Machine.execBrakeLock w s
  | .engBrake n w => Sys2Proof.Machine.execEngBrake n w s
  | .biasWindow b w => Sys2Proof.Machine.execBiasWindow b w s
  | .biasSlew b w => Sys2Proof.Machine.execBiasSlew b w s
  | .keyCeiling w => Sys2Proof.Machine.execKeyCeiling w s
  | .slotBrake w => Sys2Proof.Machine.execSlotBrake w s
  | .freezeCtrl w => Sys2Proof.Machine.execFreezeCtrl w s
  | .secureMask k w => Sys2Proof.Machine.execSecureMask k w s
  | .timeCtrl w => Sys2Proof.Machine.execTimeCtrl w s
  | .steerFreq w => Sys2Proof.Machine.execSteerFreq w s
  | .steerSlew w => Sys2Proof.Machine.execSteerSlew w s
  | .ecClaim x => Sys2Proof.Machine.execEcClaim x s
  | .ecComplete x value => Sys2Proof.Machine.execEcComplete x value s
  | .ecSetpend x value => Sys2Proof.Machine.execEcSetpend x value s
  | .ecPend k w => Sys2Proof.Machine.execEcPend k w s
  | .ecPendClr k w raisedNow => Sys2Proof.Machine.execEcPendClr k w raisedNow s
  | .ecHostClaim r v => Sys2Proof.Machine.execEcHostClaim r v s
  | .ecHostUnack hi w => Sys2Proof.Machine.execEcHostUnack hi w s
  | .ecSrcCfg src w => Sys2Proof.Machine.execEcSrcCfg src w s
  | .miFlipCtrl w => Sys2Proof.Machine.execMiFlipCtrl w s
  | .firstInfo g w => Sys2Proof.Machine.execFirstInfo g w s
  | .overflowRead r g => Sys2Proof.Machine.execOverflowRead r g s
  | .miCeSram r => Sys2Proof.Machine.execMiCeSram r s
  | .miCeHbm r => Sys2Proof.Machine.execMiCeHbm r s
  | .linkRetries r l => Sys2Proof.Machine.execLinkRetries r l s
  | .linkExhaust r l => Sys2Proof.Machine.execLinkExhaust r l s
  | .tallyCount r t => Sys2Proof.Machine.execTallyCount r t s
  | .trackReset w => Sys2Proof.Machine.execTrackReset w s
  | .tallyClear w => Sys2Proof.Machine.execTallyClear w s
  | .telUrgent w sample => Sys2Proof.Machine.execTelUrgent w sample s
  | .telStatus r => Sys2Proof.Machine.execTelStatus r s
  | .telCtrl w => Sys2Proof.Machine.execTelCtrl w s
  | .sequencerRow n rowB w => Sys2Proof.Machine.execSequencerRow n rowB w s
  | .snapTake w => Sys2Proof.Machine.execSnapTake w s
  | .snapFreeze w => Sys2Proof.Machine.execSnapFreeze w s
  | .snapUser k w => Sys2Proof.Machine.execSnapUser k w s
  | .tripLatchedClear w => Sys2Proof.Machine.execTripLatchedClear w s
  | .smpWrite offset bytes => Sys2Proof.Machine.execSmpWrite offset bytes s
  | .smpPointer offset => Sys2Proof.Machine.execSmpPointer offset s
  | .smpRead count => Sys2Proof.Machine.execSmpRead count s
  | .powerOnReset strap zeroizeLow => Sys2Proof.Machine.execPowerOnReset strap zeroizeLow s
  | .deviceReset strap zeroizeLow => Sys2Proof.Machine.execDeviceReset strap zeroizeLow s
  | .perstN high => Sys2Proof.Machine.execPerstN high s
  | .pcieReset => Sys2Proof.Machine.execPcieReset s
  | .txmuteNLow => Sys2Proof.Machine.execTxmuteNLow s
  | .txmuteNHigh => Sys2Proof.Machine.execTxmuteNHigh s
  | .unmuted n => Sys2Proof.Machine.execUnmuted n s
  | .zeroizeN low => Sys2Proof.Machine.execZeroizeN low s
  | .snapPin => Sys2Proof.Machine.execSnapPin s
  | .ppsinEdge => Sys2Proof.Machine.execPpsinEdge s
  | .testmode high => Sys2Proof.Machine.execTestmode high s
  | .wakePin => Sys2Proof.Machine.execWakePin s
  | .smpMatch => Sys2Proof.Machine.execSmpMatch s
  | .light n => Sys2Proof.Machine.execLight n s
  | .clientSignal l => Sys2Proof.Machine.execClientSignal l s
  | .wakeTimer => Sys2Proof.Machine.execWakeTimer s
  | .thermalTrip m => Sys2Proof.Machine.execThermalTrip m s
  | .thermalWarn m => Sys2Proof.Machine.execThermalWarn m s
  | .surgeHot m => Sys2Proof.Machine.execSurgeHot m s
  | .laserLow n => Sys2Proof.Machine.execLaserLow n s
  | .laserRestored n => Sys2Proof.Machine.execLaserRestored n s
  | .losSet n => Sys2Proof.Machine.execLosSet n s
  | .losClear n => Sys2Proof.Machine.execLosClear n s
  | .flitReceived l toHub bytes => Sys2Proof.Machine.execFlitReceived l toHub bytes s
  | .flitAckTimeout l toHub seq => Sys2Proof.Machine.execFlitAckTimeout l toHub seq s
  | .retryExhaustion l toHub lost => Sys2Proof.Machine.execRetryExhaustion l toHub lost s
  | .linkRetrainDone l ok => Sys2Proof.Machine.execLinkRetrainDone l ok s
  | .memoryBlockReceived hb toHub seq words crc => Sys2Proof.Machine.execMemoryBlockReceived hb toHub seq words crc s
  | .retryWarn l => Sys2Proof.Machine.execRetryWarn l s
  | .biasSweepEnd b points => Sys2Proof.Machine.execBiasSweepEnd b points s
  | .biasLocked b => Sys2Proof.Machine.execBiasLocked b s
  | .biasFail n => Sys2Proof.Machine.execBiasFail n s
  | .biasUnlock b => Sys2Proof.Machine.execBiasUnlock b s
  | .firstFrameBoundary c => Sys2Proof.Machine.execFirstFrameBoundary c s
  | .txFrame c => Sys2Proof.Machine.execTxFrame c s
  | .legCut c leg => Sys2Proof.Machine.execLegCut c leg s
  | .acqStart c => Sys2Proof.Machine.execAcqStart c s
  | .cdSearchComplete c best second => Sys2Proof.Machine.execCdSearchComplete c best second s
  | .polConverged c => Sys2Proof.Machine.execPolConverged c s
  | .carrierLock c => Sys2Proof.Machine.execCarrierLock c s
  | .warmLock c => Sys2Proof.Machine.execWarmLock c s
  | .acqRetry c => Sys2Proof.Machine.execAcqRetry c s
  | .warmFail c => Sys2Proof.Machine.execWarmFail c s
  | .cwLock c => Sys2Proof.Machine.execCwLock c s
  | .cwFail c => Sys2Proof.Machine.execCwFail c s
  | .locSet c => Sys2Proof.Machine.execLocSet c s
  | .frameHuntTimeout c => Sys2Proof.Machine.execFrameHuntTimeout c s
  | .cycleSlip c => Sys2Proof.Machine.execCycleSlip c s
  | .chgApplied c => Sys2Proof.Machine.execChgApplied c s
  | .codewordArrival c cw => Sys2Proof.Machine.execCodewordArrival c cw s
  | .baseComplete c seq => Sys2Proof.Machine.execBaseComplete c seq s
  | .epochStart => Sys2Proof.Machine.execEpochStart s
  | .extensionRound late => Sys2Proof.Machine.execExtensionRound late s
  | .epochEnd => Sys2Proof.Machine.execEpochEnd s
  | .surgeWithdraw => Sys2Proof.Machine.execSurgeWithdraw s
  | .codewordRelease c => Sys2Proof.Machine.execCodewordRelease c s
  | .poolInterval => Sys2Proof.Machine.execPoolInterval s
  | .surgeGrant => Sys2Proof.Machine.execSurgeGrant s
  | .vidSettle => Sys2Proof.Machine.execVidSettle s
  | .powerEstimate now atP3 below97 => Sys2Proof.Machine.execPowerEstimate now atP3 below97 s
  | .exhausted => Sys2Proof.Machine.execExhausted s
  | .candidateTest c => Sys2Proof.Machine.execCandidateTest c s
  | .hbMiss c => Sys2Proof.Machine.execHbMiss c s
  | .segmentVerdict c g => Sys2Proof.Machine.execSegmentVerdict c g s
  | .legFrameDemap c leg => Sys2Proof.Machine.execLegFrameDemap c leg s
  | .reasmGap q => Sys2Proof.Machine.execReasmGap q s
  | .queueWordArrival q unit => Sys2Proof.Machine.execQueueWordArrival q unit s
  | .pauseRepeat q => Sys2Proof.Machine.execPauseRepeat q s
  | .twinCopyArrival w path skip => Sys2Proof.Machine.execTwinCopyArrival w path skip s
  | .twinDue w => Sys2Proof.Machine.execTwinDue w s
  | .twinHeartbeatSend c => Sys2Proof.Machine.execTwinHeartbeatSend c s
  | .twinHeartbeatReceive c word => Sys2Proof.Machine.execTwinHeartbeatReceive c word s
  | .ixtasHbMiss c => Sys2Proof.Machine.execIxtasHbMiss c s
  | .defectSample => Sys2Proof.Machine.execDefectSample s
  | .secondClassify => Sys2Proof.Machine.execSecondClassify s
  | .binRollover => Sys2Proof.Machine.execBinRollover s
  | .commaBlock l block skewed => Sys2Proof.Machine.execCommaBlock l block skewed s
  | .trainingFrame l block => Sys2Proof.Machine.execTrainingFrame l block s
  | .negRetry l => Sys2Proof.Machine.execNegRetry l s
  | .rateFallback l => Sys2Proof.Machine.execRateFallback l s
  | .eyeScore l eye => Sys2Proof.Machine.execEyeScore l eye s
  | .rsCodeword l corrected => Sys2Proof.Machine.execRsCodeword l corrected s
  | .cellReceived l cell => Sys2Proof.Machine.execCellReceived l cell s
  | .cellSend q => Sys2Proof.Machine.execCellSend q s
  | .sentCell l => Sys2Proof.Machine.execSentCell l s
  | .aisCell q => Sys2Proof.Machine.execAisCell q s
  | .ethFrameRx l frame => Sys2Proof.Machine.execEthFrameRx l frame s
  | .ethFrameTx q => Sys2Proof.Machine.execEthFrameTx q s
  | .preDetect n b corr => Sys2Proof.Machine.execPreDetect n b corr s
  | .preExpired n b challenger => Sys2Proof.Machine.execPreExpired n b challenger s
  | .syncMatch n b challenger word quality => Sys2Proof.Machine.execSyncMatch n b challenger word quality s
  | .hdrReject n b header => Sys2Proof.Machine.execHdrReject n b header s
  | .rxOk n b p => Sys2Proof.Machine.execRxOk n b p s
  | .fragTimeout n source ident => Sys2Proof.Machine.execFragTimeout n source ident s
  | .ixtasPacketStart n tone => Sys2Proof.Machine.execIxtasPacketStart n tone s
  | .helloPeriod c => Sys2Proof.Machine.execHelloPeriod c s
  | .helloPacket c => Sys2Proof.Machine.execHelloPacket c s
  | .capability c => Sys2Proof.Machine.execCapability c s
  | .trace c => Sys2Proof.Machine.execTrace c s
  | .capRequest c => Sys2Proof.Machine.execCapRequest c s
  | .hostMsg c => Sys2Proof.Machine.execHostMsg c s
  | .partnerLost c => Sys2Proof.Machine.execPartnerLost c s
  | .wakeSeen n tone words => Sys2Proof.Machine.execWakeSeen n tone words s
  | .kaInit c f => Sys2Proof.Machine.execKaInit c f s
  | .kaResp c f => Sys2Proof.Machine.execKaResp c f s
  | .kaConfirm c f => Sys2Proof.Machine.execKaConfirm c f s
  | .kaSettle c f => Sys2Proof.Machine.execKaSettle c f s
  | .kaConfirmRepeat c => Sys2Proof.Machine.execKaConfirmRepeat c s
  | .kaTimeout c => Sys2Proof.Machine.execKaTimeout c s
  | .kaRetry c => Sys2Proof.Machine.execKaRetry c s
  | .rotatePeriod c => Sys2Proof.Machine.execRotatePeriod c s
  | .refLost r sel => Sys2Proof.Machine.execRefLost r sel s
  | .refOffsetMeasure r offset sel => Sys2Proof.Machine.execRefOffsetMeasure r offset sel s
  | .driftEstimate r offset sel => Sys2Proof.Machine.execDriftEstimate r offset sel s
  | .refQualified r => Sys2Proof.Machine.execRefQualified r s
  | .refDisagree a b sel => Sys2Proof.Machine.execRefDisagree a b sel s
  | .timingLocked => Sys2Proof.Machine.execTimingLocked s
  | .holdoverSample => Sys2Proof.Machine.execHoldoverSample s
  | .steerStale => Sys2Proof.Machine.execSteerStale s
  | .ppsLost => Sys2Proof.Machine.execPpsLost s
  | .atPpsTimeout => Sys2Proof.Machine.execAtPpsTimeout s
  | .uncorrectableRead r => Sys2Proof.Machine.execUncorrectableRead r s
  | .correctedRead hbm => Sys2Proof.Machine.execCorrectedRead hbm s
  | .ceRate hbm => Sys2Proof.Machine.execCeRate hbm s
  | .scrubPass hbm => Sys2Proof.Machine.execScrubPass hbm s
  | .fillDone failed => Sys2Proof.Machine.execFillDone failed s
  | .calTemperatureEval => Sys2Proof.Machine.execCalTemperatureEval s
  | .calStart n => Sys2Proof.Machine.execCalStart n s
  | .calDone n => Sys2Proof.Machine.execCalDone n s
  | .telRow samples => Sys2Proof.Machine.execTelRow samples s
  | .snapshotTick periodic => Sys2Proof.Machine.execSnapshotTick periodic s
  | .snapshotPublish => Sys2Proof.Machine.execSnapshotPublish s
  | .moderationRelease t f => Sys2Proof.Machine.execModerationRelease t f s
  | .idleEntry => Sys2Proof.Machine.execIdleEntry s
  | .idleExit => Sys2Proof.Machine.execIdleExit s
  | .abortPoint refuser => Sys2Proof.Machine.execAbortPoint refuser s
  | .returnToRun elapsedNs => Sys2Proof.Machine.execReturnToRun elapsedNs s
  | .domainChange => Sys2Proof.Machine.execDomainChange s
  | .watchdog => Sys2Proof.Machine.execWatchdog s
  | .bootStage err => Sys2Proof.Machine.execBootStage err s
  | .reattachment verified rejected => Sys2Proof.Machine.execReattachment verified rejected s
  | .restartFailed rejected => Sys2Proof.Machine.execRestartFailed rejected s
  | .pcsAlignment l aligned localFault => Sys2Proof.Machine.execPcsAlignment l aligned localFault s
  | .refActivityBack r => Sys2Proof.Machine.execRefActivityBack r s
  | .gainLimit n high => Sys2Proof.Machine.execGainLimit n high s
  | .offsetWarn c delta => Sys2Proof.Machine.execOffsetWarn c delta s
  | .hitchWalkoff h ns => Sys2Proof.Machine.execHitchWalkoff h ns s
  | .lockLoopEdge b high => Sys2Proof.Machine.execLockLoopEdge b high s

end Sys2Proof.Machine
end

