-- ==== Sys2Proof/Safety.lean ====
section
/-! DEFINITION. What claims are stated in: a safe step, and a Virman command as the request it serves. -/

namespace Sys2Proof.Machine

/-- The block answers a next state: it neither faults nor refuses. -/
def StepSafe (s : State) : Prop := ∃ t, step s = .next t

/-- A Virman command: the mailbox whose request it takes, what serves it, and when the request in the window is this command's (two
opcodes carry two commands each; a transfer already on its bus is not taken again). -/
structure Request where
  mailbox : Mailbox
  service : Service
  applies : Dev → Bool := fun _ => true

/-- The request that a Virman command serves; none for a register access or an event. -/
def request : Instr → Option Request
  | .hello mb => some { mailbox := mb, service := helloService }
  | .laserConfig mb => some { mailbox := mb, service := laserConfigService }
  | .laserXfer mb _ => some { mailbox := mb, service := laserXferService, applies := fun d => !onBus d mb }
  | .fwStage mb => some { mailbox := mb, service := fwStageService }
  | .fwActivate mb => some { mailbox := mb, service := fwActivateService }
  | .engTxConfig mb => some { mailbox := mb, service := engTxConfigService }
  | .coachConfig mb => some { mailbox := mb, service := coachConfigService }
  | .coachEval mb => some { mailbox := mb, service := coachEvalService }
  | .hitchConfig mb => some { mailbox := mb, service := hitchConfigService }
  | .txPreemph mb => some { mailbox := mb, service := txPreemphService }
  | .biasConfig mb => some { mailbox := mb, service := biasConfigService }
  | .engTxStatus mb => some { mailbox := mb, service := engTxStatusService }
  | .engRxConfig mb => some { mailbox := mb, service := engRxConfigService }
  | .coachRxConfig mb => some { mailbox := mb, service := coachRxConfigService }
  | .rxEqConfig mb => some { mailbox := mb, service := rxEqService }
  | .rxReacquire mb => some { mailbox := mb, service := rxReacquireService }
  | .engRxStatus mb => some { mailbox := mb, service := engRxStatusService }
  | .coachRxStatus mb => some { mailbox := mb, service := coachRxStatusService }
  | .poolConfig mb => some { mailbox := mb, service := poolConfigService }
  | .poolCoachConfig mb => some { mailbox := mb, service := poolCoachConfigService }
  | .poolStatus mb => some { mailbox := mb, service := poolStatusService }
  | .poolCoachStatus mb => some { mailbox := mb, service := poolCoachStatusService }
  | .frameConfig mb => some { mailbox := mb, service := frameConfigService }
  | .frameStatus mb => some { mailbox := mb, service := frameStatusService }
  | .defectConfig mb => some { mailbox := mb, service := defectConfigService }
  | .defectStatus mb => some { mailbox := mb, service := defectStatusService }
  | .pmConfig mb => some { mailbox := mb, service := pmConfigService }
  | .pmRead mb => some { mailbox := mb, service := pmReadService }
  | .pmClear mb => some { mailbox := mb, service := pmClearService }
  | .queueConfig mb => some { mailbox := mb, service := queueConfigService }
  | .queueStatus mb => some { mailbox := mb, service := queueStatusService }
  | .slotWrite mb => some { mailbox := mb, service := slotWriteService }
  | .slotRead mb => some { mailbox := mb, service := slotReadService }
  | .slotCopy mb => some { mailbox := mb, service := slotCopyService }
  | .slotArm mb => some { mailbox := mb, service := slotArmService }
  | .rxSlotArm mb => some { mailbox := mb, service := rxSlotArmService }
  | .slotCancel mb => some { mailbox := mb, service := slotCancelService }
  | .slotSwapStatus mb => some { mailbox := mb, service := slotSwapStatusService }
  | .queueFlush mb => some { mailbox := mb, service := queueFlushService, applies := selects mb false }
  | .spillConfig mb => some { mailbox := mb, service := spillConfigService, applies := selects mb true }
  | .cliPortConfig mb => some { mailbox := mb, service := cliPortConfigService }
  | .cliLaneConfig mb => some { mailbox := mb, service := cliLaneConfigService }
  | .cliLaneStatus mb => some { mailbox := mb, service := cliLaneStatusService }
  | .cliLaneTest mb => some { mailbox := mb, service := cliLaneTestService }
  | .cliRecclk mb => some { mailbox := mb, service := cliRecclkService }
  | .cipherConfig mb => some { mailbox := mb, service := cipherConfigService }
  | .cipherKeyLoad mb => some { mailbox := mb, service := cipherKeyLoadService }
  | .cipherStatus mb => some { mailbox := mb, service := cipherStatusService }
  | .cipherJob mb => some { mailbox := mb, service := cipherJobService }
  | .cipherCtx mb => some { mailbox := mb, service := cipherCtxService }
  | .secCertRead mb => some { mailbox := mb, service := secCertReadService }
  | .secAttest mb => some { mailbox := mb, service := secAttestService }
  | .keyGenerate mb => some { mailbox := mb, service := keyGenerateService }
  | .keyImport mb => some { mailbox := mb, service := keyImportService }
  | .keyExport mb => some { mailbox := mb, service := keyExportService }
  | .keyDestroy mb => some { mailbox := mb, service := keyDestroyService }
  | .kekEstablish mb => some { mailbox := mb, service := kekEstablishService }
  | .keyPolicy mb => some { mailbox := mb, service := keyPolicyService }
  | .kaStart mb => some { mailbox := mb, service := kaStartService }
  | .kaStatus mb => some { mailbox := mb, service := kaStatusService }
  | .zeroize mb => some { mailbox := mb, service := zeroizeService }
  | .tagWrite mb => some { mailbox := mb, service := tagWriteService }
  | .tagLock mb => some { mailbox := mb, service := tagLockService }
  | .svnCommit mb => some { mailbox := mb, service := svnCommitService }
  | .twinConfig mb => some { mailbox := mb, service := twinConfigService }
  | .twinStatus mb => some { mailbox := mb, service := twinStatusService }
  | .twinCommandForce mb => some { mailbox := mb, service := twinForceService, applies := restartAction mb false }
  | .twinCommandRestart mb => some { mailbox := mb, service := twinRestartService, applies := restartAction mb true }
  | .yardConfig mb => some { mailbox := mb, service := yardConfigService }
  | .ixtasEngConfig mb => some { mailbox := mb, service := ixtasEngConfigService }
  | .ixtasCoachConfig mb => some { mailbox := mb, service := ixtasCoachConfigService }
  | .ixtasEngStatus mb => some { mailbox := mb, service := ixtasEngStatusService }
  | .ixtasPartnerStatus mb => some { mailbox := mb, service := ixtasPartnerStatusService }
  | .ixtasSend mb => some { mailbox := mb, service := ixtasSendService }
  | .ixtasRecv mb => some { mailbox := mb, service := ixtasRecvService }
  | .wakeSend mb => some { mailbox := mb, service := wakeSendService }
  | .timeRefConfig mb => some { mailbox := mb, service := timeRefConfigService }
  | .timeConfig mb => some { mailbox := mb, service := timeConfigService }
  | .timeSelect mb => some { mailbox := mb, service := timeSelectService }
  | .timeStatus mb => some { mailbox := mb, service := timeStatusService }
  | .timeAdjust mb => some { mailbox := mb, service := timeAdjustService }
  | .timeSteer mb => some { mailbox := mb, service := timeSteerService }
  | .memFill mb => some { mailbox := mb, service := memFillService }
  | .memStatus mb => some { mailbox := mb, service := memStatusService }
  | .scrubConfig mb => some { mailbox := mb, service := scrubConfigService }
  | .memDiag mb => some { mailbox := mb, service := memDiagService }
  | .dmaResume mb => some { mailbox := mb, service := dmaResumeService }
  | .snapRead mb => some { mailbox := mb, service := snapReadService }
  | .snapQueueRead mb => some { mailbox := mb, service := snapQueueReadService }
  | .ctrSelect mb => some { mailbox := mb, service := ctrSelectService }
  | .calConfig mb => some { mailbox := mb, service := calConfigService }
  | .calRun mb => some { mailbox := mb, service := calRunService }
  | .calStatus mb => some { mailbox := mb, service := calStatusService }
  | .calRead mb => some { mailbox := mb, service := calReadService }
  | .calRestore mb => some { mailbox := mb, service := calRestoreService }
  | .pwrState mb => some { mailbox := mb, service := pwrStateService }
  | .pwrDomain mb => some { mailbox := mb, service := pwrDomainService }
  | .pwrConfig mb => some { mailbox := mb, service := pwrConfigService }
  | .pwrStatus mb => some { mailbox := mb, service := pwrStatusService }
  | _ => none

/-- The body of the request in a mailbox. -/
def requestBody (mb : Nat) (d : Dev) : List Byte := reqBody (box d mb)
/-- Firmware may take the request now and every check passes. -/
def Accepted (r : Request) (d : Dev) : Prop :=
  r.applies d = true ∧ takes r.service.opcode r.mailbox d = true ∧ judge r.service (requestBody r.mailbox d) d = none
/-- Firmware may take the request now and a check refuses it with `v`. -/
def RefusedWith (r : Request) (v : Verdict) (d : Dev) : Prop :=
  r.applies d = true ∧ takes r.service.opcode r.mailbox d = true ∧ judge r.service (requestBody r.mailbox d) d = some v
/-- The device after an accepted request's effect, before its answer. -/
def effectOf (r : Request) (d : Dev) : Dev := (r.service.run r.mailbox (requestBody r.mailbox d) d).1
/-- The answer that an accepted request gets at once; none where it waits. -/
def answerOf (r : Request) (d : Dev) : Option Reply := (r.service.run r.mailbox (requestBody r.mailbox d) d).2

/-- Mailbox `mb` holds a request with opcode `op` and body `b` that firmware takes now: it is the first PENDING one in doorbell order,
checks 1 to 5 passed, and firmware runs (R442, R444, R445). -/
def Asked (mb : Mailbox) (op : Nat) (b : List Byte) (d : Dev) : Prop := takes op mb d = true ∧ requestBody mb d = b
/-- The command completes: exec answers a next state; the mailbox is DONE, or IDLE where its port was reset under the request, its event
is pending, and its window holds STATUS OK, BLOCK_ID 0 and the body (R442, R446, R448, R449); and but for the mailboxes, the event
concentrator and the measurement unit's counts the device is `e`. -/
def Completes (i : Instr) (mb : Mailbox) (body : List Byte) (e : Dev) (s : State) : Prop :=
  ∃ t, exec i s = .next t ∧ t.pending = s.pending ∧
    (box t.dev mb).state = (if (box e mb).releaseAtPost then .idle else .done) ∧
    t.dev.ec.pend.getLsbD (0x300 + mb.val) = true ∧ windowBytes (box t.dev mb) 10 2 = [0, 0] ∧
    windowBytes (box t.dev mb) 16 body.length = body ∧
    t.dev = { e with mail := t.dev.mail, ec := t.dev.ec, meas := t.dev.meas }
/-- The command starts work that answers later: exec answers a next state, the request waits, and but for the mailboxes, the event
concentrator and the measurement unit's counts the device is `e` (R444). -/
def Starts (i : Instr) (mb : Mailbox) (e : Dev) (s : State) : Prop :=
  ∃ t, exec i s = .next t ∧ t.pending = s.pending ∧ (box t.dev mb).waiting = true ∧
    t.dev = { e with mail := t.dev.mail, ec := t.dev.ec, meas := t.dev.meas }

/-- The limits the host has set and the locks: every brake register but LAST_BRAKE, WRITE_ERR and REFUSALS of BRAKE_STATUS (R332). -/
def limits (d : Dev) : Brakes := { d.brakes with last := 0, refusals := 0, writeErr := false }
/-- What the one-time-programmable memory and the tag locks hold: IDENTITY_ERASED, the SVN floor, the locked tag lines (R316, R327,
R329). -/
def permanent (d : Dev) : Bool × BitVec 8 × BitVec 64 := (d.trust.identityErased, d.trust.svnFloor, d.trust.tagLocked)
/-- Both. -/
def held (d : Dev) : Brakes × Bool × BitVec 8 × BitVec 64 := (limits d, permanent d)

/-- The limits lie in the ranges that the brake registers hold (R332). -/
def LimitsFit (b : Brakes) : Prop :=
  (∀ n : Engine, let x := tabGet engBrakeReset b.engines n
    within 1 63 x.1 = true ∧ within 1 100 x.2.1 = true ∧ within 2 30 x.2.2 = true) ∧
  (∀ o : BiasOut, let w := tabGet biasWindowReset b.window o
    w.1 ≤ w.2 ∧ w.2 ≤ 14000 ∧ within 1 1000 (tabGet (fun _ => 100) b.slew o) = true) ∧
  within 1 1000 b.minSwapMs = true ∧ within 0xFFFFF 0xFFFFFFFF b.ceilingM1 = true
/-- A host's write of a brake register. -/
def hostBrakeWrite : Instr → Bool
  | .brakeLock w => w.who != .firmware
  | .engBrake _ w => w.who != .firmware
  | .biasWindow _ w => w.who != .firmware
  | .biasSlew _ w => w.who != .firmware
  | .keyCeiling w => w.who != .firmware
  | .slotBrake w => w.who != .firmware
  | .freezeCtrl w => w.who != .firmware
  | .secureMask _ w => w.who != .firmware
  | .registerWrite .bar0 o w => w.who != .firmware && inSpan 0x70000 0x80000 o.toNat
  | .smpWrite _ _ => true
  | _ => false
/-- A power-on or device reset. -/
def isReset : Instr → Bool
  | .powerOnReset _ _ => true
  | .deviceReset _ _ => true
  | _ => false
/-- SVN_COMMIT, TAG_LOCK and the ZEROIZE_N pin (R316, R327, R329). -/
def permanentChange : Instr → Bool
  | .svnCommit _ => true
  | .tagLock _ => true
  | .zeroizeN _ => true
  | _ => false
/-- Bit `b` of a cause register is set and its event source is pending. -/
def Shows (d : Dev) (r : CauseReg) (b : Nat) : Prop := (causeOf d r).getLsbD b = true ∧ d.ec.pend.getLsbD (r.source b) = true
/-- A host's register write to block `b` reaches it: neither lost with its port, nor partial, nor to a block without clock or power. -/
def HostLands (b : Nat) (w : RegWrite) (d : Dev) : Prop := w.who ≠ .firmware ∧ writeLands w d = true ∧ blockDown d b = false
/-- A read by `who` of a register of block `b` is answered by the register. -/
def ReadLands (b : Nat) (who : Accessor) (d : Dev) : Prop := reaches who d = true ∧ blockDown d b = false
/-- Between two devices a 48-bit count advances by `n`, unless counting is stopped. -/
def Counts (k n : Nat) (d d' : Dev) : Prop := countOf d' k = if d.meas.frozen then countOf d k else (countOf d k + n) % 2 ^ 48

end Sys2Proof.Machine
end

