-- ==== Sys2Proof/Certificates/Slice0/Obligations.lean ====
section
/-! DEFINITION. The statements for the provers. A clause about a command names the state it leaves: what it writes, and by an equation
of whole devices or fields what it keeps. -/

open Sys2Proof Sys2Proof.Machine

/-- With a command at the front of its queue, a step answers what exec answers for that command on the state whose queue is the
rest, whatever the command and the device. -/
def Obligations.StepRunsTheFrontCommand : Prop :=
  ∀ (i : Instr) (rest : List Instr) (d : Dev), step { pending := i :: rest, dev := d } = exec i { pending := rest, dev := d }

/-- For each of the 99 Virman commands: where firmware may take the request standing in the mailbox and no check refuses it, exec
answers a next state. The command's effect is made; an answer given at once overwrites the window from byte 0 with opcode, tag,
length and status, the mailbox is DONE and its event source is pending; a request that waits for an outside event stays PENDING and
is marked as waiting. Nothing outside the mailboxes, the event concentrator and the counters differs from the effect itself. -/
def Obligations.AcceptedRequestCompletes : Prop :=
  ∀ (i : Instr) (r : Request) (s : State), request i = some r → Accepted r s.dev →
    (box (effectOf r s.dev) r.mailbox).releaseAtPost = false →
    ∃ t, exec i s = .next t ∧ t.pending = s.pending ∧
      t.dev = { effectOf r s.dev with mail := t.dev.mail, ec := t.dev.ec, meas := t.dev.meas } ∧
      match answerOf r s.dev with
      | some a =>
        (box t.dev r.mailbox).state = .done ∧ t.dev.ec.pend.getLsbD (0x300 + r.mailbox.val) = true ∧
        windowBytes (box t.dev r.mailbox) 2 6 = windowBytes (box (effectOf r s.dev) r.mailbox) 2 6 ∧
        windowBytes (box t.dev r.mailbox) 10 2 = le 1 a.status.code ++ le 1 a.block ∧
        windowBytes (box t.dev r.mailbox) 16 a.body.length = a.body
      | none => (box t.dev r.mailbox).waiting = true

/-- For each Virman command whose refusal has no effect of its own: where firmware may take the request and a check refuses it with
a status other than BRAKED, exec answers a next state that differs only in the mailboxes, the event concentrator and the counters of
events, and the window's status byte is the status of the check that failed first. -/
def Obligations.RefusedRequestHasNoEffect : Prop :=
  ∀ (i : Instr) (r : Request) (v : Verdict) (s : State), request i = some r → RefusedWith r v s.dev →
    v.status ≠ .braked → r.service.refused v (requestBody r.mailbox s.dev) s.dev = s.dev →
    (box s.dev r.mailbox).releaseAtPost = false →
    ∃ t, exec i s = .next t ∧ t.pending = s.pending ∧
      t.dev = { s.dev with mail := t.dev.mail, ec := t.dev.ec, meas := t.dev.meas } ∧
      (box t.dev r.mailbox).state = .done ∧
      windowBytes (box t.dev r.mailbox) 10 1 = le 1 v.status.code

/-- Where the write reaches the hub: a doorbell on an IDLE mailbox whose request passes checks 1 to 5 makes it PENDING, records the
port that rang and puts it in the doorbell order, and on a mailbox that is not IDLE only DOORBELL_ERR is set. RELEASE returns a DONE
mailbox to IDLE for the claiming port and otherwise changes nothing. A window write is stored in IDLE, and in any other state stores
nothing and sets WRITE_ERR. PCIE_RESET, and the fall of PERST_N, answer a next state: a mailbox claimed by PCIe loses its
negotiation, a DONE one is IDLE again and a PENDING one will be released when it is answered; a mailbox in PENDING or DONE that SMP
claims is unchanged; nothing else of the device changes but EC_HOST_UNACK, the MSI-X structures, which are as at reset, and the pin.
PERST_N rising, or low already, only moves the pin. -/
def Obligations.MailboxRegistersAndResetsFollowTheClaim : Prop :=
  (∀ (mb : Mailbox) (w : RegWrite) (p : Port) (s : State), writeLands w s.dev = true → blockDown s.dev 1 = false →
    w.value.getLsbD 0 = true → portOf w.who = some p →
    ((box s.dev mb).state = .idle → headerVerdict (box s.dev mb) = none →
      ∃ t, exec (.mbDoorbell mb w) s = .next t ∧ (box t.dev mb).state = .pending ∧ (box t.dev mb).port = p ∧
        mb.val ∈ t.dev.mail.order ∧ t.dev = { s.dev with mail := t.dev.mail, ec := t.dev.ec, meas := t.dev.meas }) ∧
    ((box s.dev mb).state ≠ .idle →
      exec (.mbDoorbell mb w) s = .next { s with dev := setBox mb { box s.dev mb with doorbellErr := true } s.dev }) ∧
    exec (.mbRelease mb w) s = .next { s with dev :=
      if (box s.dev mb).state = .done ∧ (box s.dev mb).port = p then setBox mb { box s.dev mb with state := .idle } s.dev else s.dev } ∧
    (∀ (i : Fin 4096) (v : Byte), ∃ t, exec (.mailboxWindowWrite mb w.who [(i, v)]) s = .next t ∧
      (if (box s.dev mb).state = .idle then windowByte (box t.dev mb) i = v ∧ (∀ j : Fin 4096, j ≠ i →
          windowByte (box t.dev mb) j = windowByte (box s.dev mb) j)
        else t.dev = setBox mb { box s.dev mb with writeErr := true } s.dev) ∧
      t.dev = { s.dev with mail := t.dev.mail })) ∧
  (∀ s : State,
    (∃ t, exec .pcieReset s = .next t ∧ t.pending = s.pending ∧
      t.dev = { s.dev with mail := t.dev.mail, ec := { s.dev.ec with unack := 0, msix := {} } } ∧ t.dev.mail = { s.dev.mail with boxes := t.dev.mail.boxes } ∧
      ∀ mb : Mailbox,
        ((box s.dev mb).state ≠ .idle → (box s.dev mb).port = .smp → box t.dev mb = box s.dev mb) ∧
        ((box s.dev mb).state = .pending → (box s.dev mb).port = .pcie →
          box t.dev mb = { box s.dev mb with releaseAtPost := true, negMajor := 0, negMinor := 0 }) ∧
        ((box s.dev mb).state = .done → (box s.dev mb).port = .pcie →
          box t.dev mb = { box s.dev mb with state := .idle, negMajor := 0, negMinor := 0 })) ∧
    (∀ t u, exec .pcieReset { s with dev := { s.dev with pins := { s.dev.pins with perstLow := true } } } = .next t →
      exec (.perstN false) s = .next u → s.dev.pins.perstLow = false → u = t) ∧
    exec (.perstN true) s = .next { s with dev := { s.dev with pins := { s.dev.pins with perstLow := false } } } ∧
    (s.dev.pins.perstLow = true → exec (.perstN false) s = .next s))

/-- REGISTER_WRITE at the offset the map gives a register answers exactly what the register's own row answers, for both host ports,
all byte enables and every value: firmware restart, mailbox doorbell and release, every brake register, the timing controls, the
concentrator's unacknowledged, source and pending registers, the flip control and first-error registers, the telemetry and snapshot
controls and the trip latch. -/
def Obligations.RegisterWriteByOffsetIsItsRow : Prop :=
  ∀ (w : RegWrite) (s : State), w.who ≠ .firmware →
    exec (.registerWrite .bar0 0x14 w) s = exec (.fwRestart w) s ∧
    (∀ mb : Mailbox, exec (.registerWrite .bar0 (0x18000 + BitVec.ofNat 32 (16 * mb.val)) w) s = exec (.mbDoorbell mb w) s ∧
      exec (.registerWrite .bar0 (0x18008 + BitVec.ofNat 32 (16 * mb.val)) w) s = exec (.mbRelease mb w) s) ∧
    exec (.registerWrite .bar0 0x70000 w) s = exec (.brakeLock w) s ∧ exec (.registerWrite .bar0 0x70008 w) s = exec (.keyCeiling w) s ∧
    exec (.registerWrite .bar0 0x7000C w) s = exec (.slotBrake w) s ∧ exec (.registerWrite .bar0 0x70010 w) s = exec (.freezeCtrl w) s ∧
    (∀ n : Engine, exec (.registerWrite .bar0 (0x70100 + BitVec.ofNat 32 (4 * n.val)) w) s = exec (.engBrake n w) s) ∧
    (∀ b : BiasOut, exec (.registerWrite .bar0 (0x70200 + BitVec.ofNat 32 (8 * b.val)) w) s = exec (.biasWindow b w) s ∧
      exec (.registerWrite .bar0 (0x70204 + BitVec.ofNat 32 (8 * b.val)) w) s = exec (.biasSlew b w) s) ∧
    (∀ k : Fin 128, exec (.registerWrite .bar0 (0x70800 + BitVec.ofNat 32 (4 * k.val)) w) s = exec (.secureMask k w) s) ∧
    exec (.registerWrite .bar0 0x40014 w) s = exec (.timeCtrl w) s ∧ exec (.registerWrite .bar0 0x40018 w) s = exec (.steerFreq w) s ∧
    exec (.registerWrite .bar0 0x40024 w) s = exec (.steerSlew w) s ∧
    exec (.registerWrite .bar0 0x20008 w) s = exec (.ecHostUnack false w) s ∧ exec (.registerWrite .bar0 0x2000C w) s = exec (.ecHostUnack true w) s ∧
    (∀ k : Fin 2048, exec (.registerWrite .bar0 (0x21000 + BitVec.ofNat 32 (4 * k.val)) w) s = exec (.ecSrcCfg k w) s) ∧
    (∀ k : Fin 64, exec (.registerWrite .bar0 (0x23000 + BitVec.ofNat 32 (4 * k.val)) w) s = exec (.ecPend k w) s) ∧
    exec (.registerWrite .bar0 0x60004 w) s = exec (.miFlipCtrl w) s ∧ exec (.registerWrite .bar0 0x60100 w) s = exec (.firstInfo 0 w) s ∧
    exec (.registerWrite .bar0 0x60200 w) s = exec (.firstInfo 1 w) s ∧ exec (.registerWrite .bar0 0x50880 w) s = exec (.trackReset w) s ∧
    exec (.registerWrite .bar0 0x50884 w) s = exec (.tallyClear w) s ∧ exec (.registerWrite .bar0 0x50900 w) s = exec (.telCtrl w) s ∧
    (∀ n : Fin 128, exec (.registerWrite .bar0 (0x50400 + BitVec.ofNat 32 (8 * n.val)) w) s = exec (.sequencerRow n false w) s ∧
      exec (.registerWrite .bar0 (0x50404 + BitVec.ofNat 32 (8 * n.val)) w) s = exec (.sequencerRow n true w) s) ∧
    exec (.registerWrite .bar0 0x50F00 w) s = exec (.snapTake w) s ∧ exec (.registerWrite .bar0 0x50F00 w) s = exec (.snapFreeze w) s ∧
    (∀ k : Fin 4, exec (.registerWrite .bar0 (0x50F10 + BitVec.ofNat 32 (4 * k.val)) w) s = exec (.snapUser k w) s) ∧
    exec (.registerWrite .bar0 0x30000 w) s = exec (.tripLatchedClear w) s

/-- TXMUTE_N falling sets MUTE_SOURCE bit 0 of every engine; an engine in BIAS_ACQ, CARRIER_ONLY, RUNNING or LASER_LOW enters MUTED
with its gate closed and MUTED raised, any other keeps its state, and no coach's configuration or frames change. TXMUTE_N rising
clears the bit and reopens nothing. UNMUTED on a MUTED engine without a mute source raises UNMUTED: with the laser-low condition set
the engine is LASER_LOW with its gate closed, otherwise an engine that was CARRIER_ONLY or RUNNING launches again, and one that was
in BIAS_ACQ or LASER_LOW is in BIAS_ACQ, or launches where its outputs are ready. -/
def Obligations.MutingClosesTheGate : Prop :=
  ∀ (s : State) (n : Engine),
    (∃ t, exec .txmuteNLow s = .next t ∧ t.pending = s.pending ∧ t.dev.pins = { s.dev.pins with txmuteLow := true } ∧
      t.dev = { s.dev with pins := t.dev.pins, tx := t.dev.tx, ixtas := t.dev.ixtas, causes := t.dev.causes, ec := t.dev.ec, meas := t.dev.meas } ∧
      (∀ c : Coach, coachTx t.dev c = { coachTx s.dev c with starts := (coachTx t.dev c).starts }) ∧
      (if mutable (engTx s.dev n).state = true then
        engTx t.dev n = { engTx s.dev n with mute := (engTx s.dev n).mute ||| 1, state := .muted, before := (engTx s.dev n).state, gateOpen := false } ∧
        Shows t.dev (.engTx n) 6
      else engTx t.dev n = { engTx s.dev n with mute := (engTx s.dev n).mute ||| 1 })) ∧
    (∃ t, exec .txmuteNHigh s = .next t ∧ t.pending = s.pending ∧
      t.dev = { s.dev with pins := { s.dev.pins with txmuteLow := false }, tx := { s.dev.tx with engines := t.dev.tx.engines } } ∧
      engTx t.dev n = { engTx s.dev n with mute := (engTx s.dev n).mute &&& 0xE }) ∧
    ((engTx s.dev n).state = .muted → (engTx s.dev n).mute = 0 →
      ∃ t, exec (.unmuted n) s = .next t ∧ t.pending = s.pending ∧ t.dev.tx.coaches = s.dev.tx.coaches ∧ Shows t.dev (.engTx n) 7 ∧
        (∀ m : Engine, m ≠ n → engTx t.dev m = engTx s.dev m) ∧
        ((engTx s.dev n).laserLow = true → engTx t.dev n = { engTx s.dev n with state := .laserLow, gateOpen := false }) ∧
        ((engTx s.dev n).laserLow = false → (engTx s.dev n).before = .carrierOnly ∨ (engTx s.dev n).before = .running →
          engTx t.dev n = { engTx s.dev n with state := litState s.dev n, gateOpen := true }) ∧
        ((engTx s.dev n).laserLow = false → (engTx s.dev n).before = .biasAcq ∨ (engTx s.dev n).before = .laserLow →
          engTx t.dev n = { engTx s.dev n with state := .biasAcq, gateOpen := false } ∨
          engTx t.dev n = { engTx s.dev n with state := litState s.dev n, gateOpen := true })) ∧
    ((engTx s.dev n).state ≠ .muted ∨ (engTx s.dev n).mute ≠ 0 → exec (.unmuted n) s = .next s)

/-- While the engine's loops run: the end of an entry sweep takes a LOCK output to a point found inside its window than which no
other is nearer the window centre, in state LOCKING; the qualified error makes it LOCKED, and from BIAS_ACQ with the other outputs
ready and no mute source the engine opens its gate; an error outside the threshold returns a LOCKED output to LOCKING with
BIAS_UNLOCK; a loop at a window edge stays there in WINDOW_LIMIT with its cause. BIAS_FAIL in BIAS_ACQ keeps the launch at zero.
Every other output is unchanged. -/
def Obligations.BiasLoopEventsMoveOneOutput : Prop :=
  ∀ (b : BiasOut) (s : State), let x := biasOf s.dev b; let lo := biasLow s.dev b; let hi := biasHigh s.dev b
    (∀ points : List (Fin 16384), x.mode = .lock → x.state = .sweep ∨ x.state = .windowLimit → loopsRun s.dev b = true →
      (∃ p ∈ points, lo ≤ p.val ∧ p.val ≤ hi) →
      ∃ p ∈ points, lo ≤ p.val ∧ p.val ≤ hi ∧ (∀ q ∈ points, lo ≤ q.val → q.val ≤ hi → fromCentre lo hi p.val ≤ fromCentre lo hi q.val) ∧
        exec (.biasSweepEnd b points) s = .next { s with dev := setBias b { x with mv := p.val, lockPoint := some p.val, state := .locking } s.dev }) ∧
    (x.mode = .lock → x.state = .locking ∨ x.state = .windowLimit → loopsRun s.dev b = true →
      ∃ t, exec (.biasLocked b) s = .next t ∧ t.pending = s.pending ∧ t.dev.tx.coaches = s.dev.tx.coaches ∧
        ((engTx s.dev (b / 6)).mute = 0 ∨ mutable (engTx s.dev (b / 6)).state = false →
          t.dev.tx.bias = (setBias b { x with state := .locked } s.dev).tx.bias) ∧
        ((engTx s.dev (b / 6)).state = .biasAcq → (engTx s.dev (b / 6)).mute = 0 →
          (∀ i < 6, 6 * (b.val / 6) + i ≠ b.val → biasReady (biasOf s.dev (6 * (b.val / 6) + i)) = true) →
          engTx t.dev (b / 6) = { engTx s.dev (b / 6) with state := litState s.dev (b / 6), gateOpen := true })) ∧
    (x.state = .locked → loopsRun s.dev b = true → exec (.biasUnlock b) s = .next { s with dev := (
      raiseCause (.engTx (b / 6)) 1 (setBias b { x with state := .locking } s.dev)) }) ∧
    (∀ high : Bool, x.mode = .lock → x.state = .locking ∨ x.state = .locked → loopsRun s.dev b = true →
      exec (.lockLoopEdge b high) s = .next { s with dev := (raiseCause (.engTx (b / 6)) 8
        (setBias b { x with state := .windowLimit, mv := if high then hi else lo } s.dev)) }) ∧
    (∀ n : Engine, (engTx s.dev n).state = .biasAcq → ∃ t, exec (.biasFail n) s = .next t ∧ t.pending = s.pending ∧
      engTx t.dev n = { engTx s.dev n with state := .biasFail, gateOpen := false } ∧ Shows t.dev (.engTx n) 0 ∧
      t.dev.tx.bias = s.dev.tx.bias ∧ t.dev.tx.coaches = s.dev.tx.coaches)

/-- For each rate class, profile and slot count from 1 to 40: h = needH is at least 64, the net rate at h covers the slots, h is 64
or one step less would not cover them, the request is over the entropy limit exactly where h exceeds 368, and the surplus of an h
above 64 stays below one step. The largest accepted counts are those of R50, and coach 183 of the worked example gets h = 312 and
200,589,904 kb/s. -/
def Obligations.ChosenEntropyIsTheLeastThatServes : Prop :=
  (∀ cls profile slots : Nat, cls ≤ 2 → profile ≤ 2 → 1 ≤ slots → slots ≤ 40 →
    64 ≤ needH cls profile slots ∧ slots * 5000000 * (64 * unitDen) ≤ needH cls profile slots * unitNum cls profile ∧
    (needH cls profile slots = 64 ∨ (needH cls profile slots - 1) * unitNum cls profile < slots * 5000000 * (64 * unitDen)) ∧
    (entropyOver cls profile slots = true ↔ 368 < needH cls profile slots)) ∧
  (∀ profile slots : Nat, profile ≤ 2 → slots ≤ 40 → entropyOver 0 profile slots = false) ∧
  (∀ slots : Nat, (entropyOver 1 0 slots = false ↔ slots ≤ 22) ∧ (entropyOver 1 1 slots = false ↔ slots ≤ 23) ∧
    (entropyOver 1 2 slots = false ↔ slots ≤ 25) ∧ (entropyOver 2 0 slots = false ↔ slots ≤ 11) ∧
    (entropyOver 2 1 slots = false ↔ slots ≤ 11) ∧ (entropyOver 2 2 slots = false ↔ slots ≤ 12)) ∧
  needH 0 1 40 = 312 ∧ netRate 0 1 40 = 200589904 ∧ constellation 312 = 2

/-- An ENG_TX_CONFIG that firmware may take, that no earlier check refuses and whose PEAK_TARGET exceeds the engine's LAUNCH_CAP is
answered BRAKED with reason BRAKE_LIMIT; the engine's state is unchanged, BRAKED_REFUSAL is set on the engine's event source,
LAST_BRAKE names the launch brake, and REFUSALS counts it. -/
def Obligations.PeakAboveTheCapIsRefusedLast : Prop :=
  ∀ (mb : Mailbox) (s : State), let b := requestBody mb s.dev; let n := u8 b 0
    RefusedWith { mailbox := mb, service := engTxConfigService } (braked 1) s.dev → (box s.dev mb).releaseAtPost = false →
    launchCap s.dev n < u8 b 3 ∧
    ∃ t, exec (.engTxConfig mb) s = .next t ∧ t.dev.tx = s.dev.tx ∧ Shows t.dev (.engTx n) 5 ∧
      t.dev.brakes = { s.dev.brakes with last := 1, refusals := sat 0xFFFF (s.dev.brakes.refusals + 1) } ∧
      windowBytes (box t.dev mb) 10 1 = le 1 5 ∧ windowBytes (box t.dev mb) 16 1 = le 1 10

/-- From WAIT_LIGHT, with light, laser, line link and engine there, ACQ_START leads to WARM where the stored state is at most
WARM_HOLD old and to ACQ_CD otherwise. From there the search keeps its window. ACQ_CD leads to ACQ_POL with the best and the
second-best candidate; every centre + m * span / M with -M <= m <= M that is a whole number is a candidate, and none lies outside
the window; ACQ_POL to ACQ_CARRIER, ACQ_CARRIER and WARM by their lock to CW_HUNT with LOC clear, LOC_CLEAR shown and one
acquisition more, CW_HUNT by CW_LOCK to LOCKED with RESYNC on the next codeword. ACQ_RETRY takes the second candidate once and then
searches anew; WARM_FAIL searches. LOC_SET in CW_HUNT or LOCKED returns the coach to WAIT_LIGHT, stores its state with the present
DEVTIME and shows LOC_SET. FRAME_HUNT_TIMEOUT and an announced change act on a LOCKED coach, a cycle slip is counted in CW_HUNT and
LOCKED and marks the codeword in LOCKED. Each event in any other stage changes nothing, and none changes another coach. -/
def Obligations.AcquisitionMovesOneStageAtATime : Prop :=
  ∀ (c : Coach) (best second : Int) (s : State), let d := s.dev; let x := coachRx d c; let n := engineOf c
    let y : CoachRx := { x with retried := false, window := ((rxEq d c).centre, cdSpan d c) }
    let moves (i : Instr) (y : CoachRx) : Prop := exec i s = .next { s with dev := setCoachRx c y d }
    let others (t : State) : Prop := t.pending = s.pending ∧ (∀ k : Coach, k ≠ c → coachRx t.dev k = coachRx d k) ∧ t.dev.rx.eq = d.rx.eq ∧ t.dev.tx.engines = d.tx.engines ∧ t.dev.tx.coaches = d.tx.coaches
    let locks (i : Instr) : Prop := ∃ t, exec i s = .next t ∧ others t ∧ Shows t.dev (.coachRx c) 1 ∧ coachRx t.dev c = { x with
      state := .cwHunt, loc := false, lastLock := nowNs d, acqDuration := min 0xFFFFFFFF ((nowNs d - max x.since (engRx d n).lightAt) / 1000)
      acqCount := min 0xFFFFFFFF (x.acqCount + 1) }
    (x.state = .waitLight → (engRx d n).los = false → (engTx d n).laserLow = false → (linkOf d (n / 4)).down = false → engineOff d n = false →
      (∀ T, x.stored = some T → nowNs d ≤ T.time + (engRx d n).warmHold * 1000000 →
        moves (.acqStart c) { y with state := .warm, cd := T.cd, front := T.front }) ∧
      (∀ T, x.stored = some T → T.time + (engRx d n).warmHold * 1000000 < nowNs d → moves (.acqStart c) { y with state := .acqCd }) ∧
      (x.stored = none → moves (.acqStart c) { y with state := .acqCd })) ∧
    (x.state ≠ .waitLight ∨ (engRx d n).los = true ∨ (engTx d n).laserLow = true → exec (.acqStart c) s = .next s) ∧
    (x.state = .acqCd → isCandidate d c best = true → isCandidate d c second = true → best ≠ second →
      exec (.cdSearchComplete c best second) s = .next { s with dev :=
        { setCoachRx c { x with state := .acqPol, cd := best, second := second, front := d.free } d with free := d.free + 1 } }) ∧
    (∀ m k : Int, 1 ≤ cdM d c → -cdM d c ≤ m → m ≤ cdM d c → x.window.2 * m = cdM d c * k → isCandidate d c (x.window.1 + k) = true) ∧
    (isCandidate d c best = true → (best - x.window.1).natAbs ≤ x.window.2) ∧
    (x.state ≠ .acqCd → exec (.cdSearchComplete c best second) s = .next s) ∧
    (x.state = .acqPol → moves (.polConverged c) { x with state := .acqCarrier }) ∧ (x.state ≠ .acqPol → exec (.polConverged c) s = .next s) ∧
    (x.state = .acqPol ∨ x.state = .acqCarrier → exec (.acqRetry c) s = .next { s with dev := (raiseCause (.coachRx c) 4 (setCoachRx c
      (if x.retried then { x with state := .acqCd, retried := false } else { x with state := .acqPol, cd := x.second, retried := true }) d)) }) ∧
    (x.state = .acqCarrier → locks (.carrierLock c)) ∧ (x.state ≠ .acqCarrier → exec (.carrierLock c) s = .next s) ∧
    (x.state = .warm → locks (.warmLock c) ∧
      exec (.warmFail c) s = .next { s with dev := (raiseCause (.coachRx c) 5 (setCoachRx c { x with state := .acqCd, retried := false } d)) }) ∧
    (x.state ≠ .warm → exec (.warmLock c) s = .next s ∧ exec (.warmFail c) s = .next s) ∧
    (x.state = .cwHunt → (∃ t, exec (.cwLock c) s = .next t ∧ others t ∧ Shows t.dev (.coachRx c) 2 ∧
        coachRx t.dev c = { x with state := .locked, cwFail := false, resync := true, slip := false, hChange := false }) ∧
      (x.cwFail = false → exec (.cwFail c) s = .next { s with dev := (raiseCause (.coachRx c) 3 (setCoachRx c { x with cwFail := true } d)) }) ∧
      (x.cwFail = true → exec (.cwFail c) s = .next s)) ∧
    (x.state = .cwHunt ∨ x.state = .locked → ∃ t, exec (.locSet c) s = .next t ∧ others t ∧ (coachRx t.dev c).state = .waitLight ∧
      (coachRx t.dev c).loc = true ∧ (coachRx t.dev c).stored.map (·.time) = some (nowNs d) ∧
      (x.state = .cwHunt → (coachRx t.dev c).stored.map (·.cd) = some x.cd) ∧ (coachRx t.dev c).stored.map (·.front) = some x.front ∧ (coachRx t.dev c).since = nowNs d ∧
      (x.loc = false → Shows t.dev (.coachRx c) 0) ∧ (x.state = .locked → (coachRx t.dev c).cut = true)) ∧
    (x.state ≠ .cwHunt → x.state ≠ .locked → exec (.locSet c) s = .next s) ∧
    (x.state = .locked →
      exec (.cycleSlip c) s = .next { s with dev := (bump (keyCoach c 0) 1 (setCoachRx c { x with slip := true } d)) } ∧
      (asleep d = false → (frameRx d c).align = .hunt → ∃ t, exec (.frameHuntTimeout c) s = .next t ∧ others t ∧ (coachRx t.dev c).state = .cwHunt ∧
        (coachRx t.dev c).stored = x.stored ∧ (coachRx t.dev c).loc = x.loc ∧ (frameRx t.dev c).align = .hunt) ∧
      (∀ slots a q, asleep d = false → (frameRx d c).chg = some (slots, a, q) → (frameRx d c).chgApplied = false → x.cwSeq = q →
        ∃ t, exec (.chgApplied c) s = .next t ∧ others t ∧ Shows t.dev (.coachRx c) 7 ∧ Shows t.dev (.frameCoach c) 5 ∧
          coachRx t.dev c = { x with slotsNow := slots, hNow := needH (engTx d n).rate x.profile slots, hChange := true })) ∧
    (x.state = .cwHunt → exec (.cycleSlip c) s = .next { s with dev := (bump (keyCoach c 0) 1 (setCoachRx c { x with slip := false } d)) }) ∧
    (x.state ≠ .locked → (x.state ≠ .cwHunt → exec (.cycleSlip c) s = .next s) ∧ exec (.frameHuntTimeout c) s = .next s ∧ exec (.chgApplied c) s = .next s)

/-- LOS_SET on an engine that is on and has light sets raw LOS, shows LOS_SET, and leaves no coach of the engine beyond WAIT_LIGHT;
LOS_CLEAR clears it, shows LOS_CLEAR, and moves no coach. The laser-low condition shows LO_LOW, does the same to the coaches, and
takes an engine that lights or acquires to LASER_LOW with its gate closed; LASER_RESTORED takes it back through BIAS_ACQ. Each of
them, where its condition stands already or the engine is off, changes nothing. A gain beyond its range shows GAIN_LIMIT and stays
at the nearer end; a difference of offsets above the class limit shows OFFSET_WARN once on both coaches; a hitch skew is stored, and
HITCH_RX_STATE is brought up to date. -/
def Obligations.EngineConditionsSendCoachesBack : Prop :=
  ∀ (n : Engine) (h : Hitch) (k : Fin 15) (high : Bool) (delta : Nat) (ns : Int) (s : State), let d := s.dev
    let c := 16 * n.val + k.val
    let back (t : State) : Prop := (∀ j : Fin 16, rxState t.dev (16 * n + j) = .disabled ∨ rxState t.dev (16 * n + j) = .waitLight) ∧
      (∀ j : Fin 16, rxState d (16 * n + j) = .disabled → rxState t.dev (16 * n + j) = .disabled) ∧
      (∀ j : Coach, engineOf j ≠ n → coachRx t.dev j = coachRx d j) ∧ t.pending = s.pending
    (engineOff d n = false →
      ((engRx d n).los = false → ∃ t, exec (.losSet n) s = .next t ∧ back t ∧ (engRx t.dev n).los = true ∧ Shows t.dev (.engRx n) 0 ∧ t.dev.tx.engines = d.tx.engines) ∧
      ((engRx d n).los = true → ∃ t, exec (.losClear n) s = .next t ∧ t.pending = s.pending ∧ (engRx t.dev n).los = false ∧ Shows t.dev (.engRx n) 1 ∧
        (engRx t.dev n).lightAt = nowNs d - 100000 ∧ t.dev.rx.coaches = d.rx.coaches ∧ t.dev.tx.engines = d.tx.engines) ∧
      ((engTx d n).laserLow = false → ∃ t, exec (.laserLow n) s = .next t ∧ back t ∧ Shows t.dev (.engRx n) 2 ∧ (engTx t.dev n).laserLow = true ∧
        ((engTx d n).state = .biasAcq ∨ (engTx d n).state = .carrierOnly ∨ (engTx d n).state = .running →
          (engTx t.dev n).state = .laserLow ∧ (engTx t.dev n).gateOpen = false ∧ Shows t.dev (.engTx n) 2) ∧
        ((engTx d n).state = .disabled ∨ (engTx d n).state = .muted ∨ (engTx d n).state = .biasFail → engTx t.dev n = { engTx d n with laserLow := true })) ∧
      ((engTx d n).laserLow = true → ∃ t, exec (.laserRestored n) s = .next t ∧ t.pending = s.pending ∧ (engTx t.dev n).laserLow = false ∧
        t.dev.rx = d.rx ∧ (∀ m : Engine, m ≠ n → engTx t.dev m = engTx d m) ∧
        ((engTx d n).state = .laserLow → (engTx d n).mute = 0 → Shows t.dev (.engTx n) 3 ∧
          ((engTx t.dev n).state = .biasAcq ∨ (engTx t.dev n).state = litState d n ∧ (engTx t.dev n).gateOpen = true)) ∧
        ((engTx d n).state = .disabled ∨ (engTx d n).state = .muted ∨ (engTx d n).state = .biasFail → engTx t.dev n = { engTx d n with laserLow := false })) ∧
      exec (.gainLimit n high) s = .next { s with dev := (raiseCause (.engRx n) 6 (setEngRx n { engRx d n with gainEnd := some (if high then 400 else 0) } d)) }) ∧
    (engineOff d n = true → exec (.losSet n) s = .next s ∧ exec (.losClear n) s = .next s ∧ exec (.laserLow n) s = .next s ∧
      exec (.laserRestored n) s = .next s ∧ exec (.gainLimit n high) s = .next s) ∧
    ((engRx d n).los = true → exec (.losSet n) s = .next s) ∧ ((engTx d n).laserLow = true → exec (.laserLow n) s = .next s) ∧
    (∀ e : Coach, e.val = c → isLocked d c = true → isLocked d (c + 1) = true → ∃ t, exec (.offsetWarn e delta) s = .next t ∧ t.pending = s.pending ∧
      coachRx t.dev c = { coachRx d c with offsetWarn := decide ((if (engTx d n).rate = 0 then 200 else if (engTx d n).rate = 1 then 100 else 50) < delta) } ∧
      ((if (engTx d n).rate = 0 then 200 else if (engTx d n).rate = 1 then 100 else 50) < delta → (coachRx d c).offsetWarn = false →
        Shows t.dev (.coachRx c) 6 ∧ Shows t.dev (.coachRx (c + 1)) 6) ∧
      (∀ j : Coach, j.val ≠ c → coachRx t.dev j = coachRx d j)) ∧
    (∃ t, exec (.hitchWalkoff h ns) s = .next t ∧ t.pending = s.pending ∧ (hitchOf t.dev h).walkoff = ns ∧ (hitchOf t.dev h).rxState = hitchRxNow t.dev h ∧
      (∀ g : Hitch, g ≠ h → hitchOf t.dev g = hitchOf d g) ∧ t.dev.rx = d.rx ∧ t.dev.tx.engines = d.tx.engines ∧ t.dev.tx.coaches = d.tx.coaches)

/-- A codeword of a LOCKED coach enters the pool with the next CW_SEQ, the coach's SLIP mark, the signs and the SIQ of its LLRs (no
LLR is -32), and the cap in force; its SIQ joins those of the last millisecond; it runs beads until the first after which every
check holds, at most 4, and is cleared exactly then; an ERASED one, its LLRs zero, runs none. A codeword that failed base is
uncorrectable and counted in HOPELESS where more than HOPELESS_LIMIT / 256 of its checks fail, uncorrectable uncounted at a cap of
4, and otherwise waits for the next extension set while that holds fewer than 1,024. The oldest codeword of a coach, once done,
leaves the pool, is counted, and goes to the framer with its sequence, outcome and beads, an erased one with all information bits
zero; until it is done nothing happens. A coach neither LOCKED nor cut delivers none. -/
def Obligations.CodewordsPassThroughThePool : Prop :=
  ∀ (c : Coach) (f : CodewordFacts) (s : State), let d := s.dev; let x := coachRx d c
    let entered (t : State) (w : PoolCw) : Prop := t.pending = s.pending ∧ t.dev.pool = { d.pool with
        cws := d.pool.cws ++ [w], arrivals := d.pool.arrivals + 1, baseRun := d.pool.baseRun + w.beads } ∧ w.coach = c ∧ w.order = d.pool.arrivals ∧
      w.cap = capOf d c ∧ w.profile = x.profile ∧ w.resync = x.resync ∧ w.slip = x.slip ∧
      (x.resync = false → w.seq = x.cwSeq) ∧ coachRx t.dev c = { x with
        cwSeq := (w.seq + 1) % 2 ^ 32, slip := false, resync := false, hChange := false, cut := false, siqs := (coachRx t.dev c).siqs } ∧
      (isLocked d c = true → (coachRx t.dev c).siqs.head? = some (nowNs d, w.siq)) ∧ (isLocked d c = false → (coachRx t.dev c).siqs = x.siqs) ∧
      (∀ k : Coach, k ≠ c → coachRx t.dev k = coachRx d k)
    (asleep d = false → isLocked d c = true → f.erased = false → ∃ t w, exec (.codewordArrival c f) s = .next t ∧ entered t w ∧ 1 ≤ w.beads ∧ w.beads ≤ 4 ∧
      w.siq = siqOf (llrNormal f.llrs) ∧ w.signs = llrSigns (llrNormal f.llrs) ∧ w.hard = f.hard ∧
      (∀ k, 1 ≤ k → k < w.beads → isCodeword w.profile (hardAfter w k) = false) ∧
      (w.state = .done 0 ∧ isCodeword w.profile (hardAfter w w.beads) = true ∨
        w.state = .failedBase ∧ w.beads = 4 ∧ isCodeword w.profile (hardAfter w 4) = false)) ∧
    (asleep d = false → isLocked d c = true ∧ f.erased = true ∨ isLocked d c = false ∧ x.cut = true →
      ∃ t w, exec (.codewordArrival c f) s = .next t ∧ entered t w ∧ w.beads = 0 ∧ w.state = .done 2 ∧ w.siq = 0 ∧ w.signs = 0) ∧
    (asleep d = true ∨ isLocked d c = false ∧ x.cut = false → exec (.codewordArrival c f) s = .next s) ∧
    (∀ (w : PoolCw) (seq : Word), findFailed d c seq.toNat = some w → (d.pool.cws.map (·.order)).Nodup →
      let bad := unsatisfied w.profile (hardAfter w w.beads); let hopeless := d.pool.cfg.hopeless ≠ 0 ∧ d.pool.cfg.hopeless * (512 * blockRows w.profile) < 256 * bad
      let becomes (t : State) (st : CwState) : Prop := exec (.baseComplete c seq) s = .next t ∧ t.pending = s.pending ∧
        t.dev.pool.cws = d.pool.cws.map (fun v => if v.order = w.order then { v with state := st } else v)
      (hopeless → ∃ t, becomes t (.done 1) ∧ Counts (keyCoach c 7) 1 d t.dev) ∧
      (¬ hopeless → w.cap = 4 → ∃ t, becomes t (.done 1) ∧ t.dev.meas = d.meas) ∧
      (¬ hopeless → w.cap ≠ 4 → (collecting d).length < 1024 → ∃ t, becomes t .waiting ∧ t.dev.meas = d.meas)) ∧
    (∀ (w : PoolCw) (o : Fin 3), asleep d = false → d.pool.cws.find? (fun v => v.coach == c.val) = some w → doneOutcome w = some o →
      ∃ t, exec (.codewordRelease c) s = .next t ∧ t.pending = s.pending ∧ t.dev.pool.cws = d.pool.cws.erase w ∧ Counts (keyCoach c 1) 1 d t.dev ∧
        (o = 1 → Counts (keyCoach c 2) 1 d t.dev) ∧ (o = 2 → Counts (keyCoach c 3) 1 d t.dev) ∧
        ((frameRx d c).align = .off → t.dev.frames.rx = d.frames.rx) ∧
        ((frameRx d c).align ≠ .off → ∃ r : Released, (frameRx t.dev c).inbox = (frameRx d c).inbox ++ [r] ∧ r.seq = w.seq ∧ r.outcome = o ∧
          r.beads = w.beads ∧ r.resync = w.resync ∧ (o = 2 → r.info = 0) ∧ (o ≠ 2 → r.info = infoBits w.profile (hardAfter w w.beads)))) ∧
    (∀ w : PoolCw, d.pool.cws.find? (fun v => v.coach == c.val) = some w → doneOutcome w = none → exec (.codewordRelease c) s = .next s)

/-- EPOCH_START takes the stored configuration, a point no higher than the voltage in force allows and the budget of that point
above the base reserve, opens the set collected, and grants tranches so that granted and remaining beads sum to the budget; of two
codewords of the set, one granted and one starved in this round, the granted one has the lower SIQ, a SLIP mark counting as 0, or,
at equal SIQ, arrived earlier. A round keeps that sum; a late round grants nothing and leaves none granted. EPOCH_END leaves no
codeword of the set undecided, carries no budget on, and D is 1 exactly where at or below P2 a codeword was starved, or at P3 the
beads granted exceed the budget at P2; D enters the window of 64. SURGE_WITHDRAW in mode 1 after SURGE_HOLD of quiet epochs ends the
request. POOL_INTERVAL makes the present figures the last interval's. -/
def Obligations.EpochsSpendTheirBudgetInRankOrder : Prop :=
  ∀ (late : Bool) (s : State), let d := s.dev
    (asleep d = false → d.pool.epochOn = false → ∃ t, exec .epochStart s = .next t ∧ t.pending = s.pending ∧ t.dev.pool.epochOn = true ∧
      t.dev.pool.cfg = d.pool.cfgNext ∧ t.dev.pool.caps = d.pool.capsNext ∧ (d.pool.point ≤ d.pool.rail → t.dev.pool.point ≤ t.dev.pool.rail) ∧
      t.dev.pool.budget = capacity t.dev.pool.point - baseReserve d ∧ t.dev.pool.granted + t.dev.pool.remaining = t.dev.pool.budget ∧
      t.dev.pool.extSize = (collecting d).length ∧ t.dev.rx = d.rx ∧ t.dev.tx = d.tx ∧
      ((d.pool.cws.map (·.order)).Nodup → ∀ a ∈ d.pool.cws, ∀ b ∈ d.pool.cws, a.state = .waiting → b.state = .waiting → b.starved = false →
        (∃ v ∈ t.dev.pool.cws, v.order = a.order ∧ v.state = .granted) → (∃ v ∈ t.dev.pool.cws, v.order = b.order ∧ v.starved = true) →
        let rank (w : PoolCw) : Nat := if w.slip then 0 else w.siq
        rank a < rank b ∨ rank a = rank b ∧ a.order < b.order)) ∧
    (asleep d = true ∨ d.pool.epochOn = true → exec .epochStart s = .next s) ∧
    (asleep d = false → d.pool.epochOn = true → ∃ t, exec (.extensionRound late) s = .next t ∧ t.pending = s.pending ∧
      t.dev.pool.granted + t.dev.pool.remaining = d.pool.granted + d.pool.remaining ∧ d.pool.granted ≤ t.dev.pool.granted ∧
      (late = true → t.dev.pool.granted = d.pool.granted ∧ ((d.pool.cws.map (·.order)).Nodup → ∀ w ∈ t.dev.pool.cws, w.state ≠ .granted)) ∧
      t.dev.pool.budget = d.pool.budget ∧ t.dev.rx = d.rx ∧ t.dev.frames = d.frames) ∧
    (asleep d = false → d.pool.epochOn = true → ∃ t, exec .epochEnd s = .next t ∧ t.pending = s.pending ∧ t.dev.pool.epochOn = false ∧
      ((d.pool.cws.map (·.order)).Nodup → ∀ w ∈ t.dev.pool.cws, w.state ≠ .live ∧ w.state ≠ .marked ∧ w.state ≠ .granted) ∧
      (d.pool.point ≤ 2 → (t.dev.pool.demand = true ↔ t.dev.pool.extStarved ≠ 0)) ∧
      (2 < d.pool.point → (t.dev.pool.demand = true ↔ 12800 + d.pool.budget < 16000 + d.pool.granted)) ∧
      t.dev.pool.window = (d.pool.window <<< 1) ||| (if t.dev.pool.demand then 1 else 0) ∧
      t.dev.pool.quiet = (if t.dev.pool.demand then 0 else d.pool.quiet + 1) ∧ t.dev.pool.lastBudget = d.pool.budget ∧ t.dev.pool.point = d.pool.point) ∧
    (d.pool.epochOn = false → exec .epochEnd s = .next s ∧ exec (.extensionRound late) s = .next s) ∧
    (d.pool.cfg.surgeMode = 1 → d.power.surge ≠ .none → 1000 * d.pool.cfg.hold ≤ d.pool.quiet → ∃ t, exec .surgeWithdraw s = .next t ∧ t.pending = s.pending ∧
      t.dev.power = { d.power with surge := .none } ∧ Shows t.dev .pool 5 ∧ t.dev.pool = d.pool) ∧
    (d.pool.cfg.surgeMode ≠ 1 ∨ d.pool.quiet < 1000 * d.pool.cfg.hold → exec .surgeWithdraw s = .next s) ∧
    (asleep d = false → ∃ t, exec .poolInterval s = .next t ∧ t.pending = s.pending ∧ t.dev.pool = { d.pool with last := d.pool.now, now := [], raised := [] })

/-- A frame of a coach in service, with no configuration and no swap waiting, carries the next count, the coach's version, slots,
profile and trace and the present time, and is marked ciphered exactly if a key protects it; the count advances by one modulo the
version's modulus and no other coach's framing moves. The first frame has count 0 and starts the symbol counter, and after a restart
of the count it has no key; with no swap armed it carries the coach's configuration. The symbol counter passes each frame's symbols.
A leg's cut adds one run with its stream and slots, of at most its payload positions; one under cipher hold, or secure on a clear
coach, carries no words, nor does one in raw CSF, which has FILL_KIND 1. In HUNT a codeword that fits moves the coach to PRESYNC
with its count latched and counted, another is only taken. In SYNC the words after the lead gather to the frame, the sixteenth of a
delivered frame passing its four segments and noting it as delivered. HB_MISS counts once. A verdict takes the oldest segment and
counts it as verified or failed. A leg at the de-mapper is taken from its frame, and counted where it is lost. -/
def Obligations.FramesAreSentFoundAndJudged : Prop :=
  ∀ (c : Coach) (s : State), let x := coachTx s.dev c; let y := frameTx s.dev c; let r := frameRx s.dev c
    let m := fcMod x.cfg.version
    let awake := asleep s.dev = false
    let alone (t : State) : Prop := t.pending = s.pending ∧ ∀ j : Coach, j ≠ c → frameTx t.dev j = frameTx s.dev j ∧ frameRx t.dev j = frameRx s.dev j
    let describes (f : SentFrame) (n : Nat) : Prop := f.header.fc = n ∧ f.header.version = x.cfg.version ∧ f.header.slots = x.cfg.slots ∧
      f.header.profile = x.cfg.profile ∧ f.header.source = c ∧ f.header.trace = y.trace ∧ f.time = nowNs s.dev ∧
      f.header.cipher = f.key.isSome
    (awake → x.framesRun = true → x.atBoundary = none → swapsAt s.dev c y.next = false →
      ∃ t f, exec (.txFrame c) s = .next t ∧ alone t ∧ t.dev.tx = s.dev.tx ∧ frameRx t.dev c = r ∧ describes f (y.next % m) ∧
        f.symbol = y.symbol ∧ frameTx t.dev c =
          { y with sent := some f, next := (y.next % m + 1) % m, cuts := [], skip := [], symbol := addFrac y.symbol (frameSymbols s.dev c) }) ∧
    (x.framesRun = false ∨ asleep s.dev = true → exec (.txFrame c) s = .next s) ∧
    (sending s.dev c = true → x.framesRun = false →
      ∃ t f, exec (.firstFrameBoundary c) s = .next t ∧ alone t ∧ f.header.fc = 0 ∧ f.symbol = (0, 1) ∧ (coachTx t.dev c).framesRun = true ∧
        (frameTx t.dev c).sent = some f ∧ (frameTx t.dev c).next = 1 ∧ (y.sent.isSome = true → f.key = none) ∧
        ((engineSwap s.dev (engineOf c)).armed = none → describes f 0 ∧ (coachTx t.dev c).cfg = x.cfg ∧
          (frameTx t.dev c).symbol = addFrac (0, 1) (frameSymbols s.dev c))) ∧
    (sending s.dev c = false ∨ x.framesRun = true → exec (.firstFrameBoundary c) s = .next s) ∧
    (∀ (leg : SlotPos) (q : Nat) (slots : List Nat), (nextLegs s.dev c).find? (fun l => l.2.head? == some leg.val) = some (q, slots) →
      (sending s.dev c = true → uncut s.dev c slots = true → ∃ t l, exec (.legCut c leg) s = .next t ∧ alone t ∧ l.slots = slots ∧ l.stream = q ∧
        frameTx t.dev c = { y with cuts := y.cuts ++ [l] } ∧ frameRx t.dev c = r ∧ (cutBlocked s.dev c q = true → l.count = 0 ∧ l.kind = 0) ∧
        l.count ≤ payloadPositions (nextCfg s.dev c).profile (nextCfg s.dev c).slots slots.length ∧
        (cutBlocked s.dev c q = false → q < 4096 → rawCsf s.dev q = true → l.count = 0 ∧ l.kind = 1)) ∧
      (sending s.dev c = false ∨ uncut s.dev c slots = false → exec (.legCut c leg) s = .next s)) ∧
    (∀ (w : Released) (rest : List Released), awake → r.inbox = w :: rest → w.hChange = false → w.resync = false →
      (r.align = .hunt → (∀ h, fitted (keptOf w) = some h → ∃ t, exec (.candidateTest c) s = .next t ∧ alone t ∧ Counts (keyCoach c 9) 1 s.dev t.dev ∧
          frameRx t.dev c =
            { r with inbox := rest, last := some h, align := .presync, latched := h.fc, latchedVersion := h.version, kept := [], confirmed := 0 }) ∧
        (fitted (keptOf w) = none → exec (.candidateTest c) s = .next { s with dev := setFrameRx c { r with inbox := rest } s.dev })) ∧
      (∀ f : InFrame, r.align = .sync → r.frame = some f → f.words.length < 16 →
        let g := { f with words := f.words ++ [w] }
        ∃ t, exec (.candidateTest c) s = .next t ∧ alone t ∧ (frameRx t.dev c).align = .sync ∧ (frameRx t.dev c).inbox = rest ∧
          (frameRx t.dev c).frame = some g ∧
          (cipherRx t.dev c).segs.length = (cipherRx s.dev c).segs.length + (if f.delivered = true ∧ g.words.length = 16 then 4 else 0) ∧
          (f.delivered = true → g.words.length = 16 → (frameRx t.dev c).delivered = some f.header.fc))) ∧
    (r.inbox = [] ∨ asleep s.dev = true → exec (.candidateTest c) s = .next s) ∧
    (awake → r.align ≠ .off → ∃ t, exec (.hbMiss c) s = .next t ∧ alone t ∧ Counts (keyCoach c 14) 1 s.dev t.dev ∧ frameRx t.dev c = r) ∧
    (asleep s.dev = true ∨ r.align = .off → exec (.hbMiss c) s = .next s) ∧
    (∀ (g : Fin 4) (sg : Segment) (rest : List Segment), awake → (cipherRx s.dev c).segs = sg :: rest →
      (sg.g = g → ∃ t, exec (.segmentVerdict c g) s = .next t ∧ alone t ∧ (cipherRx t.dev c).segs = rest ∧
        ((verdictOf s.dev c sg).passed = true → Counts (keyCoach c 15) 1 s.dev t.dev) ∧
        ((verdictOf s.dev c sg).passed = false → Counts (keyCoach c 16) 1 s.dev t.dev)) ∧
      (sg.g ≠ g → exec (.segmentVerdict c g) s = .next s)) ∧
    (∀ (leg : SlotPos) (f : DemapFrame) (q : Nat) (slots : List Nat), awake → legWaiting s.dev c leg = some (f, q, slots) →
      ∃ t, exec (.legFrameDemap c leg) s = .next t ∧ alone t ∧ frameRx t.dev c = r ∧
        (∀ g ∈ tabGet (fun _ => []) t.dev.slots.demap c, g.fc = f.fc → ∀ l ∈ g.todo, l.2.head? ≠ some leg.val) ∧
        ((∃ b, readLeg f slots = .lost b) → Counts (keyQueue q 1 5) 1 s.dev t.dev)) ∧
    (∀ leg : SlotPos, legWaiting s.dev c leg = none → exec (.legFrameDemap c leg) s = .next s)

/-- DEFECT_SAMPLE, at a millisecond not yet sampled, counts it set or clear for each defect of an enabled coach and declares one
that has been set for its time, and clears one that has been clear for its time; a disabled coach's record does not move.
SECOND_CLASSIFY, at a second not yet ended, takes the sample of its millisecond, then classifies the second of every present enabled
entity as ES, SES at 30 % or at a defect, and BBE outside SES, and holds at most ten seconds back. BIN_ROLLOVER, at a quarter-hour
not yet closed, makes the current bin the first of at most 32 previous ones and starts an empty one now; the 24-hour bin closes with
the quarter-hour that is DAY_START. A unit that arrives at a transmit queue enters whole, behind what is there, or is discarded
whole and counted where it has no room: over QUEUE_MAX it has none, and within QUEUE_MAX and the depot pages of a queue that does
not spill it has. Where a run has waited REASM_WAIT, no waiting run is left, and the words missing before a single one are released
as fill and counted. PAUSE_REPEAT sends the port's PAUSE or PFC frame with PAUSE_QUANTA. -/
def Obligations.SecondsBinsAndQueueWords : Prop :=
  ∀ (s : State), let awake := asleep s.dev = false; let same := fun i => exec i s = .next s
    let sampled := nowMs s.dev ≤ s.dev.defects.sampledMs
    let ended := nowSec s.dev ≤ s.dev.defects.endedSec
    let rollDue := s.dev.defects.rolledQuarter < nowNs s.dev / quarterNs
    (awake → ¬ sampled → ∃ t, exec .defectSample s = .next t ∧ t.pending = s.pending ∧ t.dev.defects.sampledMs = nowMs s.dev ∧
      t.dev = { s.dev with defects := t.dev.defects, causes := t.dev.causes, ec := t.dev.ec, meas := t.dev.meas } ∧
      ∀ c : Coach, (coachOff s.dev c = true → coachEntity t.dev c = coachEntity s.dev c) ∧
        (coachOff s.dev c = false → ∀ i < 10, let f := defectOf (coachEntity s.dev c) i; let g := defectOf (coachEntity t.dev c) i
          let set := rawCoach s.dev c i || f.seen
          g.seen = false ∧ g.sets = (if set then sat 10000 (f.sets + 1) else 0) ∧ g.clears = (if set then 0 else sat 10000 (f.clears + 1)) ∧
          (f.declared = false → g.declared = (set && decide (f.setTime ≤ sat 10000 (f.sets + 1)))) ∧
          (f.declared = true → set = false → f.clearTime ≤ sat 10000 (f.clears + 1) → g.declared = false))) ∧
    (asleep s.dev = true ∨ sampled → same .defectSample) ∧
    (awake → ¬ ended → (∃ t, exec .secondClassify s = .next t ∧ t.pending = s.pending ∧ t.dev.defects.endedSec = nowSec s.dev ∧
      nowMs s.dev ≤ t.dev.defects.sampledMs)) ∧
    (awake → ¬ ended → sampled → s.dev.defects.cleared = true → ∃ t, exec .secondClassify s = .next t ∧ t.pending = s.pending ∧
      t.dev = { s.dev with defects := { s.dev.defects with
        coaches := t.dev.defects.coaches, queues := t.dev.defects.queues, endedSec := nowSec s.dev } } ∧
      ∀ c : Coach, let x := coachEntity s.dev c; let y := coachEntity t.dev c
        let ses := x.defectSeen || (decide (0 < x.errored) && decide (30 * x.blocks ≤ 100 * x.errored))
        y.blocks = 0 ∧ y.errored = 0 ∧ y.feBlocks = 0 ∧ y.feErrored = 0 ∧ y.defectSeen = false ∧ y.feSeen = false ∧
        y.absent = coachOff s.dev c ∧ (x.absent = true ∨ coachOff s.dev c = true → y.cur15.elapsed = x.cur15.elapsed ∧ y.cur15.partialBin = true) ∧
        (x.absent = false → coachOff s.dev c = false →
          (x.pending.length ≤ 9 → y.cur15.elapsed = x.cur15.elapsed + 1 ∧ ∃ w, y.pending = w :: x.pending ∧ w.counted = true ∧ w.ses = ses ∧
            w.es = (x.defectSeen || decide (0 < x.errored)) ∧ w.bbe = if ses then 0 else x.errored) ∧
          (x.pending.length = 10 → y.pending.length = 10))) ∧
    (asleep s.dev = true ∨ ended → same .secondClassify) ∧ (¬ rollDue → same .binRollover) ∧
    (awake → rollDue → sampled → ended → s.dev.defects.cleared = true → let day := nowNs s.dev / quarterNs % 96 == s.dev.defects.dayStartNext
      ∃ t, exec .binRollover s = .next t ∧ t.pending = s.pending ∧
      t.dev = { s.dev with defects := t.dev.defects } ∧ t.dev.defects.rolledQuarter = nowNs s.dev / quarterNs ∧
      t.dev.defects.dayStart = (if day then s.dev.defects.dayStartNext else s.dev.defects.dayStart) ∧
      (∀ c : Coach, (coachEntity t.dev c).prev15 = ((coachEntity s.dev c).cur15 :: (coachEntity s.dev c).prev15).take 32 ∧
        (coachEntity t.dev c).cur15 = { valid := true, start := nowNs s.dev, suspect := timeSuspect s.dev, partialBin := coachOff s.dev c } ∧
        (day = false → (coachEntity t.dev c).cur24 = (coachEntity s.dev c).cur24) ∧
        (day = true → (coachEntity t.dev c).prev24.es = (coachEntity s.dev c).cur24.es ∧ (coachEntity t.dev c).cur24.start = nowNs s.dev)) ∧
      (∀ q : Queue, (queueEntity t.dev q).prev15 = ((queueEntity s.dev q).cur15 :: (queueEntity s.dev q).prev15).take 32 ∧
        (queueEntity t.dev q).cur15 = { valid := true, start := nowNs s.dev, suspect := timeSuspect s.dev, partialBin := tribIdle s.dev q })) ∧
    (∀ (q : Queue) (unit : List QWord), let x := txQueue s.dev q; let sp := spills s.dev x.cfg
      let room := roomFor s.dev x.cfg (txStore x) (unit.foldl (pushWord x.cfg sp) (txStore x))
      (unitOk s.dev q unit = true → awake → ∃ t, exec (.queueWordArrival q unit) s = .next t ∧ t.pending = s.pending ∧
        (∀ j : Queue, j ≠ q → txStore (txQueue t.dev j) = txStore (txQueue s.dev j) ∧ (txQueue t.dev j).units = (txQueue s.dev j).units) ∧
        (room = false → txStore (txQueue t.dev q) = txStore x ∧ (txQueue t.dev q).units = x.units ∧
          Counts (keyQueue q 0 2) unit.length s.dev t.dev) ∧
        (room = true → (txStore (txQueue t.dev q)).all = (txStore x).all ++ unit ∧
          (txQueue t.dev q).units = x.units ++ [(unit.length, true)] ∧ Counts (keyQueue q 0 0) unit.length s.dev t.dev)) ∧
      (x.cfg.max < (txStore x).total + unit.length → room = false) ∧
      (sp = false → x.spill = [] → x.late = [] → x.depot.length + unit.length ≤ x.cfg.max → x.depot.length + unit.length ≤ 512 * x.cfg.pages →
        spillUsed s.dev ≤ spillPages s.dev → room = true) ∧
      (unitOk s.dev q unit = false ∨ asleep s.dev = true → same (.queueWordArrival q unit))) ∧
    (∀ q : Queue, let x := rxQueue s.dev q; let y := txQueue s.dev q
      (∀ l : Nat, y.backpressure = true → groupOf s.dev q = some l → (group s.dev l).protocol = 1 → awake →
        ∃ t, exec (.pauseRepeat q) s = .next t ∧ t.pending = s.pending ∧ t.dev = { s.dev with
          clients := { s.dev.clients with lastOut := t.dev.clients.lastOut }, meas := t.dev.meas } ∧
          tabGet (fun _ => .idle) t.dev.clients.lastOut l = .frame (wireOf (pauseFrame l y.cfg.pfc y.cfg.priority y.cfg.quanta))) ∧
      (y.backpressure = false ∨ ethQueue s.dev q = false ∨ asleep s.dev = true → same (.pauseRepeat q)) ∧
      (∀ e : Nat, awake → twinOf s.dev true q = none → x.expected = some e → x.runs.any (hasWaited s.dev q) = true →
        ∃ t, exec (.reasmGap q) s = .next t ∧ t.pending = s.pending ∧ (∀ j : Queue, j ≠ q → rxQueue t.dev j = rxQueue s.dev j) ∧
          (rxQueue t.dev q).runs.any (hasWaited s.dev q) = false ∧
          (∀ r : Run, x.runs = [r] → r.offset < 2 ^ 32 → (rxQueue t.dev q).runs = [] ∧ Counts (keyQueue q 1 3) (modSub (2 ^ 32) r.offset e) s.dev t.dev ∧
            (rxQueue t.dev q).expected = some ((r.offset + r.words.length) % 2 ^ 32))) ∧
      (asleep s.dev = true ∨ (twinOf s.dev true q = none ∧ (x.expected = none ∨ x.runs.any (hasWaited s.dev q) = false)) → same (.reasmGap q)))

/-- On a lane of an enabled SLP link: the third comma in a row gives comma lock in training; an expected comma missed on an UP lane
counts, and the third in a row takes the whole link down with PORT_DOWN and back to TRAIN_LOW at 106.25 Gb/s. A block that is no
TRAIN block, or whose word is invalid, sets the runs of valid and agreeing words to 0; the valid one with which the last lane of a
link qualifies selects the highest rate and version common to both ends and moves all its lanes to CHANGE, or fails them all.
NEG_RETRY returns a lane in TRAIN_LOW or SETTLE to the start of training. RATE_FALLBACK in ADAPT excludes the selected rate on every
lane and retrains the link. An eye score is the least opening between two levels less three times their deviations, as a fraction of
255, and is kept with its lowest; in UP with ADAPT_MODE 1 the coefficients stay. A lane outside such a link keeps its state. -/
def Obligations.LanesNegotiateOneStepAtATime : Prop :=
  ∀ (l : Lane) (s : State), let x := laneOf s.dev l
    let comma (b : LaneBlock) : Bool := bitsFrom (uninvert x.rxInvert b) 0 132 == commaBits
    let word (b : LaneBlock) : Option QWord := trainWord (uninvert x.rxInvert b)
    let moves (i : Instr) (P : State → Prop) : Prop := ∃ t, exec i s = .next t ∧ t.pending = s.pending ∧ P t
    (∀ f : Nat, slpLink s.dev l = some f → let g := group s.dev f
      (∀ (b : LaneBlock) (skewed : Bool), x.state = .trainLow ∨ x.state = .adapt → x.commas = 2 → comma b = true →
        moves (.commaBlock l b skewed) (fun t => (laneOf t.dev l).commaLock = true)) ∧
      (∀ (b : LaneBlock) (skewed : Bool), x.state = .up → x.commaLock = true → x.missed < 2 → comma b = false →
        exec (.commaBlock l b skewed) s = .next { s with dev := setLane l { x with missed := x.missed + 1 } s.dev }) ∧
      (∀ (b : LaneBlock) (skewed : Bool), x.state = .up → x.commaLock = true → 2 ≤ x.missed → g.up = true → comma b = false →
        moves (.commaBlock l b skewed) (fun t => (group t.dev f).up = false ∧ Shows t.dev (.lane f) 8 ∧ (group t.dev f).rateSel = 0 ∧
          ∀ j ∈ lanesOf s.dev f, (laneOf s.dev j).loop = 0 →
            (laneOf t.dev j).state = .trainLow ∧ (laneOf t.dev j).rate = 1 ∧ (laneOf t.dev j).commaLock = false)) ∧
      (∀ b : LaneBlock, isTraining x.state = true → x.commaLock = true → (∀ w : QWord, word b = some w → wordValid w = false) →
        exec (.trainingFrame l b) s = .next { s with dev := setLane l { x with valid := 0, agree := 0 } s.dev }) ∧
      (∀ (b : LaneBlock) (w : QWord), x.state = .trainLow → x.commaLock = true → 100 ≤ x.eyeRun → 15 ≤ x.valid → word b = some w → wordValid w = true →
        ((∃ j ∈ lanesOf s.dev f, j ≠ l ∧ (laneOf s.dev j).state ≠ .settle) →
          moves (.trainingFrame l b) (fun t => (laneOf t.dev l).state = .settle ∧ (laneOf t.dev l).partnerRates = wf w 10 3 ∧
            (laneOf t.dev l).partnerVersions = wf w 16 4 ∧ ∀ j : Lane, j ≠ l → laneOf t.dev j = laneOf s.dev j)) ∧
        ((∀ j ∈ lanesOf s.dev f, j ≠ l → (laneOf s.dev j).state = .settle) →
          moves (.trainingFrame l b) (fun t => match selection t.dev f with
            | some (r, v) => (group t.dev f).rateSel = r ∧ (group t.dev f).version = v ∧ ∀ j ∈ lanesOf s.dev f, (laneOf t.dev j).state = .change
            | none => ∀ j ∈ lanesOf s.dev f, (laneOf t.dev j).state = .failed))) ∧
      (∀ b : LaneBlock, isTraining x.state = false ∨ x.commaLock = false → exec (.trainingFrame l b) s = .next s) ∧
      (x.state = .trainLow ∨ x.state = .settle → moves (.negRetry l) (fun t => (laneOf t.dev l).state = .trainLow ∧ (laneOf t.dev l).valid = 0 ∧
        (laneOf t.dev l).eyeRun = 0 ∧ (laneOf t.dev l).excl450 = x.excl450 ∧ (∀ j : Lane, j ≠ l → laneOf t.dev j = laneOf s.dev j) ∧
        t.dev = { s.dev with clients := t.dev.clients, causes := t.dev.causes, causeMs := t.dev.causeMs, ec := t.dev.ec, meas := t.dev.meas })) ∧
      (x.state ≠ .trainLow → x.state ≠ .settle → exec (.negRetry l) s = .next s) ∧
      (x.state = .adapt → moves (.rateFallback l) (fun t => (group t.dev f).up = false ∧ (group t.dev f).rateSel = 0 ∧
        ∀ j ∈ lanesOf s.dev f, (j < 128 → Shows t.dev (.lane j) 4) ∧ (laneOf t.dev j).excl212 = ((laneOf s.dev j).excl212 || g.rateSel == 2) ∧
          (laneOf t.dev j).excl450 = ((laneOf s.dev j).excl450 || g.rateSel == 3) ∧
          ((laneOf s.dev j).loop = 0 → (laneOf t.dev j).state = .trainLow))) ∧
      (x.state ≠ .adapt → exec (.rateFallback l) s = .next s)) ∧
    (slpLink s.dev l = none → ∀ (b : LaneBlock) (skewed : Bool), exec (.commaBlock l b skewed) s = .next s ∧
      exec (.trainingFrame l b) s = .next s ∧ exec (.negRetry l) s = .next s ∧ exec (.rateFallback l) s = .next s) ∧
    (∀ e : EyeFacts, let opening (m n : Int) (a b : Nat) : Int := n - m - 3 * ((a : Int) + b)
      let least := min (opening e.m0 e.m1 e.s0 e.s1) (min (opening e.m1 e.m2 e.s1 e.s2) (opening e.m2 e.m3 e.s2 e.s3))
      (laneRuns s.dev l = true → moves (.eyeScore l e) (fun t => (laneOf t.dev l).eyeLow = min x.eyeLow (laneOf t.dev l).eye ∧
        (least ≤ 0 → (laneOf t.dev l).eye = 0) ∧ (65536 ≤ least → (laneOf t.dev l).eye = 255) ∧
        (0 ≤ least → least ≤ 65536 → mag ((laneOf t.dev l).eye * 65536 - least * 255) ≤ 32768) ∧
        (x.adaptMode = 1 → x.state = .up → (laneOf t.dev l).coeffs = x.coeffs))) ∧
      (laneRuns s.dev l = false → exec (.eyeScore l e) s = .next s))

/-- A codeword of an UP lane adds its corrected symbols, or one uncorrectable with RS_UNCORRECTED. A cell of a link that is up is
numbered; one with a bad header is counted and discarded, a DATA cell of no channel of the link likewise; one of a channel counts as
received and its 32 words arrive at the transmit queue; CREDIT and SENT entries set limits and received counts. A DATA cell goes out
from 32 words at a cell boundary while credit is left, its words leave and the sent count advances; without credit nothing moves.
SENT and AIS cells carry their stated headers. A short or long Ethernet frame is counted, another arrives with its descriptor, a
PAUSE halts the egress for its quanta. A whole frame in the receive queue goes out with its length, FCS bad as its words say.
Alignment brings a port up, its loss takes it down. -/
def Obligations.CellsAndFramesCrossTheClientSide : Prop :=
  ∀ (s : State),
    let moves (i : Instr) (P : State → Prop) : Prop := ∃ t, exec i s = .next t ∧ t.pending = s.pending ∧ P t
    let counted (t : State) : Prop := t.dev = { s.dev with causes := t.dev.causes, ec := t.dev.ec, meas := t.dev.meas }
    let out (t : State) (l : Nat) : ClientOut := tabGet (fun _ => .idle) t.dev.clients.lastOut l
    (∀ (l : Lane) (n : Nat), (laneRuns s.dev l = true → (laneOf s.dev l).state = .up →
        moves (.rsCodeword l (some n)) (fun t => counted t ∧ Counts (keyLane l 0) n s.dev t.dev) ∧
        moves (.rsCodeword l none) (fun t => counted t ∧ Counts (keyLane l 1) 1 s.dev t.dev ∧ Shows t.dev (.lane l) 6)) ∧
      (laneRuns s.dev l = false ∨ (laneOf s.dev l).state ≠ .up →
        exec (.rsCodeword l (some n)) s = .next s ∧ exec (.rsCodeword l none) s = .next s)) ∧
    (∀ (l : Lane) (c : CellFacts), c.bytes.length ≠ 260 → exec (.cellReceived l c) s = .fault .illFormed) ∧
    (∀ (l : Lane) (c : CellFacts), c.bytes.length = 260 → (∀ f : Nat, groupAt s.dev l = some f → slpUp s.dev f = false) →
      exec (.cellReceived l c) s = .next s) ∧
    (∀ (f : Nat) (l : Lane) (c : CellFacts), let bs := c.bytes; let q := cellChannel bs; let g := group s.dev f; let due := cellLane g f g.cellsIn
      bs.length = 260 → groupAt s.dev l = some f → slpUp s.dev f = true → (laneOf s.dev due).inbox = [] →
      (l.val ≠ due → moves (.cellReceived l c) (fun t => laneOf t.dev l = { laneOf s.dev l with inbox := (laneOf s.dev l).inbox ++ [c] } ∧
        (∀ j : Nat, j ≠ l.val → laneOf t.dev j = laneOf s.dev j) ∧
        t.dev = { s.dev with clients := { s.dev.clients with lanes := t.dev.clients.lanes } })) ∧
      (l.val = due → (∀ j ∈ lanesOf s.dev f, (laneOf s.dev j).inbox = []) → moves (.cellReceived l c) (fun t =>
        let clients : Clients := { s.dev.clients with groups := t.dev.clients.groups, lanes := t.dev.clients.lanes }
        group t.dev f = { g with cellsIn := g.cellsIn + 1 } ∧ (∀ j : Nat, laneOf t.dev j = laneOf s.dev j) ∧
        (cellOk bs = false → Counts (keyLane f 2) 1 s.dev t.dev ∧ t.dev = { s.dev with clients := clients, meas := t.dev.meas }) ∧
        (cellOk bs = true → cellType bs = 1 → inLink g q = false → Counts (keyLane f 3) 1 s.dev t.dev ∧
          t.dev = { s.dev with clients := clients, meas := t.dev.meas }) ∧
        (cellOk bs = true → cellType bs = 1 → inLink g q = true →
          (channelOf t.dev q).received = ((channelOf s.dev q).received + 1) % 65536 ∧ Counts (keyQueue q 0 0) 32 s.dev t.dev ∧
          (c.uncorrectable = true → Counts (keyLane f 4) 1 s.dev t.dev)) ∧
        (∀ e ∈ cellEntries bs, cellOk bs = true → inLink g e.1 = true → (∀ e' ∈ cellEntries bs, e'.1 = e.1 → e'.2 = e.2) →
          (cellType bs = 2 → (channelOf t.dev e.1).limit = e.2) ∧ (cellType bs = 5 → (channelOf t.dev e.1).received = e.2))))) ∧
    (∀ q : Queue, let x := rxQueue s.dev q; let y := channelOf s.dev q
      (∀ f n : Nat, slpOut s.dev q = some f → egressFill s.dev q = 0 → x.spill = [] → x.late = [] → (x.depot.take 32).map (·.no) = (List.range 32).map (32 * n + ·) →
        let g := group s.dev f; let bs := cellHeader q 1 ((x.depot.take 32).any (fun w => w.value.isNone)) ++ cellPayload (x.depot.take 32)
        (creditLeft y = true → moves (.cellSend q) (fun t => (rxQueue t.dev q).depot = x.depot.drop 32 ∧ (rxQueue t.dev q).spill = [] ∧
          channelOf t.dev q = { y with sent := (y.sent + 1) % 65536, traffic := true } ∧ Counts (keyQueue q 1 1) 32 s.dev t.dev ∧
          out t f = .cell bs ∧ (group t.dev f).cellsOut = g.cellsOut + 1 ∧ ∀ j : Nat, (laneOf t.dev j).cellBytes =
            if j = f + g.cellsOut % g.width then (laneOf s.dev j).cellBytes ++ bs else (laneOf s.dev j).cellBytes)) ∧
        (creditLeft y = false → moves (.cellSend q) (fun t => rxQueue t.dev q = x ∧ t.dev.clients = s.dev.clients))) ∧
      (slpOut s.dev q = none ∨ egressFill s.dev q ≠ 0 → exec (.cellSend q) s = .next s) ∧
      (∀ f : Nat, slpOut s.dev q = some f → egressFill s.dev q ≠ 0 → moves (.aisCell q) (fun t => ∃ bs : List Byte, out t f = .cell bs ∧
        bs.length = 260 ∧ bs.take 4 = cellHeader q (if egressFill s.dev q = 1 then 4 else 3) false ∧ t.dev.slots = s.dev.slots)) ∧
      (slpOut s.dev q = none ∨ egressFill s.dev q = 0 → exec (.aisCell q) s = .next s)) ∧
    (∀ l : Lane, let qs := sentDue s.dev l
      (slpUp s.dev l = true → qs ≠ [] → moves (.sentCell l) (fun t => out t l = .cell (cellHeader 0 5 false ++ entryBytes qs (fun q => (channelOf s.dev q).sent)) ∧
        (∀ q ∈ qs, channelOf t.dev q = { channelOf s.dev q with traffic := false }) ∧ t.dev = { s.dev with clients := t.dev.clients })) ∧
      (slpUp s.dev l = false ∨ qs = [] → exec (.sentCell l) s = .next s)) ∧
    (∀ l : Lane, let g := group s.dev l; let h := rxQueue s.dev g.first
      (ethUp s.dev l = true →
        (∀ (bs : List Byte) (ok : Bool), moves (.ethFrameRx l (.frame bs ok)) (fun t =>
          (bs.length < 64 → counted t ∧ Counts (keyLane l 5) 1 s.dev t.dev) ∧
          (64 ≤ bs.length → g.maxFrame < bs.length → counted t ∧ Counts (keyLane l 6) 1 s.dev t.dev) ∧
          (64 ≤ bs.length → bs.length ≤ g.maxFrame → g.first < 4096 → Counts (keyQueue g.first 0 0) (1 + ceilDiv bs.length 8) s.dev t.dev))) ∧
        (∀ n : BitVec 16, moves (.ethFrameRx l (.pause n)) (fun t =>
          rxQueue t.dev g.first = { h with haltUntil := if n = 0 then 0 else nowNs s.dev + pauseNs g n.toNat } ∧ t.dev.clients = s.dev.clients))) ∧
      (ethUp s.dev l = false → ∀ e : EthFacts, exec (.ethFrameRx l e) s = .next s)) ∧
    (∀ (q : Queue) (f : Nat), let x := rxQueue s.dev q
      groupOf s.dev q = some f → ethUp s.dev f = true → toLine s.dev q = false →
      (egressFill s.dev q ≠ 0 → moves (.ethFrameTx q) (fun t => rxQueue t.dev q = { x with hunting := true } ∧ out t f = .localFault)) ∧
      (egressFill s.dev q = 0 → out s f ≠ .localFault → nowNs s.dev < x.haltUntil → exec (.ethFrameTx q) s = .next s) ∧
      (∀ (w : RxWord) (v : QWord) (ws : List RxWord), egressFill s.dev q = 0 → x.haltUntil ≤ nowNs s.dev → x.hunting = false → x.spill = [] → x.late = [] → out s f ≠ .localFault →
        x.depot = w :: ws → w.value = some v → descriptorOk (group s.dev f).maxFrame v = true → let n := 1 + ceilDiv (dLength v) 8
        (x.depot.length < n → exec (.ethFrameTx q) s = .next s) ∧
        (n ≤ x.depot.length → moves (.ethFrameTx q) (fun t => (rxQueue t.dev q).depot = x.depot.drop n ∧ ∃ bs : List Byte, bs.length = dLength v ∧
          out t f = .frame (wireOf (if dErr v || (x.depot.take n).any (fun w => w.value.isNone) then invertFcs bs else bs)) ∧
          ((x.depot.take n).all (fun w => w.value.isSome) = true → bs = (((x.depot.take n).tail).flatMap (fun w => le 8 (w.value.getD 0).toNat)).take (dLength v)))))) ∧
    (∀ (l : Lane) (fault : Bool), let g := group s.dev l
      (g.protocol = 1 → g.enable = true → laneRuns s.dev l = true →
        moves (.pcsAlignment l true fault) (fun t => (group t.dev l).localFault = fault ∧
          ((∀ j ∈ lanesOf s.dev l, (laneOf s.dev j).loop = 0) → (group t.dev l).up = true ∧ (g.up = false → Shows t.dev (.lane l) 7 ∧
            ∀ j ∈ lanesOf s.dev l, (laneOf t.dev j).state = .up))) ∧
        moves (.pcsAlignment l false fault) (fun t => (group t.dev l).localFault = fault ∧ (group t.dev l).up = false ∧
          (g.up = true → Shows t.dev (.lane l) 8))) ∧
      (g.protocol ≠ 1 ∨ g.enable = false ∨ laneRuns s.dev l = false → ∀ aligned : Bool, exec (.pcsAlignment l aligned fault) s = .next s))

/-- A host write that reaches the brake block: each field of KEY_CEILING, SLOT_BRAKE, ENG_BRAKE, BIAS_WINDOW and BIAS_SLEW is held
to its limits, WRITE_ERR sets where it lay beyond them, a BIAS_WINDOW write whose low value exceeds its high value is discarded
whole with WRITE_ERR, and a write to a locked field changes nothing, not even WRITE_ERR. BRAKE_LOCK only sets bits. A write by
firmware changes nothing. No other brake register changes. -/
def Obligations.BrakeWritesAreHeldToTheirLimits : Prop :=
  ∀ (w : RegWrite) (s : State) (n : Engine) (b : BiasOut) (k : Fin 128), let v := w.value.toNat; let d := s.dev
    (w.who = .firmware → exec (.brakeLock w) s = .next s ∧ exec (.keyCeiling w) s = .next s ∧ exec (.slotBrake w) s = .next s ∧
      exec (.freezeCtrl w) s = .next s ∧ exec (.engBrake n w) s = .next s ∧ exec (.biasWindow b w) s = .next s ∧
      exec (.biasSlew b w) s = .next s ∧ exec (.secureMask k w) s = .next s) ∧
    (HostLands 1 w d →
      exec (.brakeLock w) s = .next { s with dev := { d with brakes := { d.brakes with lock := d.brakes.lock ||| w.value.setWidth 7 } } } ∧
      exec (.keyCeiling w) s = .next { s with dev := if locked d 3 then d else
        { d with brakes := { d.brakes with ceilingM1 := max 0xFFFFF v, writeErr := d.brakes.writeErr || decide (v < 0xFFFFF) } } } ∧
      exec (.slotBrake w) s = .next { s with dev := if locked d 5 then d else
        { d with brakes := { d.brakes with minSwapMs := max 1 (min 1000 (v % 1024))
                                           writeErr := d.brakes.writeErr || decide (v % 1024 = 0 ∨ 1000 < v % 1024) } } } ∧
      (∃ t, exec (.engBrake n w) s = .next t ∧ t.pending = s.pending ∧
        t.dev.brakes = { d.brakes with engines := t.dev.brakes.engines, writeErr := t.dev.brakes.writeErr } ∧
        (∀ m : Engine, m ≠ n → launchCap t.dev m = launchCap d m ∧ ixtasAirtime t.dev m = ixtasAirtime d m ∧
          ixtasDepth t.dev m = ixtasDepth d m) ∧
        launchCap t.dev n = (if locked d 0 then launchCap d n else max 1 (v % 64)) ∧
        ixtasAirtime t.dev n = (if locked d 4 then ixtasAirtime d n else max 1 (min 100 (v / 256 % 128))) ∧
        ixtasDepth t.dev n = (if locked d 4 then ixtasDepth d n else max 2 (min 30 (v / 65536 % 32))) ∧
        t.dev.brakes.writeErr = (d.brakes.writeErr || (!locked d 0 && decide (v % 64 = 0)) || (!locked d 4 &&
          decide (v / 256 % 128 = 0 ∨ 100 < v / 256 % 128 ∨ v / 65536 % 32 < 2 ∨ v / 65536 % 32 = 31)))) ∧
      (∃ t, exec (.biasWindow b w) s = .next t ∧ t.pending = s.pending ∧
        t.dev.brakes = { d.brakes with window := t.dev.brakes.window, writeErr := t.dev.brakes.writeErr } ∧
        (∀ m : BiasOut, m ≠ b → biasLow t.dev m = biasLow d m ∧ biasHigh t.dev m = biasHigh d m) ∧
        if locked d 1 then t = s
        else if v / 65536 < v % 65536 then t.dev = { d with brakes := { d.brakes with writeErr := true } }
        else biasLow t.dev b = min 14000 (v % 65536) ∧ biasHigh t.dev b = min 14000 (v / 65536) ∧
          t.dev.brakes.writeErr = (d.brakes.writeErr || decide (14000 < v / 65536))) ∧
      (∃ t, exec (.biasSlew b w) s = .next t ∧ t.pending = s.pending ∧
        t.dev.brakes = { d.brakes with slew := t.dev.brakes.slew, writeErr := t.dev.brakes.writeErr } ∧
        (∀ m : BiasOut, m ≠ b → biasSlewOf t.dev m = biasSlewOf d m) ∧
        if locked d 1 then t = s
        else biasSlewOf t.dev b = max 1 (min 1000 (v % 1024)) ∧
          t.dev.brakes.writeErr = (d.brakes.writeErr || decide (v % 1024 = 0 ∨ 1000 < v % 1024))))

/-- After an ENG_BRAKE write whose launch field is not locked, an engine whose PEAK_TARGET exceeds the new cap is capped and, where
it was not, shows CAPPED; after one whose Ixtas fields are not locked, the configured dither depth lies within IXTAS_DEPTH. A
BIAS_WINDOW write changes only the brakes and what they report where the output is OFF or the window is locked, else leaves the
output inside its window and, as every engine with a mute source is out of the states that launch, touches no other output. A
SECURE_MASK write that is not locked stores the mask, and shows SECURE_CONFLICT where a queue newly marked violates the cipher-brake
check on the active pages. HOST_FREEZE set engages the freeze and changes nothing else; cleared, it touches only agreements, the
Ixtas channel and the vault that their start uses. -/
def Obligations.BrakesActOnTheDeviceAtOnce : Prop :=
  ∀ (w : RegWrite) (s : State) (n : Engine) (b : BiasOut) (k : Fin 128), let d := s.dev
    HostLands 1 w d →
    (∃ t, exec (.engBrake n w) s = .next t ∧
      t.dev = { d with brakes := t.dev.brakes, tx := t.dev.tx, ixtas := t.dev.ixtas, causes := t.dev.causes, ec := t.dev.ec, meas := t.dev.meas } ∧
      (∀ m : Engine, m ≠ n → engTx t.dev m = engTx d m ∧ ixtasEngine t.dev m = ixtasEngine d m) ∧
      (locked d 0 = false → launchCap t.dev n < (engTx d n).peak →
        (engTx t.dev n).capped = true ∧ ((engTx d n).capped = false → Shows t.dev (.engTx n) 4)) ∧
      (locked d 4 = false → (ixtasEngine t.dev n).depth * (ixtasEngine t.dev n).tones ≤ ixtasDepth t.dev n)) ∧
    (∃ t, exec (.biasWindow b w) s = .next t ∧
      (t.dev.mail = d.mail ∧ t.dev.fw = d.fw ∧ t.dev.links = d.links ∧ t.dev.power = d.power ∧ t.dev.pins = d.pins ∧
        t.dev.clock = d.clock ∧ t.dev.time = d.time ∧ t.dev.mem = d.mem ∧ t.dev.rx = d.rx ∧ t.dev.pool = d.pool) ∧
      ((biasOf d b).state = .off ∨ locked d 1 = true → t.dev = { d with brakes := t.dev.brakes, causes := t.dev.causes, ec := t.dev.ec, meas := t.dev.meas }) ∧
      ((engTx d (b / 6)).mute = 0 ∨ mutable (engTx d (b / 6)).state = false → ∀ m : BiasOut, m ≠ b → biasOf t.dev m = biasOf d m) ∧
      (locked d 1 = false → w.value.toNat % 65536 ≤ w.value.toNat / 65536 → (biasOf d b).state ≠ .off →
        biasLow t.dev b ≤ (biasOf t.dev b).mv ∧ (biasOf t.dev b).mv ≤ biasHigh t.dev b)) ∧
    (∃ t, exec (.secureMask k w) s = .next t ∧
      t.dev = { d with brakes := { d.brakes with secure := t.dev.brakes.secure }, causes := t.dev.causes, ec := t.dev.ec, meas := t.dev.meas } ∧
      (∀ q : Queue, q.val / 32 ≠ k.val → secureQueue t.dev q = secureQueue d q) ∧
      (locked d 2 = true → t = s) ∧
      (locked d 2 = false → (∀ q : Queue, q.val / 32 = k.val → secureQueue t.dev q = w.value.getLsbD (q.val % 32)) ∧
        (let fresh := onlySecure k (w.value &&& ~~~ tabGet (fun _ => 0) d.brakes.secure k) d
         (cipherOkTx fresh (judgedTx fresh 0) && cipherOkRx fresh (judgedRx fresh (fun _ => false))) = false → Shows t.dev .vault 2))) ∧
    (locked d 6 = true → exec (.freezeCtrl w) s = .next s) ∧
    (locked d 6 = false → w.value.getLsbD 0 = true →
      exec (.freezeCtrl w) s = .next { s with dev := { d with brakes := { d.brakes with hostFreeze := true } } }) ∧
    (locked d 6 = false → w.value.getLsbD 0 = false → ∃ t, exec (.freezeCtrl w) s = .next t ∧ t.pending = s.pending ∧
      t.dev = { d with brakes := { d.brakes with hostFreeze := false }, trust := { d.trust with agree := t.dev.trust.agree }, ixtas := t.dev.ixtas, free := t.dev.free })

/-- ZEROIZE_N low in any state other than OFF: every lane key slot and job context slot is empty, every vault entry in use is erased
with its generation advanced, the wrapping key is gone, ZEROIZED and IDENTITY_ERASED are set and source 0x1E0 shows ZEROIZED. No
limit of a brake, no tag line and no SVN floor changes. ZEROIZE_N high, and the pin in OFF, only move the pin. -/
def Obligations.ZeroisationErasesEveryKey : Prop :=
  ∀ s : State,
    (s.dev.power.state ≠ .off → ∃ t, exec (.zeroizeN true) s = .next t ∧ t.pending = s.pending ∧
      t.dev = { s.dev with pins := { s.dev.pins with zeroizeLow := true }, cipher := t.dev.cipher, frames := t.dev.frames
                           trust := t.dev.trust, causes := t.dev.causes, ec := t.dev.ec, meas := t.dev.meas, free := t.dev.free } ∧
      (∀ c : Coach, (cipherTx t.dev c).slot0 = none ∧ (cipherTx t.dev c).slot1 = none ∧ (cipherRx t.dev c).slot0 = none ∧
        (cipherRx t.dev c).slot1 = none) ∧ t.dev.cipher.contexts = [] ∧
      (∀ i : Fin 4096, vaultEntry t.dev i = if (vaultEntry s.dev i).used then
          { generation := ((vaultEntry s.dev i).generation + 1) % 2 ^ 16 } else vaultEntry s.dev i) ∧
      t.dev.trust = { s.dev.trust with vault := t.dev.trust.vault, wrapping := none, zeroized := true, identityErased := true } ∧
      Shows t.dev .vault 1) ∧
    exec (.zeroizeN false) s = .next { s with dev := { s.dev with pins := { s.dev.pins with zeroizeLow := false } } } ∧
    (s.dev.power.state = .off → exec (.zeroizeN true) s = .next { s with dev := { s.dev with pins := { s.dev.pins with zeroizeLow := true } } })

/-- While firmware runs: KA_TIMEOUT of an attempt that has run for its time leaves the coach idle with KA_RESULT 1, shows KA_FAIL,
and an initiator's next attempt is due after KA_RETRY. KA_RETRY on a coach whose retry is due, and ROTATE_PERIOD on a coach whose
current key has been in use for the period and that no retry waits for, send KA_INIT where firmware keys the coach and may start an
agreement, and make it wait where it may not. Four airtimes after it KA_CONFIRM is repeated unchanged while START_FC_I is 64 frames
or more away. None of them changes a key slot of any coach. Each completes without effect where its timer does not run. Firmware
acts on the oldest message of its type for the coach, and a message that is not there changes nothing. An accepted KA_INIT, which is
no repeat, makes an idle coach a responder that has sent KA_RESP, and waits with its coach where no attempt may start. A KA_RESP for
the running attempt that verifies makes the initiator keep the derived keys and START_FC and send KA_CONFIRM; one that fails
verification ends the attempt with its result. A KA_CONFIRM that verifies makes the responder load its receive key at START_FC_I and
its transmit key at its own START_FC, then report KA_DONE, an armed flip of the key regions hitting the first key written; one whose
tag is wrong ends the attempt with KA_RESULT 6 and no key changed. A KA_SETTLE that verifies makes the initiator load both keys and
report KA_DONE, and a transmit load that comes too late ends it with KA_RESULT 7 and the transmit key kept. -/
def Obligations.AgreementsStartEndAndKeyBothEnds : Prop :=
  (∀ (c : Coach) (s : State), let x := agreement s.dev c
    let starts (i : Instr) : Prop := ∃ t, exec i s = .next t ∧ t.pending = s.pending ∧
      t.dev = { s.dev with trust := { s.dev.trust with agree := t.dev.trust.agree }, ixtas := t.dev.ixtas, free := t.dev.free } ∧
      (x.state = .idle → (policyOf s.dev c).source = 0 → agreeBarred s.dev = false →
        if mayAgree s.dev then
          (agreement t.dev c).state = .initSent ∧ (agreement t.dev c).attempts = min 0xFFFF (x.attempts + 1) ∧ (agreement t.dev c).retryAt = none
        else agreement t.dev c = { x with state := .waiting, retryAt := none }) ∧
      (x.state ≠ .idle ∨ (policyOf s.dev c).source ≠ 0 ∨ agreeBarred s.dev = true → t.dev = s.dev)
    (firmwareRuns s.dev = true → x.state.running = true → x.began + (policyOf s.dev c).timeout * 1000000000 ≤ nowNs s.dev →
      ∃ t, exec (.kaTimeout c) s = .next t ∧ t.pending = s.pending ∧
      t.dev = { s.dev with trust := { s.dev.trust with agree := t.dev.trust.agree }, ixtas := t.dev.ixtas, causes := t.dev.causes, ec := t.dev.ec, meas := t.dev.meas, free := t.dev.free } ∧
      agreement t.dev c = { x with state := .idle, result := 1
                                   retryAt := if x.state = .respSent then none else some (nowNs s.dev + (policyOf s.dev c).retry * 1000000000) } ∧
      Shows t.dev (.agree c) 1) ∧
    (firmwareRuns s.dev = false ∨ x.state.running = false ∨ nowNs s.dev < x.began + (policyOf s.dev c).timeout * 1000000000 → exec (.kaTimeout c) s = .next s) ∧
    (firmwareRuns s.dev = true → x.retryAt.isSome = true → nextDue s.dev c ≤ nowNs s.dev → starts (.kaRetry c)) ∧
    (firmwareRuns s.dev = false ∨ x.retryAt = none ∨ nowNs s.dev < nextDue s.dev c → exec (.kaRetry c) s = .next s) ∧
    (firmwareRuns s.dev = true → (cipherTx s.dev c).current.isSome = true → x.retryAt = none → x.usedSince + (policyOf s.dev c).rotate * 1000000000 ≤ nowNs s.dev →
      starts (.rotatePeriod c)) ∧
    (firmwareRuns s.dev = false ∨ (cipherTx s.dev c).current = none ∨ x.retryAt.isSome = true ∨ nowNs s.dev < x.usedSince + (policyOf s.dev c).rotate * 1000000000 →
      exec (.rotatePeriod c) s = .next s) ∧
    (firmwareRuns s.dev = true → x.state = .confirmSent → x.confirmAt + 4 * confirmAir s.dev c ≤ nowNs s.dev → 64 ≤ loadLead s.dev c 0 x.startFc →
      2 * loadLead s.dev c 0 x.startFc < loadMod s.dev c 0 →
      exec (.kaConfirmRepeat c) s = .next { s with dev := (
        repeatToPartner c 2 0x12 (x.confirmId.getD 0) x.lastConfirm (setAgreement c { x with confirmAt := nowNs s.dev } s.dev)) }) ∧
    (x.state ≠ .confirmSent ∨ nowNs s.dev < x.confirmAt + 4 * confirmAir s.dev c → exec (.kaConfirmRepeat c) s = .next s)) ∧
  (∀ (c : Coach) (f : KaFacts) (s : State) (m : Message),
    let x := agreement s.dev c
    let taken (k : Nat) : Prop := s.dev.ixtas.inbox.find? (fun m => m.coach == c.val && m.kind == k) = some m ∧ firmwareRuns s.dev = true ∧
      agreeBarred s.dev = false
    let th := transcript x.initBody x.respBody
    ((s.dev.ixtas.inbox.find? (fun m => m.coach == c.val && m.kind == 0x10) = none → exec (.kaInit c f) s = .next s) ∧
     (s.dev.ixtas.inbox.find? (fun m => m.coach == c.val && m.kind == 0x11) = none → exec (.kaResp c f) s = .next s) ∧
     (s.dev.ixtas.inbox.find? (fun m => m.coach == c.val && m.kind == 0x12) = none → exec (.kaConfirm c f) s = .next s) ∧
     (s.dev.ixtas.inbox.find? (fun m => m.coach == c.val && m.kind == 0x13) = none → exec (.kaSettle c f) s = .next s)) ∧
    (taken 0x10 → (policyOf s.dev c).source = 0 → m.body.length = 1705 → partnerFault s.dev c f false = none → x.state = .idle → freezeOn s.dev = false →
      m.ident = none ∨ m.ident ≠ x.initId ∨ u64 m.body 0 ≠ x.initIdent → ∃ t, exec (.kaInit c f) s = .next t ∧ t.pending = s.pending ∧ t.dev.cipher = s.dev.cipher ∧
        (mayAgree s.dev = true → (agreement t.dev c).state = .respSent ∧ (agreement t.dev c).initBody = m.body ∧ (agreement t.dev c).peer = f.fingerprint) ∧
        (mayAgree s.dev = false → (agreement t.dev c).state = .waiting ∧ (agreement t.dev c).heldInit = some (f.fingerprint, m.body))) ∧
    (taken 0x11 → x.state = .initSent → m.body.length = 6428 → u64 m.body 0 = x.ident.toNat →
      ∃ t, exec (.kaResp c f) s = .next t ∧ t.pending = s.pending ∧ (∀ k : Coach, cipherTx t.dev k = cipherTx s.dev k ∧ cipherRx t.dev k = cipherRx s.dev k) ∧
        match partnerFault s.dev c f true with
        | none => (agreement t.dev c).state = .confirmSent ∧ (agreement t.dev c).derived = derivedBytes x.initBody m.body ∧
            (agreement t.dev c).startFc = startCount s.dev c
        | some r => (agreement t.dev c).state = .idle ∧ (agreement t.dev c).result = r ∧ Shows t.dev (.agree c) 1) ∧
    (taken 0x12 → x.state = .respSent → m.body.length = 4756 → u64 m.body 0 = x.ident.toNat → partnerFault s.dev c f true = none →
      ∃ t, exec (.kaConfirm c f) s = .next t ∧ t.pending = s.pending ∧
        (m.body.drop 4740 ≠ confirmTag x.derived th 0x49 → (agreement t.dev c).state = .idle ∧ (agreement t.dev c).result = 6 ∧
          ∀ k : Coach, cipherTx t.dev k = cipherTx s.dev k ∧ cipherRx t.dev k = cipherRx s.dev k) ∧
        (m.body.drop 4740 = confirmTag x.derived th 0x49 → freezeOn s.dev = false → vaultRoom s.dev = true → u8 m.body 4739 ≤ 1 →
          rxLoadable s.dev c (u8 m.body 4739) (u64 m.body 4731) = true →
          (agreement t.dev c).state = .idle ∧ (agreement t.dev c).result = 0 ∧ Shows t.dev (.agree c) 0 ∧
          cipherRx t.dev c = putRxSlot (u8 m.body 4739) (hitKey (flipMaskFor 5 s.dev) { key := lineKey x.derived 0, salt := lineSalt x.derived 0, startFc := u64 m.body 4731, limit := (cipherRx s.dev c).limit }) (cipherRx s.dev c) ∧
          cipherTx t.dev c = putTxSlot (nextSlot (cipherTx s.dev c)) (some { key := lineKey x.derived 1, salt := lineSalt x.derived 1, startFc := startCount s.dev c, limit := (cipherTx s.dev c).limit }) (cipherTx s.dev c))) ∧
    (taken 0x13 → x.state = .confirmSent → m.body.length = 33 → u64 m.body 0 = x.ident.toNat → m.body.drop 17 = confirmTag x.derived th 0x53 →
      freezeOn s.dev = false → vaultRoom s.dev = true → u8 m.body 16 ≤ 1 → rxLoadable s.dev c (u8 m.body 16) (u64 m.body 8) = true →
      ∃ t, exec (.kaSettle c f) s = .next t ∧ t.pending = s.pending ∧ (agreement t.dev c).state = .idle ∧
        cipherRx t.dev c = putRxSlot (u8 m.body 16) (hitKey (flipMaskFor 5 s.dev) { key := lineKey x.derived 1, salt := lineSalt x.derived 1, startFc := u64 m.body 8, limit := (cipherRx s.dev c).limit }) (cipherRx s.dev c) ∧
        (txLoadable s.dev c x.startFc = true → (agreement t.dev c).result = 0 ∧ Shows t.dev (.agree c) 0 ∧
          cipherTx t.dev c = putTxSlot (nextSlot (cipherTx s.dev c)) (some { key := lineKey x.derived 0, salt := lineSalt x.derived 0, startFc := x.startFc, limit := (cipherTx s.dev c).limit }) (cipherTx s.dev c)) ∧
        (txLoadable s.dev c x.startFc = false → (agreement t.dev c).result = 7 ∧ Shows t.dev (.agree c) 1 ∧
          cipherTx t.dev c = cipherTx s.dev c)))

/-- TWIN_DUE on a tributary with receive enabled that holds a copy of the present numbering whose due instant has come: NEXT_SEQ
advances by one modulo 2^32, every held copy of the released number goes and every other stays, and the rejoin window shrinks by one
block. Where a new numbering waits, NEXT_SEQ keeps its own numbering while a copy of that one is still held and takes the new number
once none is. With a valid copy of the preferred path one block is delivered; with only one of the other path it is delivered and
TWIN_DISPLACED counts; with none FILL_BLOCKS counts and raw YLS is set. A delivered block clears YLS unless both paths are out. The
configuration, both paths' states and the preference stay. Without a copy due nothing changes. TWIN_COPY_ARRIVAL takes the next 513
words of its path. While the merge is not to rebase, no new numbering waits and no copy far ahead was noted on its path, a copy
behind NEXT_SEQ is dropped and counted as duplicate or late, a copy fewer than 4,096 blocks ahead joins the held ones with NEXT_SEQ
unchanged, and a copy at least 4,096 blocks ahead with RESTART set, nothing being held, makes NEXT_SEQ its own number, is held,
opens the rejoin window of 64 blocks and shows REBASE. Where the merge is to rebase and holds nothing, a copy with a good header
makes NEXT_SEQ its own number, is held, and shows REBASE. A copy of the earlier path is held in the yard, where an armed flip hits
it. An invalid copy counts as failed. The other path keeps its words. Where fewer words have been reassembled nothing changes. -/
def Obligations.TwinCopiesAreHeldAndMergedInOrder : Prop :=
  (∀ (w : Twin) (s : State), let x := twinRx s.dev w
    let good (b : Bool) : Prop := ∃ c ∈ x.held, ofNext x c = true ∧ c.pathB = b ∧ c.valid = true
    let left := x.held.filter (fun c => !ofNext x c)
    ((twinCfg s.dev w).rx = true → (∃ c ∈ x.held, ofNumbering x c = true ∧ c.due ≤ nowNs s.dev) → asleep s.dev = false →
      ∃ t, exec (.twinDue w) s = .next t ∧ t.pending = s.pending ∧
        (x.rebaseTo = [] → (twinRx t.dev w).next = (x.next + 1) % 2 ^ 32 ∧ (twinRx t.dev w).rejoin = x.rejoin - 1) ∧
        (∀ n l, x.rebaseTo = n :: l → (∃ c ∈ left, ofNumbering x c = true) →
          (twinRx t.dev w).next = (x.next + 1) % 2 ^ 32 ∧ (twinRx t.dev w).rebaseTo = n :: l) ∧
        (∀ n, x.rebaseTo = [n] → (∀ c ∈ left, ofNumbering x c = false) → (twinRx t.dev w).next = n ∧ (twinRx t.dev w).rebaseTo = []) ∧
        (twinRx t.dev w).held = left ∧ (twinRx t.dev w).prefB = x.prefB ∧ (twinRx t.dev w).a = x.a ∧ (twinRx t.dev w).b = x.b ∧
        (good x.prefB → Counts (keyTwin w 0) 1 s.dev t.dev ∧ countOf t.dev (keyTwin w 1) = countOf s.dev (keyTwin w 1)) ∧
        (¬ good x.prefB → good (!x.prefB) → Counts (keyTwin w 0) 1 s.dev t.dev ∧ Counts (keyTwin w 1) 1 s.dev t.dev) ∧
        (good x.prefB ∨ good (!x.prefB) → countOf t.dev (keyTwin w 3) = countOf s.dev (keyTwin w 3) ∧
          (twinRx t.dev w).yls = (x.yls && bothOut x)) ∧
        (¬ good x.prefB → ¬ good (!x.prefB) → countOf t.dev (keyTwin w 0) = countOf s.dev (keyTwin w 0) ∧
          Counts (keyTwin w 3) 1 s.dev t.dev ∧ (twinRx t.dev w).yls = true) ∧
        t.dev = { s.dev with twins := { s.dev.twins with rx := t.dev.twins.rx }, slots := t.dev.slots, defects := t.dev.defects, mem := t.dev.mem
                             causes := t.dev.causes, causeMs := t.dev.causeMs, ec := t.dev.ec, meas := t.dev.meas }) ∧
    ((∀ c ∈ x.held, ofNumbering x c = true → nowNs s.dev < c.due) ∨ (twinCfg s.dev w).rx = false ∨ asleep s.dev = true → exec (.twinDue w) s = .next s)) ∧
  (∀ (w : Twin) (p : Fin 2) (skip : Nat) (s : State), let b := p == 1; let x := twinRx s.dev w
    let words := ((pathOf x b).words.drop skip).take blockWords
    let c := (copyOf s.dev w b words).1
    let e : HeldCopy := { (if b = x.bEarlier then hitCopy (flipMaskFor 6 s.dev) c else c) with yard := b == x.bEarlier }
    let noted := c.restart = true ∧ (pathOf x b).far ≠ none
    ((twinCfg s.dev w).rx = true → skip + blockWords ≤ (pathOf x b).words.length → asleep s.dev = false →
      ∃ t, exec (.twinCopyArrival w p skip) s = .next t ∧ t.pending = s.pending ∧
        (pathOf (twinRx t.dev w) b).words = (pathOf x b).words.drop (skip + blockWords) ∧
        (pathOf (twinRx t.dev w) (!b)).words = (pathOf x (!b)).words ∧
        (x.rebase = false → x.rebaseTo = [] → ¬ noted → behindSeq c.seq x.next = true → (twinRx t.dev w).held = x.held ∧ (twinRx t.dev w).next = x.next ∧
          Counts (keyTwin w (if freshSeq (pathOf x b) c.seq then 5 else 4)) 1 s.dev t.dev) ∧
        (x.rebase = false → x.rebaseTo = [] → ¬ noted → behindSeq c.seq x.next = false → modSub (2 ^ 32) c.seq x.next < 4096 →
          (twinRx t.dev w).held = x.held ++ [e] ∧ (twinRx t.dev w).next = x.next) ∧
        (x.rebase = false → x.rebaseTo = [] → ¬ noted → x.held = [] → behindSeq c.seq x.next = false → 4096 ≤ modSub (2 ^ 32) c.seq x.next →
          c.restart = true → (twinRx t.dev w).held = [e] ∧ (twinRx t.dev w).next = c.seq ∧ (twinRx t.dev w).rejoin = 64 ∧ Shows t.dev (.twin w) 8) ∧
        (x.rebase = true → x.held = [] → ¬ noted → (copyOf s.dev w b words).2 = true →
          (twinRx t.dev w).held = [e] ∧ (twinRx t.dev w).next = c.seq ∧ Shows t.dev (.twin w) 8) ∧
        (c.valid = false → Counts (keyTwin w 6) 1 s.dev t.dev) ∧
        t.dev = { s.dev with twins := { s.dev.twins with rx := t.dev.twins.rx }, causes := t.dev.causes, causeMs := t.dev.causeMs
                             ec := t.dev.ec, meas := t.dev.meas, mem := t.dev.mem, defects := t.dev.defects }) ∧
    ((pathOf x b).words.length < skip + blockWords → exec (.twinCopyArrival w p skip) s = .next s))

/-- IXTAS_HB_MISS on a coach that delivers twin legs counts a miss and forgets the present run; the third in a row fails the chain,
and then no path that the coach delivers is IN_SERVICE. TWIN_HEARTBEAT_RECEIVE with exactly the expected word counts one present and
forgets the misses; the third in a row clears the chain; any other word changes nothing. Neither changes the other chain or another
coach. TWIN_HEARTBEAT_SEND puts the heartbeat word of the coach and its role on its tone for its class's airtime where the airtime
brake and MAX_TONES allow it, and otherwise shows HB_DEFERRED with nothing put on air. -/
def Obligations.TheIxtasChainFailsAndClears : Prop :=
  ∀ (c : Coach) (word : Word) (s : State), let x := chainOf s.dev c; let n := engineOf c
    (rxTwins s.dev c ≠ [] → asleep s.dev = false → ∃ t, exec (.ixtasHbMiss c) s = .next t ∧ t.pending = s.pending ∧
      (∀ k : Coach, chainOf t.dev k = if k = c then { x with ixtasMisses := min 3 (x.ixtasMisses + 1), ixtasPresent := 0
                                                             ixtasFailed := x.ixtasFailed || decide (2 ≤ x.ixtasMisses) } else chainOf s.dev k) ∧
      ((chainOf t.dev c).ixtasFailed = true → ∀ (w : Twin) (b : Bool), (twinCfg s.dev w).rx = true → c.val ∈ pathCoaches s.dev w b →
        (pathOf (twinRx t.dev w) b).state ≠ .inService) ∧
      t.dev = { s.dev with twins := { s.dev.twins with chains := t.dev.twins.chains, rx := t.dev.twins.rx }, causes := t.dev.causes
                           causeMs := t.dev.causeMs, ec := t.dev.ec, meas := t.dev.meas }) ∧
    ((ixtasEngine s.dev n).rx = true → engineOff s.dev n = false → (partnerOf s.dev c).hbWord = some word →
      ∃ t, exec (.twinHeartbeatReceive c word) s = .next t ∧ t.pending = s.pending ∧
        (∀ k : Coach, chainOf t.dev k = if k = c then { x with ixtasMisses := 0, ixtasPresent := min 3 (x.ixtasPresent + 1)
                                                               ixtasFailed := x.ixtasFailed && decide (x.ixtasPresent < 2) } else chainOf s.dev k) ∧
        t.dev = { s.dev with twins := { s.dev.twins with chains := t.dev.twins.chains, rx := t.dev.twins.rx }, causes := t.dev.causes
                             causeMs := t.dev.causeMs, ec := t.dev.ec, meas := t.dev.meas }) ∧
    ((partnerOf s.dev c).hbWord ≠ some word → exec (.twinHeartbeatReceive c word) s = .next s) ∧
    (beats s.dev c = true → ixtasSends s.dev n = true → let ns := heartbeatAir (ixtasCoach s.dev c).hbClass
      ∃ t, exec (.twinHeartbeatSend c) s = .next t ∧ t.pending = s.pending ∧
        (airAllows s.dev c ns = true → toneBusy s.dev c = false → tonesOnAir s.dev n < (ixtasEngine s.dev n).tones →
          (toneTx t.dev c).last = be 4 (heartbeatWord (ixtasEngine s.dev n).sync (txRole s.dev c) c).toNat ∧
          (toneTx t.dev c).air.head? = some (nowNs s.dev, nowNs s.dev + ns) ∧ (∀ k : Coach, k ≠ c → toneTx t.dev k = toneTx s.dev k)) ∧
        (airAllows s.dev c ns = false ∨ toneBusy s.dev c = true ∨ (ixtasEngine s.dev n).tones ≤ tonesOnAir s.dev n →
          Shows t.dev (.ixtasEng n) 2 ∧ t.dev.ixtas = s.dev.ixtas) ∧
        t.dev = { s.dev with ixtas := t.dev.ixtas, causes := t.dev.causes, ec := t.dev.ec, meas := t.dev.meas })

/-- On an engine whose Ixtas receiver runs: a detection at or above PRE_THRESHOLD takes an idle primary, or the idle challenger of a
primary in reception, and replaces a challenger's preamble only with a higher correlation. A window that passes empties the context
that holds a preamble. A run within SYNC_TOL of the sync word starts the primary's reception; on the challenger it displaces a
primary of lower QUALITY and otherwise ends the challenger. A header that fails its checks ends the reception in favour of the
challenger. Each moves no other branch and counts in its own count. RX_OK ends the primary's reception, the challenger taking its
place. A packet whose CRC fails only counts CRC_FAIL. One that passes counts RX_OK; where it is addressed elsewhere or of an unknown
type it only counts NOT_MINE besides; an unprotected whole HOST_MSG goes to the host's path unchanged; a packet for firmware that
finds the ring full is dropped with RX_DROPPED and RX_OVERFLOW, and one that finds room while firmware does not run joins the ring.
HOST_MSG moves the oldest message of its coach to the host queue and raises 0x2A1, or drops it at a full queue. FRAG_TIMEOUT, 10 s
after the first fragment, discards the message it names and no other. -/
def Obligations.SearchesAndPacketsFollowTheTones : Prop :=
  (∀ (n : Engine) (b : Branch) (corr quality : Byte) (word : Word) (h : BitVec 64) (s : State), let i := branchNo n b; let x := branchOf s.dev i
    let moves (i' : Instr) (y : BranchState) : Prop := ∃ t, exec i' s = .next t ∧ t.pending = s.pending ∧ branchOf t.dev i = y ∧
      (∀ j, j ≠ i → branchOf t.dev j = branchOf s.dev j) ∧
      t.dev = { s.dev with ixtas := { s.dev.ixtas with branches := t.dev.ixtas.branches }, meas := t.dev.meas }
    let detects (y : BranchState) : Prop := ∃ t, exec (.preDetect n b corr) s = .next t ∧ t.pending = s.pending ∧ branchOf t.dev i = y ∧
      (∀ j, j ≠ i → branchOf t.dev j = branchOf s.dev j) ∧ (∀ m : Engine, m ≠ n → ixtasEngine t.dev m = ixtasEngine s.dev m) ∧
      ixtasEngine t.dev n = { ixtasEngine s.dev n with agcGain := (ixtasEngine t.dev n).agcGain } ∧
      ((ixtasEngine s.dev n).agc = false ∨ agcFrozen s.dev n = true → (ixtasEngine t.dev n).agcGain = (ixtasEngine s.dev n).agcGain ∧ t.dev.free = s.dev.free) ∧
      t.dev = { s.dev with ixtas := { s.dev.ixtas with branches := t.dev.ixtas.branches, engines := t.dev.ixtas.engines }, meas := t.dev.meas, free := t.dev.free }
    ixtasHears s.dev n = true →
    ((ixtasEngine s.dev n).threshold ≤ corr.toNat →
      (x.primary = .idle → detects { x with primary := .preamble corr.toNat }) ∧
      (∀ q, x.primary = .reception q → x.challenger = .idle → detects { x with challenger := .preamble corr.toNat }) ∧
      (∀ q old, x.primary = .reception q → x.challenger = .preamble old →
        detects { x with challenger := .preamble (max old corr.toNat) })) ∧
    (corr.toNat < (ixtasEngine s.dev n).threshold → exec (.preDetect n b corr) s = .next s) ∧
    (∀ k, x.primary = .preamble k → moves (.preExpired n b false) { x with primary := .idle }) ∧
    (∀ k, x.challenger = .preamble k → moves (.preExpired n b true) { x with challenger := .idle }) ∧
    (bitErrors word (ixtasEngine s.dev n).sync ≤ (ixtasEngine s.dev n).tol →
      (∀ k, x.primary = .preamble k → moves (.syncMatch n b false word quality) { x with primary := .reception quality.toNat }) ∧
      (∀ q k, x.primary = .reception q → x.challenger = .preamble k →
        moves (.syncMatch n b true word quality) { primary := .reception (max q quality.toNat) })) ∧
    ((ixtasEngine s.dev n).tol < bitErrors word (ixtasEngine s.dev n).sync →
      exec (.syncMatch n b false word quality) s = .next s ∧ exec (.syncMatch n b true word quality) s = .next s) ∧
    (∀ q, x.primary = .reception q → ixtasHeaderFits (be 8 h.toNat) = false → moves (.hdrReject n b h) { primary := x.challenger }) ∧
    (∀ q, x.primary = .reception q → ixtasHeaderFits (be 8 h.toNat) = true → exec (.hdrReject n b h) s = .next s)) ∧
  (∀ (n : Engine) (b : Branch) (p : PacketFacts) (s : State), let i := branchNo n b
    let r : Received := { engine := n, tone := b.tone, bytes := p.bytes, cn0 := p.cn0.toNat, at_ := nowNs s.dev }
    let ended (d : Dev) : Prop := branchOf d i = { primary := (branchOf s.dev i).challenger } ∧ (∀ j, j ≠ i → branchOf d j = branchOf s.dev j)
    (ixtasHears s.dev n = true → receiving s.dev i = true → packetFits p.bytes = true →
      ∃ t, exec (.rxOk n b p) s = .next t ∧ t.pending = s.pending ∧ ended t.dev ∧
        (crc16 p.bytes ≠ p.crc → Counts (keyEngine n 7) 1 s.dev t.dev ∧
          t.dev = { s.dev with ixtas := { s.dev.ixtas with branches := t.dev.ixtas.branches }, meas := t.dev.meas }) ∧
        (crc16 p.bytes = p.crc → Counts (keyEngine n 9) 1 s.dev t.dev ∧
          (forUs s.dev n p.bytes = false ∨ kindKnown (u8 p.bytes 5) = false → Counts (keyEngine n 10) 1 s.dev t.dev ∧
            t.dev = { s.dev with ixtas := { s.dev.ixtas with branches := t.dev.ixtas.branches }, meas := t.dev.meas }) ∧
          (forUs s.dev n p.bytes = true → u8 p.bytes 5 = 0x20 → u8 p.bytes 0 < 16 →
            t.dev.ixtas.hostIn = s.dev.ixtas.hostIn ++ [packetMessage r (concerned r) false (p.bytes.drop 8)]) ∧
          (forUs s.dev n p.bytes = true → kindKnown (u8 p.bytes 5) = true → u8 p.bytes 5 ≠ 0x20 →
            (256 ≤ s.dev.ixtas.ring.length → t.dev.ixtas.ring = s.dev.ixtas.ring ∧ Counts (keyEngine n 11) 1 s.dev t.dev ∧
              Shows t.dev (.ixtasEng n) 0) ∧
            (s.dev.ixtas.ring.length < 256 → firmwareRuns s.dev = false → t.dev.ixtas.ring = s.dev.ixtas.ring ++ [r])))) ∧
    (∀ (c : Coach) (m : Message), s.dev.ixtas.hostIn.find? (fun m => m.coach == c.val) = some m →
      ∃ t, exec (.hostMsg c) s = .next t ∧ t.pending = s.pending ∧ t.dev.ixtas.hostIn = s.dev.ixtas.hostIn.erase m ∧
        (s.dev.ixtas.hostQueue.length < 64 → t.dev.ixtas.hostQueue = s.dev.ixtas.hostQueue ++ [m] ∧ t.dev.ec.pend.getLsbD 0x2A1 = true) ∧
        (64 ≤ s.dev.ixtas.hostQueue.length → t.dev.ixtas.hostQueue = s.dev.ixtas.hostQueue ∧ Shows t.dev (.ixtasEng m.engine) 0)) ∧
    (∀ source ident : BitVec 16, (∃ a ∈ s.dev.ixtas.assemblies, isAssembly n source.toNat ident.toNat a = true ∧ a.head.at_ + 10000000000 ≤ nowNs s.dev) →
      ∃ t, exec (.fragTimeout n source ident) s = .next t ∧ t.pending = s.pending ∧ Shows t.dev (.ixtasEng n) 3 ∧
        t.dev.ixtas = { s.dev.ixtas with assemblies := s.dev.ixtas.assemblies.filter (fun a => !isAssembly n source.toNat ident.toNat a) } ∧
        t.dev = { s.dev with ixtas := t.dev.ixtas, causes := t.dev.causes, ec := t.dev.ec, meas := t.dev.meas }))

/-- IXTAS_PACKET_START on an engine that sends: either the first waiting packet leaves the queue and goes on air, and then the tone
was idle, its airtime over the second that ends now with the packet's own stays within IXTAS_AIRTIME, and the tones fit MAX_TONES;
or nothing goes on air and what waits on the tone is the same but for the mark of a deferral. No other tone changes, and the brake
stays as it is. -/
def Obligations.AirtimeNeverExceedsItsBrake : Prop :=
  ∀ (n : Engine) (k : Fin 16) (s : State), let c := 16 * n.val + k.val
    ∃ t, exec (.ixtasPacketStart n k) s = .next t ∧ t.pending = s.pending ∧
      t.dev = { s.dev with ixtas := { s.dev.ixtas with tones := t.dev.ixtas.tones }, meas := t.dev.meas } ∧
      (∀ j, j ≠ c → toneTx t.dev j = toneTx s.dev j) ∧
      (ixtasSends s.dev n = false → t = s) ∧
      (∀ p, ixtasSends s.dev n = true → firstWaiting (toneTx s.dev c).waiting = some p →
        let ok := !toneBusy s.dev c && tonesFit s.dev c (outgoingAir p) && beatFits s.dev c (outgoingAir p)
        (ok = true → airSum s.dev c + outgoingAir p ≤ ixtasAirtime s.dev n * 1000000 →
          (toneTx t.dev c).waiting = (toneTx s.dev c).waiting.erase p ∧ (toneTx t.dev c).last = p.bytes ∧
          (toneTx t.dev c).air.head? = some (nowNs s.dev, nowNs s.dev + outgoingAir p)) ∧
        (ok = false ∨ ixtasAirtime s.dev n * 1000000 < airSum s.dev c + outgoingAir p →
          (toneTx t.dev c).air = (toneTx s.dev c).air ∧
          (toneTx t.dev c).waiting.map (fun q => (q.level, q.cls, q.bytes, q.wake)) =
            (toneTx s.dev c).waiting.map (fun q => (q.level, q.cls, q.bytes, q.wake))))

/-- While firmware runs and the engine's Ixtas transmit is enabled, HELLO_PERIOD queues one HELLO of 24 bytes on the coach's tone
after what waits there. A received HELLO leaves the partner heard, or known if it was, with the highest common versions, and shows
PARTNER_FOUND where it was not heard. A CAPABILITY leaves it known with its fingerprint and the heartbeat word that its coach, role
and this engine's sync word give. A TRACE stores tag and text, and shows TRACE_MISMATCH where the expected text differs. A
CAP_REQUEST makes firmware send the present CAPABILITY. A partner not heard for its time is lost, shows PARTNER_LOST, and no other
setting changes. A message that is not there changes nothing. -/
def Obligations.PartnersAreFoundKnownAndLost : Prop :=
  ∀ (c : Coach) (s : State) (m : Message), let p := partnerOf s.dev c
    let taken (k : Nat) : Prop := s.dev.ixtas.inbox.find? (fun m => m.coach == c.val && m.kind == k) = some m ∧ firmwareRuns s.dev = true
    (firmwareRuns s.dev = true → (ixtasEngine s.dev (engineOf c)).tx = true → engineOff s.dev (engineOf c) = false →
      ∃ t, exec (.helloPeriod c) s = .next t ∧ t.pending = s.pending ∧ (partnerOf t.dev c).helloSent = true ∧
        (∃ h rest, (toneTx t.dev c).waiting = (toneTx s.dev c).waiting ++ h :: rest ∧ h.level = 3 ∧ h.bytes.length = 32 ∧ u8 h.bytes 5 = 1 ∧
          h.bytes.drop 8 = helloPayload s.dev c) ∧
        t.dev = { s.dev with ixtas := t.dev.ixtas, trust := { s.dev.trust with vault := t.dev.trust.vault } }) ∧
    (taken 1 → m.body.length = 24 → ∃ t, exec (.helloPacket c) s = .next t ∧ t.pending = s.pending ∧
      (partnerOf t.dev c).state = (if p.state = .known then .known else .heard) ∧ (partnerOf t.dev c).coach = u8 m.body 4 ∧
      (partnerOf t.dev c).ixtas = commonVersion (u8 m.body 0) ∧ (partnerOf t.dev c).frame = commonVersion (u8 m.body 1) ∧
      (partnerOf t.dev c).cn0Reported = u8 m.body 3 ∧ (heardNow p = false → Shows t.dev (.partner c) 0)) ∧
    (taken 2 → m.body.length = 64 → ∃ t, exec (.capability c) s = .next t ∧ t.pending = s.pending ∧
      (partnerOf t.dev c).state = .known ∧ (partnerOf t.dev c).fingerprint = BitVec.ofNat 384 (beNat (m.body.take 48)) ∧
      (partnerOf t.dev c).hbWord = some (~~~ (ixtasEngine s.dev (engineOf c)).sync ^^^
        BitVec.ofNat 32 (u8 m.body 53 / 2 % 4 * 256 + u8 m.body 48))) ∧
    (taken 3 → m.body.length = 34 → ∃ t, exec (.trace c) s = .next t ∧ t.pending = s.pending ∧
      (partnerOf t.dev c).traceTag = some (u16 m.body 0) ∧ (partnerOf t.dev c).traceText = m.body.drop 2 ∧
      ((ixtasCoach s.dev c).expSet = true → m.body.drop 2 ≠ (ixtasCoach s.dev c).expected → Shows t.dev (.partner c) 4) ∧
      t.dev = { s.dev with ixtas := t.dev.ixtas, frames := t.dev.frames, causes := t.dev.causes, ec := t.dev.ec, meas := t.dev.meas }) ∧
    (taken 4 → ∃ t, exec (.capRequest c) s = .next t ∧ t.pending = s.pending ∧ (partnerOf t.dev c).sent = capabilityPayload s.dev c ∧
      t.dev = { s.dev with ixtas := t.dev.ixtas, trust := { s.dev.trust with vault := t.dev.trust.vault }, meas := t.dev.meas }) ∧
    (firmwareRuns s.dev = true → heardNow p = true → p.lastHeard + 300000000 * (ixtasCoach s.dev c).period ≤ nowNs s.dev →
      ∃ t, exec (.partnerLost c) s = .next t ∧ t.pending = s.pending ∧ Shows t.dev (.partner c) 1 ∧
        partnerOf t.dev c = { p with state := .lost, cn0 := 0 } ∧ (∀ k : Coach, k ≠ c → partnerOf t.dev k = partnerOf s.dev k) ∧
        t.dev = { s.dev with ixtas := { s.dev.ixtas with partners := t.dev.ixtas.partners }, causes := t.dev.causes, ec := t.dev.ec, meas := t.dev.meas }) ∧
    (firmwareRuns s.dev = false ∨ heardNow p = false ∨ nowNs s.dev < p.lastHeard + 300000000 * (ixtasCoach s.dev c).period → exec (.partnerLost c) s = .next s) ∧
    (s.dev.ixtas.inbox = [] → exec (.helloPacket c) s = .next s ∧ exec (.capability c) s = .next s ∧ exec (.trace c) s = .next s ∧
      exec (.capRequest c) s = .next s)

/-- (The model's choice, assumption log 1: with no command waiting a step is one cycle of CK_TIME.) While the timing block runs,
with the applied frequency within 50 ppm and a slew rate of at most 100,000 ns per second, an idle step advances DEVTIME by at least
0.9 times and at most 1.1 times its nominal increment, moves the applied frequency by at most one unit and toward the frequency that
the state asks for, and keeps the links, brakes, trust, calibration, power, pins, and every other part of the timing state; while
the block is stopped DEVTIME stands. A read of DEVTIME_LO returns the low half of the present nanoseconds and latches the high half,
the fraction and the two flags of the same tick; it changes nothing else. -/
def Obligations.DevtimeOnlyMovesForward : Prop :=
  ∀ (s : State) (r : RegRead), let d := s.dev
    (s.pending = [] → ∃ t, step s = .next t ∧ t.pending = [] ∧
      t.dev.links = d.links ∧ t.dev.brakes = d.brakes ∧ t.dev.trust = d.trust ∧ t.dev.bench = { d.bench with window := t.dev.bench.window } ∧ t.dev.power = d.power ∧ t.dev.pins = d.pins ∧
      t.dev.timeCfg = d.timeCfg ∧ t.dev.time = { d.time with applied := t.dev.time.applied, slewPart := t.dev.time.slewPart, lockSum := t.dev.time.lockSum, lockCycles := t.dev.time.lockCycles } ∧
      (timeRuns d = false → t.dev.clock = d.clock ∧ t.dev.time = d.time) ∧
      (timeRuns d = true → -50000000 ≤ d.time.applied → d.time.applied ≤ 50000000 → d.clock.slewRate ≤ 100000 →
        10 * d.clock.frac + 9 * 2 ^ 48 ≤ 10 * t.dev.clock.frac ∧ 10 * t.dev.clock.frac ≤ 10 * d.clock.frac + 11 * 2 ^ 48) ∧
      (wantedFreq d - t.dev.time.applied).natAbs ≤ (wantedFreq d - d.time.applied).natAbs ∧
      (t.dev.time.applied - d.time.applied).natAbs ≤ 1) ∧
    (ReadLands 4 r.who d → exec (.devtimeLoRead r) s = .next { s with dev := { d with
      mail := { d.mail with out := [addressed r.enables (BitVec.ofNat 32 (nowNs d))] }
      clock := { d.clock with latchHi := BitVec.ofNat 32 (nowNs d / 2 ^ 32)
                              latchFrac := BitVec.ofNat 18 (d.clock.frac / 2 ^ 32 % 65536 + (if d.clock.valid then 65536 else 0) +
                                (if d.clock.coarse then 131072 else 0)) } } })

/-- While the timing block runs and the reference is QUALIFIED, REF_LOST makes it LOST with DQ_CAUSE 1 and an offset beyond
HARD_LIMIT makes it DISQUALIFIED with DQ_CAUSE 2; REF_QUAL_CHANGE shows and no other reference changes, but for the time since which
one that it arbitrates meets its terms. If it was not in use, ACTIVE_REF and the state stay. If it was in use in ACQUIRE or LOCKED:
where some reference is QUALIFIED, ACTIVE_REF becomes one of the best rank, of the lowest index among those, the state is ACQUIRE
and FALLBACK shows; where none is, ACTIVE_REF stays, HOLDOVER_FREQ is the mean of the stored span, and the state is HOLDOVER if
history is valid and FREERUN if not. An offset within the limit is stored and moves no state, SOFT_WARN following the soft limit
with its hysteresis. REF_QUALIFIED on a reference whose conditions hold makes it QUALIFIED and shows REF_QUAL_CHANGE; it takes the
loop only if it is ACTIVE_REF and the state is FREERUN or HOLDOVER. REF_ACTIVITY_BACK on a valid LOST reference moves it to WAIT
with no history. DRIFT_ESTIMATE stores the offset as the newest of at most 32; it disqualifies a QUALIFIED reference with DQ_CAUSE 3
where the estimate has been above the limit for DRIFT_COUNT seconds with this one, and never with fewer than 32 offsets.
REF_DISAGREE of two QUALIFIED references of equal rank that have differed by more than DISAGREE_LIMIT for 10 s shows REF_DISAGREE;
with no other QUALIFIED reference, no reference and not ACTIVE_REF changes and both stand in an unresolved disagreement. A mailbox
named beside one of these four events that holds no TIME_SELECT to take changes nothing of it; one whose TIME_SELECT names a
reference that is not QUALIFIED after the event is refused, and the event leaves the timing state as it does alone. -/
def Obligations.ReferencesQualifyDisagreeAndFallBack : Prop :=
  (∀ (r : Ref) (offset : Int) (s : State), let x := refOf s.dev r
    let others (t : State) (k : Nat) : Prop := refOf t.dev k = { refOf s.dev k with okSince := (refOf t.dev k).okSince } ∧
      ((refOf s.dev k).arbiter ≠ some r.val → refOf t.dev k = refOf s.dev k)
    let leaves (i : Instr) (q : QState) (cause : Nat) : Prop := ∃ t, exec i s = .next t ∧ t.pending = s.pending ∧
      (refOf t.dev r).q = q ∧ (refOf t.dev r).dqCause = cause ∧ Shows t.dev .timing 2 ∧
      (∀ k : Ref, k ≠ r → others t k) ∧
      (s.dev.time.activeRef ≠ r → t.dev.time.activeRef = s.dev.time.activeRef ∧ t.dev.time.state = s.dev.time.state) ∧
      (s.dev.time.activeRef = r → s.dev.time.state = .acquire ∨ s.dev.time.state = .locked →
        (∃ k : Ref, qualified t.dev k = true ∧ (∀ j : Ref, qualified t.dev j = true →
            (refOf t.dev k).rank < (refOf t.dev j).rank ∨ (refOf t.dev k).rank = (refOf t.dev j).rank ∧ k ≤ j) ∧
          t.dev.time.activeRef = k.val ∧ t.dev.time.state = .acquire ∧ Shows t.dev .timing 1) ∨
        ((∀ j : Ref, qualified t.dev j = false) ∧ t.dev.time.activeRef = r ∧ t.dev.time.holdoverFreq = holdoverMean s.dev ∧
          t.dev.time.state = if historyValid s.dev then .holdover else .freerun)) ∧
      t.dev = { s.dev with time := t.dev.time, timeCfg := { s.dev.timeCfg with pairs := t.dev.timeCfg.pairs }, causes := t.dev.causes
                           ec := t.dev.ec, meas := t.dev.meas }
    (timeRuns s.dev = true → x.q = .qualified → leaves (.refLost r none) .lost 1) ∧
    (timeRuns s.dev = true → x.q = .wait ∨ x.q = .disqualified → exec (.refLost r none) s = .next { s with dev := (
      setRef r { x with q := .lost, okSince := none } s.dev) }) ∧
    (timeRuns s.dev = false ∨ x.q = .lost ∨ x.q = .disabled → exec (.refLost r none) s = .next s) ∧
    (measurable s.dev r = true → x.q = .qualified → x.hard < offset.natAbs → leaves (.refOffsetMeasure r offset none) .disqualified 2) ∧
    (measurable s.dev r = true → x.q ≠ .qualified ∨ offset.natAbs ≤ x.hard → ∃ t, exec (.refOffsetMeasure r offset none) s = .next t ∧
      t.pending = s.pending ∧ refOf t.dev r = { x with offset := offset, softWarn := decide (x.soft < offset.natAbs) ||
        (x.softWarn && decide (x.soft ≤ offset.natAbs + x.hyst)), okSince := (refOf t.dev r).okSince } ∧
      (∀ k : Ref, k ≠ r → others t k) ∧
      t.dev = { s.dev with time := { s.dev.time with refs := t.dev.time.refs, differing := t.dev.time.differing }, timeCfg := { s.dev.timeCfg with pairs := t.dev.timeCfg.pairs }
                           causes := t.dev.causes, ec := t.dev.ec, meas := t.dev.meas }) ∧
    (measurable s.dev r = false → exec (.refOffsetMeasure r offset none) s = .next s ∧ exec (.driftEstimate r offset none) s = .next s)) ∧
  (∀ (r b : Ref) (offset : Int) (s : State), let x := refOf s.dev r; let h := (offset :: x.history).take 32
    (timeRuns s.dev = true → mayQualify s.dev r = true → ∃ t, exec (.refQualified r) s = .next t ∧ t.pending = s.pending ∧
      refOf t.dev r = { x with q := .qualified, driftOver := 0, okSince := none } ∧ Shows t.dev .timing 2 ∧ (∀ k : Ref, k ≠ r → refOf t.dev k = refOf s.dev k) ∧
      t.dev.time.activeRef = s.dev.time.activeRef ∧
      t.dev.time.state = (if s.dev.time.activeRef = r ∧ (s.dev.time.state = .freerun ∨ s.dev.time.state = .holdover) then .acquire
        else s.dev.time.state)) ∧
    (mayQualify s.dev r = false → exec (.refQualified r) s = .next s) ∧
    (timeRuns s.dev = true → x.q = .lost → refValid s.dev r = true → exec (.refActivityBack r) s = .next { s with dev := (
      setRef r { x with q := .wait, history := [], drift := none, driftOver := 0, okSince := none } s.dev) }) ∧
    (x.q ≠ .lost ∨ refValid s.dev r = false → exec (.refActivityBack r) s = .next s) ∧
    (measurable s.dev r = true → ∃ t, exec (.driftEstimate r offset none) s = .next t ∧ t.pending = s.pending ∧ (refOf t.dev r).history = h ∧
      (x.q = .qualified → 32 ≤ h.length → x.driftLimit * 256 < (60 * driftSum h).natAbs → x.driftCount ≤ x.driftOver + 1 →
        (refOf t.dev r).q = .disqualified ∧ (refOf t.dev r).dqCause = 3 ∧ Shows t.dev .timing 2) ∧
      (h.length < 32 → s.dev.timeCfg.pairs = [] → 0 < x.driftCount → (refOf t.dev r).q = x.q ∧ t.dev.time.state = s.dev.time.state)) ∧
    (timeRuns s.dev = true → r ≠ b → qualified s.dev r = true → qualified s.dev b = true → (refOf s.dev r).rank = (refOf s.dev b).rank →
      s.dev.timeCfg.disagree < ((refOf s.dev r).offset - (refOf s.dev b).offset).natAbs → s.dev.timeCfg.pairs = [] →
      (∃ p ∈ s.dev.time.differing, p.1 = min r.val b.val ∧ p.2.1 = max r.val b.val ∧ p.2.2 + 10000000000 ≤ elapsedNs s.dev) →
      ∃ t, exec (.refDisagree r b none) s = .next t ∧ t.pending = s.pending ∧ Shows t.dev .timing 4 ∧
        ((∀ k : Ref, k ≠ r → k ≠ b → qualified s.dev k = false) →
          t.dev.time = s.dev.time ∧ inPair t.dev r = true ∧ inPair t.dev b = true))) ∧
  (∀ (r b : Ref) (offset : Int) (mb : Mailbox) (s : State), let op := timeSelectService.opcode
    let beside (i : Option Mailbox → Instr) : Prop := ∃ u, exec (i none) s = .next u ∧
      (takes op mb s.dev = false → exec (i (some mb)) s = .next u) ∧
      (takes op mb s.dev = true → u ≠ s → qualified u.dev (u8 (requestBody mb s.dev) 0) = false → (box s.dev mb).releaseAtPost = false →
        ∃ t, exec (i (some mb)) s = .next t ∧ t.pending = s.pending ∧ (box t.dev mb).state = .done ∧ windowBytes (box t.dev mb) 10 1 ≠ [0] ∧
          t.dev.time = u.dev.time)
    beside (fun sel => .refLost r sel) ∧ beside (fun sel => .refOffsetMeasure r offset sel) ∧ beside (fun sel => .driftEstimate r offset sel) ∧
    beside (fun sel => .refDisagree r b sel))

/-- A write of TIME_CTRL that reaches the block stores LOOP_OPEN: set, the state is STEERED; cleared in STEERED, it is ACQUIRE where
ACTIVE_REF is QUALIFIED, else HOLDOVER with valid history, else FREERUN; cleared in any other state, the state stays. A host write
of STEER_FREQ stores the target held to ±50 ppm, with STEER_ERR and STEER_CLAMP where it lay beyond. A host write of STEER_SLEW
stores the rate held to 1 to 10,000 unless locked, and then locks it where bit 31 is set. Firmware's writes of the two are
discarded. TIMING_LOCKED takes ACQUIRE to LOCKED and clears DEVTIME_COARSE; HOLDOVER_SAMPLE stores the rounded mean of the applied
frequency over the cycles of the second, and only in LOCKED; STEER_STALE shows once, only in STEERED and STEER_TIMEOUT seconds after
the last target. While the timing block runs: an edge with nothing waiting, under PPS_ENABLE, sets PPS_OFFSET to the distance of
DEVTIME from the nearest second and sets PPS_VALID after two edges 1 s ± 1 µs apart, and without PPS_ENABLE changes nothing. An edge
with one set to VALUE waiting, above DEVTIME, makes DEVTIME VALUE and valid, answers its mailbox OK, and the edge is stamped with
VALUE; a set that is not above DEVTIME is answered BAD_ARG with reason TIME_BACKWARD and DEVTIME stays. AT_PPS_TIMEOUT answers an
adjustment that has waited 2 s, the oldest, with TIMEOUT and changes no clock. PPS_LOST under PPS_ENABLE, 2.5 s after the last edge,
clears a set PPS_VALID and shows, and otherwise changes nothing. -/
def Obligations.TheLoopIsSteeredAndPpsEdgesAdjust : Prop :=
  (∀ (w : RegWrite) (s : State), let d := s.dev; let v := w.value.toNat
    (writeLands w d = true → blockDown d 4 = false → ∃ t, exec (.timeCtrl w) s = .next t ∧ t.pending = s.pending ∧
      t.dev.time.loopOpen = w.value.getLsbD 0 ∧ t.dev.time.state = (if w.value.getLsbD 0 then .steered
        else if d.time.state = .steered then (if qualified d d.time.activeRef then .acquire else if historyValid d then .holdover else .freerun)
        else d.time.state) ∧ (t.dev.time.state ≠ d.time.state → Shows t.dev .timing 0) ∧
      t.dev = { d with time := t.dev.time, causes := t.dev.causes, ec := t.dev.ec, meas := t.dev.meas } ∧
      t.dev.time.refs = d.time.refs ∧ t.dev.time.activeRef = d.time.activeRef ∧ t.dev.time.applied = d.time.applied) ∧
    (w.who = .firmware → exec (.steerFreq w) s = .next s ∧ exec (.steerSlew w) s = .next s) ∧
    (HostLands 4 w d →
      (∃ t, exec (.steerFreq w) s = .next t ∧ t.pending = s.pending ∧ t.dev.time.target = max (-50000000) (min 50000000 w.value.toInt) ∧
        (50000000 < w.value.toInt.natAbs → t.dev.time.steerErr = true ∧ Shows t.dev .timing 8) ∧
        (w.value.toInt.natAbs ≤ 50000000 → t.dev = { d with time := { d.time with target := w.value.toInt, targetAt := elapsedNs d, steerStale := false } })) ∧
      (∃ t, exec (.steerSlew w) s = .next t ∧ t.pending = s.pending ∧
        t.dev.time.steerSlew = (if d.time.steerLock then d.time.steerSlew else max 1 (min 10000 (v % 16384))) ∧
        t.dev.time.steerLock = (d.time.steerLock || w.value.getLsbD 31) ∧
        (d.time.steerLock = false → v % 16384 = 0 ∨ 10000 < v % 16384 → t.dev.time.steerErr = true ∧ Shows t.dev .timing 8) ∧
        (d.time.steerLock = true → t = s))) ∧
    (timeRuns d = true → d.time.state = .acquire → ∃ t, exec .timingLocked s = .next t ∧ t.pending = s.pending ∧ Shows t.dev .timing 0 ∧
      t.dev = { d with time := { d.time with state := .locked, lastChange := nowNs d, lockSum := 0, lockCycles := 0 }, clock := { d.clock with coarse := false }
                       causes := t.dev.causes, ec := t.dev.ec, meas := t.dev.meas }) ∧
    (d.time.state ≠ .acquire → exec .timingLocked s = .next s) ∧
    (timeRuns d = true → d.time.state = .locked → ∃ t, exec .holdoverSample s = .next t ∧ t.pending = s.pending ∧ ∃ mean : Int,
      (0 < d.time.lockCycles → (2 * mean * d.time.lockCycles - 2 * d.time.lockSum).natAbs ≤ d.time.lockCycles) ∧
      t.dev = { d with time := { d.time with ring := ((plainSec d, mean) :: d.time.ring).take 1024, lockSum := 0, lockCycles := 0 } }) ∧
    (d.time.state ≠ .locked → exec .holdoverSample s = .next s) ∧
    (timeRuns d = true → d.time.state = .steered → d.timeCfg.steerTimeout ≠ 0 → d.time.steerStale = false →
      d.time.targetAt + d.timeCfg.steerTimeout * 1000000000 ≤ elapsedNs d →
      exec .steerStale s = .next { s with dev := (raiseCause .timing 7 { d with time := { d.time with steerStale := true } }) }) ∧
    (d.time.state ≠ .steered ∨ d.time.steerStale = true ∨ elapsedNs d < d.time.targetAt + d.timeCfg.steerTimeout * 1000000000 →
      exec .steerStale s = .next s)) ∧
  (∀ (a : PpsAdjust) (rest : List PpsAdjust) (s : State), let d := s.dev; let now := nowNs d
    let distance (n : Nat) : Int := if n % 1000000000 < 500000000 then ((n % 1000000000 : Nat) : Int) else ((n % 1000000000 : Nat) : Int) - 1000000000
    (timeRuns d = true → d.time.waiting = [] →
      (d.timeCfg.ppsEnable = true → exec .ppsinEdge s = .next { s with dev := { d with time := { d.time with
        ppsOffset := distance now, lastEdge := some d.clock.plain, ppsValid := d.time.ppsValid || edgesFit d.time.lastEdge d.clock.plain } } }) ∧
      (d.timeCfg.ppsEnable = false → exec .ppsinEdge s = .next s)) ∧
    (timeRuns d = true → d.time.waiting = [a] → a.mode = 2 → (box d a.mailbox).releaseAtPost = false → (d.clock.frac : Int) < a.value * 2 ^ 48 →
      a.value < 2 ^ 63 → ∃ t, exec .ppsinEdge s = .next t ∧ t.pending = s.pending ∧ (nowNs t.dev : Int) = a.value ∧ t.dev.clock.valid = true ∧
        t.dev.time.waiting = [] ∧ (box t.dev a.mailbox).state = .done ∧ windowBytes (box t.dev a.mailbox) 10 1 = [0] ∧
        (d.timeCfg.ppsEnable = true → t.dev.time.ppsOffset = distance a.value.toNat)) ∧
    (timeRuns d = true → d.time.waiting = [a] → a.mode = 2 → a.value * 2 ^ 48 ≤ (d.clock.frac : Int) → (box d a.mailbox).releaseAtPost = false →
      ∃ t, exec .ppsinEdge s = .next t ∧ t.pending = s.pending ∧ t.dev.clock = d.clock ∧ t.dev.time.waiting = [] ∧
        windowBytes (box t.dev a.mailbox) 10 1 = [3] ∧ windowBytes (box t.dev a.mailbox) 16 1 = [49]) ∧
    (timeRuns d = true → d.time.waiting = a :: rest → a.since + 2000000000 ≤ elapsedNs d → (box d a.mailbox).releaseAtPost = false → ∃ t, exec .atPpsTimeout s = .next t ∧ t.pending = s.pending ∧
      t.dev = { d with time := { d.time with waiting := rest }, mail := t.dev.mail, ec := t.dev.ec, meas := t.dev.meas } ∧
      (box t.dev a.mailbox).state = .done ∧ windowBytes (box t.dev a.mailbox) 10 1 = [8]) ∧
    (d.time.waiting = [] ∨ (d.time.waiting = a :: rest ∧ elapsedNs d < a.since + 2000000000) → exec .atPpsTimeout s = .next s) ∧
    (timeRuns d = true → d.timeCfg.ppsEnable = true → d.time.ppsValid = true → d.time.lastEdge.getD d.time.ppsFrom + 2500000000 * 2 ^ 48 ≤ d.clock.plain →
      exec .ppsLost s = .next { s with dev := (raiseCause .timing 6 { d with time := { d.time with ppsValid := false } }) }) ∧
    (d.timeCfg.ppsEnable = false ∨ d.time.ppsValid = false ∨ d.clock.plain < d.time.lastEdge.getD d.time.ppsFrom + 2500000000 * 2 ^ 48 → exec .ppsLost s = .next s))

/-- For every 72-bit word, with S the XOR of the recomputed and the stored check bits c_0 to c_6 and P the XOR of all its bits: P 0
and S 0 is no error; P 1 with S 0 or a power of two is corrected with the data as stored; P 1 with S the position of data bit d is
corrected with that bit inverted; P 1 with S of 72 or more, and P 0 with S not 0, are uncorrectable. No other case exists. -/
def Obligations.ReadsAreClassifiedByParityAndSyndrome : Prop :=
  ∀ w : BitVec 72, let S := syndromeS w; let P := syndromeP w; let data := w.setWidth 64
    S = (check7 data ^^^ (w >>> 64).setWidth 7).toNat ∧ P = ((List.range 72).map w.getLsbD).foldl xor false ∧
    (P = false → S = 0 → readClass w = 0 ∧ dataOf (correctWord w) = data) ∧
    (P = true → S = 0 → readClass w = 1 ∧ dataOf (correctWord w) = data) ∧
    (∀ j < 7, P = true → S = 2 ^ j → readClass w = 1 ∧ dataOf (correctWord w) = data) ∧
    (∀ k < 64, P = true → S = positions.getD k 0 → readClass w = 1 ∧ dataOf (correctWord w) = data ^^^ BitVec.twoPow 64 k) ∧
    (P = true → 72 ≤ S → readClass w = 2) ∧ (P = false → S ≠ 0 → readClass w = 2) ∧
    (S < 72 → S = 0 ∨ (∃ j < 7, S = 2 ^ j) ∨ ∃ k < 64, S = positions.getD k 0)

/-- The positions are the 64 integers from 3 to 71 that are not powers of two, in rising order; a word written with its check byte
reads without error; with any one of its 72 bits inverted it reads as corrected and the write-back is the word that was written;
with any two inverted it reads as uncorrectable. The check byte of data 1 is 0x83. While the memories run: a DMA channel that reads
an uncorrectable word, or whose narrow write meets one, halts with DMA_HALT shown and no other channel changes. A fetch traps its
core; one while any core's fetch trap is active restarts the management cluster with RESTART_CAUSE 2 under freeze, or ends a restart
in progress in FAILED, as does one in the journal of a restart, and the log keeps it. A load, and a core's narrow write, raises the
core's data trap, or is held while a trap of that core is active; a trap whose return comes with it is active no longer, and what it
held becomes the data trap. A lane key slot in region 5 counts as empty and no other slot changes. The scrubber counts a word of
regions 0 to 2, or of an HBM gibibyte that is not filled, in SCRUB_UE_QUIET alone. A checked read only logs. -/
def Obligations.WrongBitsAreCorrectedOrStopTheirConsumer : Prop :=
  ((positions.length = 64 ∧ positions.Pairwise (· < ·) ∧ ∀ n ∈ positions, 3 ≤ n ∧ n ≤ 71 ∧ ∀ j < 7, n ≠ 2 ^ j) ∧
  (∀ data : BitVec 64, readClass (encodeWord data) = 0 ∧
    (∀ i < 72, readClass (encodeWord data ^^^ BitVec.twoPow 72 i) = 1 ∧ correctWord (encodeWord data ^^^ BitVec.twoPow 72 i) = encodeWord data) ∧
    (∀ i < 72, ∀ j < 72, i ≠ j → readClass (encodeWord data ^^^ BitVec.twoPow 72 i ^^^ BitVec.twoPow 72 j) = 2)) ∧
  checkByte 1 = 0x83) ∧
  (∀ (r : BadRead) (s : State), let d := s.dev; let logged := logBad r d; let m := trapsReturn r.returned d.mem; let own := BitVec.twoPow 16 r.source.val
    (∀ k < 16, m.fetchTraps.getLsbD k = (d.mem.fetchTraps.getLsbD k && !r.returned.getLsbD k)) ∧
    (asleep d = false → ∃ t, exec (.uncorrectableRead r) s = .next t ∧ t.pending = s.pending ∧
      ((r.consumer = 2 ∨ (r.consumer = 5 ∧ r.byDma = true)) → t.dev.mem.halted = d.mem.halted ||| BitVec.twoPow 16 r.source.val ∧
        Shows t.dev .memory 5 ∧ (∀ g, logGroup t.dev g = logGroup logged g)) ∧
      (r.consumer = 0 → r.journal = false ∨ d.fw.state ≠ .restarting → m.fetchTraps ≠ 0 → mayRestart d = true → t.dev.fw.state = .restarting ∧ t.dev.fw.restartCause = 2 ∧
        freezeOn t.dev = true ∧ (∀ g, logGroup t.dev g = logGroup logged g)) ∧
      (r.consumer = 0 → d.fw.state = .restarting → r.journal = true ∨ m.fetchTraps ≠ 0 → t.dev.fw.state = .failed ∧ t.dev.ec.pend.getLsbD 0x30C = true) ∧
      (r.consumer = 0 → r.journal = false ∨ d.fw.state ≠ .restarting → m.fetchTraps = 0 → t.dev.fw = d.fw ∧ t.dev.mem.fetchTraps = own) ∧
      (r.consumer = 1 ∨ (r.consumer = 5 ∧ r.byDma = false) → t.dev = { logged with mem := t.dev.mem } ∧
        ((m.fetchTraps ||| m.dataTraps) &&& own = 0 → t.dev.mem.dataTraps = m.dataTraps ||| own ∧ t.dev.mem.heldTraps = m.heldTraps) ∧
        ((m.fetchTraps ||| m.dataTraps) &&& own ≠ 0 → t.dev.mem.dataTraps = m.dataTraps ∧ t.dev.mem.heldTraps = m.heldTraps ||| own)) ∧
      (∀ (c : Coach) (rx one : Bool), r.consumer = 3 → r.region = 5 → r.place = some (.keySlot c rx one) →
        (if one then (if rx then (cipherRx t.dev c).slot1 else (cipherTx t.dev c).slot1) else
          (if rx then (cipherRx t.dev c).slot0 else (cipherTx t.dev c).slot0)) = none ∧
        (∀ k : Coach, k ≠ c → cipherTx t.dev k = cipherTx d k ∧ cipherRx t.dev k = cipherRx d k)) ∧
      (r.consumer = 4 → maybeUnwritten d r.region r.addr.toNat = true →
        t.dev = { d with mem := { d.mem with quiet := (d.mem.quiet + 1) % 2 ^ 32 } }) ∧
      (r.consumer = 6 → t.dev = { logged with mem := trapsReturn r.returned logged.mem })))

/-- On a link that is up and whose ends have their clocks, a flit with its CRC and the expected SEQ is taken: the expected number
advances modulo 4,096 and its type, stream and words are passed on; any other sets NAK and takes nothing. A memory block with its
CRC is taken, any other sets NAK and, unless some block has been sent 8 times, counts a retry. A missing acknowledgement sends every
flit from the one it names on once more, in order, flits before it not; once a flit has been sent 8 times nothing is sent again.
With some flit sent 8 times, exhaustion empties that replay buffer with the receiver expecting the sender's next number, counts it,
and retrains the link with EXHAUST and RETRAIN shown; a word for a DMA channel lost on a memory channel halts that channel and is
logged. A retrain that succeeds brings the link up; the third failure in a row takes it down, shows LINK_DOWN and mutes every engine
of a line link's tile. RETRY_WARN shows where the window has more than one retry per 1,000,000. Nothing arrives on a link that is
not up. A flit that is not 256 bytes and a block that is not eight words are no command and fault. (The model's choice at R17, log
103: with the dropped flits gone the receiver expects the sender's next number.) FILL_DONE while a fill runs ends it, sets the map's
bits of its range but for the failed ones and clears none, shows FILL_DONE and, where a block of the range failed, FILL_ERR; without
a fill nothing changes. A host write of ARM outside SERVICE arms the flip on the target it names; in SERVICE it arms nothing, sets
FLIP_IGNORED and shows it. A write without ARM only sets the target. TESTMODE sets the pin; where DEV_MODE becomes SERVICE a flip
that was armed is disarmed and FLIP_IGNORED shows, and otherwise the flip stays. -/
def Obligations.FlitsFillsAndFlipsFollowTheirRules : Prop :=
  (∀ (l : Fin 6) (hb : Fin 4) (k : LinkId) (toHub : Bool) (bytes : List Byte) (seq : Fin 4096) (ws : List (BitVec 72)) (crc : Word) (lost : BadRead)
    (s : State),
    let x := linkOf s.dev l; let y := linkOf s.dev (6 + hb.val); let z := linkOf s.dev k; let from' := sideOf x toHub
    (bytes.length = 256 → linkRuns s.dev l = true → ∃ t, exec (.flitReceived l toHub bytes) s = .next t ∧ t.pending = s.pending ∧
      t.dev = { s.dev with links := t.dev.links } ∧ (∀ m : LinkId, m.val ≠ l.val → linkOf t.dev m = linkOf s.dev m) ∧
      let to' := sideOf (linkOf t.dev l) toHub
      (flitGood bytes = true → u16 bytes 0 % 4096 = from'.expected → to'.expected = (from'.expected + 1) % 4096 ∧ to'.nak = false ∧
        to'.words = wordsAt bytes 8 27 ∧ to'.kind = u8 bytes 2 ∧ to'.stream = u8 bytes 3) ∧
      (flitGood bytes = true → u16 bytes 0 % 4096 ≠ from'.expected → to'.expected = from'.expected ∧ to'.nak = true ∧ to'.words = from'.words) ∧
      (flitGood bytes = false → linkOf t.dev l = withSide x toHub { from' with nak := true })) ∧
    (bytes.length = 256 → linkRuns s.dev l = false → exec (.flitReceived l toHub bytes) s = .next s) ∧
    (bytes.length ≠ 256 → exec (.flitReceived l toHub bytes) s = .fault .illFormed) ∧
    (ws.length ≠ 8 → exec (.memoryBlockReceived hb toHub seq ws crc) s = .fault .illFormed) ∧
    (ws.length = 8 → linkRuns s.dev (6 + hb.val) = true → ∃ t, exec (.memoryBlockReceived hb toHub seq ws crc) s = .next t ∧ t.pending = s.pending ∧
      t.dev = { s.dev with links := t.dev.links } ∧
      (crc32 (blockBytes ws) = crc → (sideOf (linkOf t.dev (6 + hb.val)) toHub).words = ws ∧ (linkOf t.dev (6 + hb.val)).retries = y.retries) ∧
      (crc32 (blockBytes ws) ≠ crc → (sideOf (linkOf t.dev (6 + hb.val)) toHub).nak = true ∧
        (y.retries < 0xFFFFFFFF → (∀ e ∈ (sideOf y toHub).replay, e.times < 8) → (linkOf t.dev (6 + hb.val)).retries = y.retries + 1) ∧
        (sideOf (linkOf t.dev (6 + hb.val)) toHub).words = (sideOf y toHub).words)) ∧
    (ws.length = 8 → linkRuns s.dev (6 + hb.val) = false → exec (.memoryBlockReceived hb toHub seq ws crc) s = .next s) ∧
    (linkRuns s.dev l = true → 64 ≤ (seq.val + 4096 - from'.next % 4096) % 4096 → ∃ t, exec (.flitAckTimeout l toHub seq) s = .next t ∧
      t.pending = s.pending ∧ t.dev = { s.dev with links := t.dev.links } ∧
      ((∀ e ∈ from'.replay, e.times < 8) → (sideOf (linkOf t.dev l) toHub).replay = from'.replay.map (fun e =>
        if (e.seq + 4096 - seq.val) % 4096 < 2048 then { e with times := e.times + 1 } else e)) ∧
      ((∃ e ∈ from'.replay, 8 ≤ e.times) → ∀ m : LinkId, linkOf t.dev m = linkOf s.dev m)) ∧
    (linkRuns s.dev k = true → (∃ e ∈ (sideOf z toHub).replay, 8 ≤ e.times) → ∃ t, exec (.retryExhaustion k toHub []) s = .next t ∧ t.pending = s.pending ∧
      linkOf t.dev k = withSide { z with exhaust := min 0xFFFF (z.exhaust + 1), retraining := true, retrains := min 0xFF (z.retrains + 1) } toHub
        { sideOf z toHub with replay := [], dropped := (sideOf z toHub).dropped + (sideOf z toHub).replay.length, expected := (sideOf z toHub).next, nak := false } ∧
      Shows t.dev (.link k) 1 ∧ Shows t.dev (.link k) 2 ∧
      t.dev = { s.dev with links := t.dev.links, mem := t.dev.mem, causes := t.dev.causes, causeMs := t.dev.causeMs, ec := t.dev.ec, meas := t.dev.meas }) ∧
    (linkRuns s.dev k = true → (∃ e ∈ (sideOf z toHub).replay, 8 ≤ e.times) → 6 ≤ k.val → lost.consumer = 2 →
      ∃ t, exec (.retryExhaustion k toHub [lost]) s = .next t ∧ t.pending = s.pending ∧ (linkOf t.dev k).retraining = true ∧
        t.dev.mem.halted = s.dev.mem.halted ||| BitVec.twoPow 16 lost.source.val ∧ Shows t.dev .memory 5 ∧
        (∀ g, logGroup t.dev g = logGroup (logBad { lost with region := 6 } s.dev) g)) ∧
    ((∀ e ∈ (sideOf z toHub).replay, e.times < 8) → exec (.retryExhaustion k toHub [lost]) s = .next s) ∧
    (linkClocked s.dev k = true → z.retraining = true →
      exec (.linkRetrainDone k true) s = .next { s with dev := (setLink k { z with retraining := false, failedRetrains := 0 } s.dev) } ∧
      (∃ t, exec (.linkRetrainDone k false) s = .next t ∧ t.pending = s.pending ∧
        (2 ≤ z.failedRetrains → (linkOf t.dev k).down = true ∧ (linkOf t.dev k).retraining = false ∧ Shows t.dev (.link k) 3 ∧
          ∀ n : Engine, k.val < 4 → n.val / 4 = k.val → (engTx t.dev n).mute.getLsbD 2 = true) ∧
        (z.failedRetrains < 2 → (linkOf t.dev k).down = z.down ∧ (linkOf t.dev k).retraining = true ∧
          (linkOf t.dev k).failedRetrains = z.failedRetrains + 1 ∧ Shows t.dev (.link k) 2))) ∧
    (z.retraining = false → exec (.linkRetrainDone k true) s = .next s ∧ exec (.linkRetrainDone k false) s = .next s) ∧
    (linkClocked s.dev k = true → z.second = nowSec s.dev → z.passed < 1000000 * z.resends →
      exec (.retryWarn k) s = .next { s with dev := raiseCause (.link k) 0 s.dev }) ∧
    (z.second ≠ nowSec s.dev ∨ 1000000 * z.resends ≤ z.passed → exec (.retryWarn k) s = .next s)) ∧
  (∀ (failed : BitVec 64) (w : RegWrite) (high : Bool) (s : State), let d := s.dev
    (∀ f n, d.mem.fill = some (f, n) → asleep d = false → ∃ t, exec (.fillDone failed) s = .next t ∧ t.pending = s.pending ∧
      t.dev.mem = { d.mem with fill := none, fillMap := d.mem.fillMap ||| (gibMask f n &&& ~~~ failed) } ∧ Shows t.dev .memory 2 ∧
      (gibMask f n &&& failed ≠ 0 → Shows t.dev .memory 4)) ∧
    (d.mem.fill = none ∨ asleep d = true → exec (.fillDone failed) s = .next s) ∧
    (HostLands 1 w d → w.value.toNat % 8 < 7 → ∃ t, exec (.miFlipCtrl w) s = .next t ∧ t.pending = s.pending ∧
      (w.value.getLsbD 31 = true → devMode d ≠ .service →
        t.dev = { d with mem := { d.mem with flipTarget := w.value.toNat % 8, flipArmed := true } }) ∧
      (w.value.getLsbD 31 = true → devMode d = .service → Shows t.dev .memory 7 ∧
        t.dev.mem = { d.mem with flipTarget := w.value.toNat % 8, flipIgnored := true }) ∧
      (w.value.getLsbD 31 = false → t.dev = { d with mem := { d.mem with flipTarget := w.value.toNat % 8 } })) ∧
    (∃ t, exec (.testmode high) s = .next t ∧ t.pending = s.pending ∧ t.dev.pins = { d.pins with testmode := high } ∧
      (high = true ∨ d.mem.everRan = false ∨ d.fw.state = .failed ∨ d.mem.flipArmed = false → t.dev.mem = d.mem) ∧
      (high = false → d.mem.everRan = true → d.fw.state ≠ .failed → d.mem.flipArmed = true →
        t.dev.mem = { d.mem with flipArmed := false, flipIgnored := true } ∧ Shows t.dev .memory 7) ∧
      t.dev = { d with pins := t.dev.pins, mem := t.dev.mem, causes := t.dev.causes, ec := t.dev.ec, meas := t.dev.meas }))

/-- While the memories run, an uncorrectable word read by a core's load enters FIRST of its group where that is empty, else SECOND
where that is empty, else OVERFLOW counts it, saturating at 0xFFFF, and LAST_ADDR alone takes its address; FIRST_SET, SECOND_SET
shows with the first two. The other group is untouched. Writing 1 to FIRST_INFO.VALID moves SECOND into FIRST and empties SECOND;
writing 0 changes nothing. A read of OVERFLOW returns the count and clears it with LAST_ADDR. A corrected read changes no record. A
read that reaches the hub of MI_CE_SRAM, MI_CE_HBM, LINK_RETRIES or LINK_EXHAUST returns the count and leaves it zero, and changes
nothing else. CE_RATE shows at most once per second of DEVTIME, where more than CE_THRESHOLD corrected reads fell into it. (The
model's choice: the seconds are those of DEVTIME, and a pass completes no earlier than its period after the last.) A completed scrub
pass counts and shows SCRUB_PASS while the clocks run, writes a corrected word back where its region allows it, and changes nothing
while they are stopped. -/
def Obligations.MemoryLogsAndCountsAreReadAndCleared : Prop :=
  (∀ (r : BadRead) (g : Fin 2) (w : RegWrite) (rd : RegRead) (hbm : Bool) (s : State),
    let h := if r.region = 6 then 1 else 0; let x := logGroup s.dev h; let y := logGroup s.dev g
    let rec' : ErrorRecord := { region := r.region, consumer := 1, syndrome := r.syndrome.toNat, source := r.source, addr := r.addr.toNat, time := nowNs s.dev }
    (asleep s.dev = false → r.consumer = 1 → ∃ t, exec (.uncorrectableRead r) s = .next t ∧ t.pending = s.pending ∧
      logGroup t.dev (1 - h) = logGroup s.dev (1 - h) ∧
      (x.first = none → logGroup t.dev h = { x with first := some rec' } ∧ Shows t.dev (.log h) 0) ∧
      (x.first ≠ none → x.second = none → logGroup t.dev h = { x with second := some rec' } ∧ Shows t.dev (.log h) 1) ∧
      (x.first ≠ none → x.second ≠ none → logGroup t.dev h = { x with overflow := min 0xFFFF (x.overflow + 1), lastAddr := r.addr.toNat }) ∧
      t.dev = { s.dev with mem := t.dev.mem, causes := t.dev.causes, causeMs := t.dev.causeMs, ec := t.dev.ec, meas := t.dev.meas }) ∧
    (writeLands w s.dev = true → blockDown s.dev 1 = false →
      (w.value.getLsbD 0 = true → y.first ≠ none →
        exec (.firstInfo g w) s = .next { s with dev := setLog g { y with first := y.second, second := none } s.dev }) ∧
      (w.value.getLsbD 0 = false ∨ y.first = none → exec (.firstInfo g w) s = .next s)) ∧
    (ReadLands 1 rd.who s.dev → exec (.overflowRead rd g) s = .next { s with dev := (setOut [addressed rd.enables (BitVec.ofNat 32 y.overflow)]
      (setLog g { y with overflow := 0, lastAddr := 0 } s.dev)) }) ∧
    (∃ t, exec (.correctedRead hbm) s = .next t ∧ t.pending = s.pending ∧ ∀ g' < 2,
      logGroup t.dev g' = if g' = (if hbm then 1 else 0) then { logGroup s.dev g' with ce := min 0xFFFFFFFF ((logGroup s.dev g').ce + 1), ceSecond := nowSec s.dev, ceIn := (logGroup t.dev g').ceIn }
        else logGroup s.dev g')) ∧
  (∀ (rd : RegRead) (l : LinkId) (hbm : Bool) (s : State), let d := s.dev; let x := linkOf d l
    (ReadLands 1 rd.who d →
      exec (.miCeSram rd) s = .next { s with dev := setOut [addressed rd.enables (BitVec.ofNat 32 d.mem.group0.ce)] (setLog 0 { d.mem.group0 with ce := 0 } d) } ∧
      exec (.miCeHbm rd) s = .next { s with dev := setOut [addressed rd.enables (BitVec.ofNat 32 d.mem.group1.ce)] (setLog 1 { d.mem.group1 with ce := 0 } d) } ∧
      exec (.linkRetries rd l) s = .next { s with dev := setOut [addressed rd.enables (BitVec.ofNat 32 x.retries)] (setLink l { x with retries := 0 } d) } ∧
      exec (.linkExhaust rd l) s = .next { s with dev := setOut [addressed rd.enables (BitVec.ofNat 32 x.exhaust)] (setLink l { x with exhaust := 0 } d) }) ∧
    (let g := logGroup d (if hbm then 1 else 0);
      (g.ceSecond = nowSec d → d.mem.ceThreshold < g.ceIn → ∃ t, exec (.ceRate hbm) s = .next t ∧ t.pending = s.pending ∧
        (tabGet (fun _ => none) d.mem.ceRateAt (if hbm then 1 else 0) = some (nowSec d) → t = s) ∧
        (tabGet (fun _ => none) d.mem.ceRateAt (if hbm then 1 else 0) ≠ some (nowSec d) → Shows t.dev .memory 0 ∧
          exec (.ceRate hbm) t = .next t)) ∧
      (g.ceSecond ≠ nowSec d ∨ g.ceIn ≤ d.mem.ceThreshold → exec (.ceRate hbm) s = .next s)) ∧
    (let due := if hbm then d.mem.hbmAt + d.mem.hbmDays * 86400000000000 else d.mem.sramAt + d.mem.sramHours * 3600000000000;
      (asleep d = true ∨ elapsedNs d < due → exec (.scrubPass hbm) s = .next s) ∧
      (asleep d = false → due ≤ elapsedNs d → ∃ t, exec (.scrubPass hbm) s = .next t ∧ t.pending = s.pending ∧ Shows t.dev .memory 1 ∧
        (d.mem.testWords = [] → t.dev.mem = (if hbm then { d.mem with hbmPasses := (d.mem.hbmPasses + 1) % 2 ^ 32, hbmAt := elapsedNs d } else
          { d.mem with sramPasses := (d.mem.sramPasses + 1) % 2 ^ 32, sramAt := elapsedNs d })) ∧
        (∀ e, d.mem.testWords = [e] → decide (8 ≤ e.1 / 64) = hbm → readClass (testWord d (e.1 / 64) (e.1 % 64)) = 1 → e.1 / 64 ≠ 1 → e.1 / 64 ≠ 2 →
          d.mem.flipArmed = false → testWord t.dev (e.1 / 64) (e.1 % 64) = correctWord (testWord d (e.1 / 64) (e.1 % 64))))))

/-- A host's write of 1 to FW_RESTART, and the watchdog while firmware runs, begin a restart where one may begin: the state is
RESTARTING, the freeze is engaged, no request is taken, the cause and the count are recorded, and no transmit, pool, slot, brake or
frame state changes where no request waits (a request that firmware was serving may have committed). RESTART_FAILED during a restart
leaves FAILED with the freeze kept, source 0x30C pending and FALLBACK set where boot ROM rejected a staged image. Reattachment
leaves firmware RUNNING with its freeze lifted and MAILBOX_READY set; the activated image runs, or the former one with FALLBACK set
where it was rejected. Without both signatures verified, or with an image below the SVN floor, the freeze brake takes no
reattachment. Boot passes its stages one by one, an error of VERIFY or RAM_INIT stays in BOOT_ERR and boot stands there, and the
last stage leaves firmware RUNNING. Where a restart may not begin, and in the wrong state, each changes nothing. -/
def Obligations.FirmwareRestartsUnderFreeze : Prop :=
  ∀ (w : RegWrite) (rejected : Bool) (err : Fin 5) (s : State), let d := s.dev
    let begins (i : Instr) (cause : Nat) : Prop := ∃ t, exec i s = .next t ∧ t.pending = s.pending ∧ t.dev.fw.state = .restarting ∧
      freezeOn t.dev = true ∧ firmwareTakes t.dev = false ∧ t.dev.fw.restartCause = cause ∧
      t.dev.fw.restartCount = min 0xFFFF (d.fw.restartCount + 1) ∧ t.dev.fw.running = d.fw.running ∧
      ((∀ mb : Mailbox, (box d mb).state ≠ .pending) → t.dev.tx = d.tx ∧ t.dev.pool = d.pool ∧ t.dev.slots = d.slots ∧ t.dev.brakes = d.brakes ∧ t.dev.frames = d.frames)
    (w.who ≠ .firmware → writeLands w d = true → w.value.getLsbD 0 = true → mayRestart d = true → d.power.state ≠ .entering → begins (.fwRestart w) 4) ∧
    (w.value.getLsbD 0 = false ∨ mayRestart d = false ∨ w.who = .firmware → exec (.fwRestart w) s = .next s) ∧
    (mayRestart d = true → d.fw.state = .running → d.power.state = .run → begins .watchdog 1) ∧
    (d.fw.state ≠ .running → exec .watchdog s = .next s) ∧
    (d.fw.state = .restarting → asleep d = false → ∃ t, exec (.restartFailed rejected) s = .next t ∧ t.pending = s.pending ∧ t.dev.fw.state = .failed ∧
      t.dev.fw.fallback = (rejected && d.fw.activating.isSome) ∧
      t.dev.fw.restartFreeze = d.fw.restartFreeze ∧ t.dev.ec.pend.getLsbD 0x30C = true) ∧
    (d.fw.state ≠ .restarting → exec (.restartFailed rejected) s = .next s ∧ exec (.reattachment true rejected) s = .next s) ∧
    exec (.reattachment false rejected) s = .next s ∧
    (d.fw.state = .restarting → asleep d = false → rejected = false ∨ d.fw.activating.isSome = true → d.trust.svnFloor.toNat ≤ (bootImage rejected d.fw).svn.toNat →
      ∃ t, exec (.reattachment true rejected) s = .next t ∧ t.pending = s.pending ∧ t.dev.fw.state = .running ∧ t.dev.fw.restartFreeze = false ∧
        t.dev.fw.mailboxReady = true ∧ t.dev.fw.activating = none ∧
        (∀ i, d.fw.activating = some i → t.dev.fw.running = (if rejected then d.fw.running else i)) ∧
          t.dev.fw.fallback = (rejected && d.fw.activating.isSome) ∧ t.dev.tx = d.tx ∧ t.dev.slots = d.slots ∧ t.dev.brakes = d.brakes) ∧
    (d.fw.stage < 5 → d.fw.bootErr = 0 → asleep d = false → ∃ t, exec (.bootStage err) s = .next t ∧ t.pending = s.pending ∧
      (err = 0 → d.fw.stage ≠ 2 ∨ d.trust.svnFloor.toNat ≤ d.fw.running.svn.toNat → t.dev.fw.stage = d.fw.stage + 1 ∧ t.dev.fw.bootErr = 0 ∧ (d.fw.stage = 4 → t.dev.fw.state = .running)) ∧
      (d.fw.stage = 2 → err ≠ 0 → err.val ≤ 2 → t.dev.fw = { d.fw with bootErr := err.val }) ∧
      (d.fw.stage = 2 → err = 0 ∨ err = 3 → d.fw.running.svn.toNat < d.trust.svnFloor.toNat → t.dev.fw = { d.fw with bootErr := 3 }) ∧
      (d.fw.stage = 3 → err = 4 → t.dev.fw = { d.fw with bootErr := 4 })) ∧
    (5 ≤ d.fw.stage ∨ d.fw.bootErr ≠ 0 → exec (.bootStage err) s = .next s)

/-- While a core executes (firmware runs, the cores have their clock and it stands in no power-down wait): EC_CLAIM with an eligible
event pushes the one of highest priority, the lowest source among equals, with its priority, clears its pending bit and returns it
with VALID; with none it returns VALID clear, and no stack and no pending bit changes. The push lies strictly above the old top.
EC_COMPLETE of the top source pops it, and with an event then eligible enters its handler at once, else changes nothing more; of any
other source, or with an empty stack, it leaves every stack, counts a fault and shows STACK_ORDER_FAULT. EC_SETPEND sets its
source's pending bit. While the cores are held in reset, their clock is stopped or the core stands in power-down wait, none has an
effect. MODERATION_RELEASE of the host where a release condition holds sends one message, with the address and data of its table
entry and in order of priority, for each vector that has an eligible source and that no mask holds, sets exactly their bits of
EC_HOST_UNACK beside those that were set, and leaves the other vectors with a source in the pending-bit array; of a core, it ends
its power-down wait where it has an eligible event, notes its clocked wait and signals the core, and sends nothing. No pending bit,
configuration or stack changes. An event whose vector is unacknowledged is eligible on no host release. Where no release condition
holds nothing changes. -/
def Obligations.CoresClaimCompleteAndReleaseInOrder : Prop :=
  (∀ (x : CoreId) (v : Word) (s : State), let d := s.dev; let src := v.toNat % 2048
    (coreStopped d x = true → exec (.ecClaim x) s = .next s ∧ exec (.ecComplete x v) s = .next s ∧ exec (.ecSetpend x v) s = .next s) ∧
    (coreStopped d x = false →
      (∃ t, exec (.ecClaim x) s = .next t ∧ t.pending = s.pending ∧
        (∀ y : CoreId, y ≠ x → stackOf t.dev y = stackOf d y) ∧
        t.dev = { d with ec := { d.ec with pend := t.dev.ec.pend, claimStacks := t.dev.ec.claimStacks, coreWait := t.dev.ec.coreWait
                                           woken := t.dev.ec.woken, signalled := t.dev.ec.signalled, trapEntry := t.dev.ec.trapEntry
                                           claimAt := t.dev.ec.claimAt }
                         mail := { d.mail with out := t.dev.mail.out }, meas := t.dev.meas } ∧
        ((∃ e : Fin 2048, eligibleOn d x e = true ∧ (∀ f : Fin 2048, eligibleOn d x f = true → srcPrio d f < srcPrio d e ∨ (srcPrio d f = srcPrio d e ∧ e ≤ f)) ∧
            stackOf t.dev x = (e.val, srcPrio d e) :: stackOf d x ∧ above (stackOf d x) (srcPrio d e) = true ∧
            t.dev.ec.pend = d.ec.pend &&& ~~~ BitVec.twoPow 2048 e.val ∧ t.dev.mail.out = [claimValue d (some e)]) ∨
          ((∀ e : Fin 2048, eligibleOn d x e = false) ∧ t.dev.ec.pend = d.ec.pend ∧ stackOf t.dev x = stackOf d x ∧ t.dev.mail.out = [0]))) ∧
      (∀ p rest, stackOf d x = (src, p) :: rest → let e := setStack x rest (coreAwake x d)
        ∃ t, exec (.ecComplete x v) s = .next t ∧ t.pending = s.pending ∧
          ((∀ f : Fin 2048, eligibleOn e x f = false) → t.dev = e) ∧
          ((∃ f : Fin 2048, eligibleOn e x f = true) → t.dev = { signalCore x e with meas := t.dev.meas })) ∧
      ((∀ p rest, stackOf d x ≠ (src, p) :: rest) → ∃ t, exec (.ecComplete x v) s = .next t ∧ t.pending = s.pending ∧
        (∀ y : CoreId, stackOf t.dev y = stackOf d y) ∧ t.dev.ec.pend = d.ec.pend ||| BitVec.twoPow 2048 (0x308 + x.val) ∧
        tabGet (fun _ => 0) t.dev.ec.faults x = min 0xFF (tabGet (fun _ => 0) d.ec.faults x + 1)) ∧
      (∃ t, exec (.ecSetpend x v) s = .next t ∧ t.pending = s.pending ∧
        t.dev = { coreAwake x d with ec := { (coreAwake x d).ec with pend := d.ec.pend ||| BitVec.twoPow 2048 src }, meas := t.dev.meas }))) ∧
  (∀ (t : Fin 5) (f : ReleaseFacts) (s : State), let d := s.dev
    let e := if t.val < 4 then noteWait t f.coreWaits (wakeCore t d) else d; let es := eligible e t
    let waits := if t.val = 4 then blockDown d 1 else mgtStopped d
    (waits = true → exec (.moderationRelease t f) s = .next s) ∧
    (waits = false → ∃ u, exec (.moderationRelease t f) s = .next u ∧ u.pending = s.pending ∧
      (releases e t es f = false → u.dev = e) ∧
      (t.val < 4 → releases e t es f = true → (e.ec.signalled.getLsbD t = false → u.dev = { signalCore t e with meas := u.dev.meas }) ∧
        (e.ec.signalled.getLsbD t = true → u.dev = e)) ∧
      (t.val = 4 → releases e t es f = true →
          u.dev = { d with ec := { d.ec with unack := u.dev.ec.unack, messages := u.dev.ec.messages, msix := { d.ec.msix with pending := u.dev.ec.msix.pending } }, meas := u.dev.meas } ∧
        (u.dev.ec.messages.Pairwise fun m n => vectorRank d es n.1 ≤ vectorRank d es m.1) ∧
        (∀ m ∈ u.dev.ec.messages, m.2 = ((msixEntry d m.1).address, (msixEntry d m.1).data)) ∧
        ∀ v : Fin 64, let sends := (∃ e ∈ es, srcVector d e = v.val) ∧ msixHeld d v = false
          ((∃ m ∈ u.dev.ec.messages, m.1 = v.val) ↔ sends) ∧ u.dev.ec.unack.getLsbD v = (d.ec.unack.getLsbD v || decide sends) ∧
          u.dev.ec.msix.pending.getLsbD v = ((d.ec.msix.pending.getLsbD v || decide (∃ e ∈ es, srcVector d e = v.val)) && !decide sends))) ∧
    (∀ e : Fin 2048, e.val ∈ eligible d 4 → d.ec.unack.getLsbD (srcVector d e) = false))

/-- For a write that reaches the hub: EC_PEND sets exactly the pending bits written 1 of its group; EC_PEND_CLR clears exactly those
written 1 that no hardware raise reaches in the same cycle, and a raised bit of a source that a chapter assigns is set afterwards;
EC_HOST_UNACK clears exactly the vectors written 1; EC_SRC_CFG stores priority, sleep route, enable and vector, and target and
fallback unless the value is reserved. A read of EC_HOST_CLAIM returns the highest-priority pending enabled host source of the
vector, lowest number among equals, with VALID and clears only it; with none it returns 0 and clears nothing. Raising a cause sets
its own bit of its own cause register and the pending bit of the source that the chapter assigns, whatever was set before; every
other cause bit and pending bit stays, and beside them only the block counters of the concentrator may move. (Every statement about
an event names its causes through this operation.) -/
def Obligations.PendingBitsAreRaisedAndClearedByTheHost : Prop :=
  (∀ (i k : Fin 64) (hi : Bool) (rd : RegRead) (src : Fin 2048) (w : RegWrite) (raised : Word) (s : State), let d := s.dev
    (writeLands w d = true → blockDown d 1 = false →
      (∃ t, exec (.ecPend i w) s = .next t ∧ t.pending = s.pending ∧ t.dev = { d with ec := { d.ec with pend := t.dev.ec.pend }, meas := t.dev.meas } ∧
        ∀ b : Fin 2048, t.dev.ec.pend.getLsbD b = (d.ec.pend.getLsbD b || (b.val / 32 == i.val && w.value.getLsbD (b.val % 32)))) ∧
      (∃ t, exec (.ecPendClr i w raised) s = .next t ∧ t.pending = s.pending ∧
        t.dev = { d with ec := { d.ec with pend := t.dev.ec.pend, signalled := t.dev.ec.signalled, msix := t.dev.ec.msix }, meas := t.dev.meas } ∧
        ∀ b : Fin 2048, t.dev.ec.pend.getLsbD b = if b.val / 32 = i.val then
          (raised.getLsbD (b.val % 32) && hardwareSource b) || (d.ec.pend.getLsbD b && !w.value.getLsbD (b.val % 32)) else d.ec.pend.getLsbD b) ∧
      (∃ t, exec (.ecHostUnack hi w) s = .next t ∧ t.pending = s.pending ∧
        t.dev = { d with ec := { d.ec with unack := t.dev.ec.unack } } ∧
        ∀ v : Fin 64, t.dev.ec.unack.getLsbD v = (d.ec.unack.getLsbD v &&
          !(v.val / 32 == (if hi then 1 else 0) && w.value.getLsbD (v.val % 32)))) ∧
      (∃ t, exec (.ecSrcCfg src w) s = .next t ∧ t.pending = s.pending ∧ t.dev = { d with ec := { d.ec with srcCfg := t.dev.ec.srcCfg, signalled := t.dev.ec.signalled, msix := t.dev.ec.msix } } ∧
        (∀ b : Fin 2048, b ≠ src → srcCfg t.dev b = srcCfg d b) ∧ srcPrio t.dev src = w.value.toNat % 16 ∧
        srcTarget t.dev src = (if w.value.toNat / 16 % 8 ≤ 4 then w.value.toNat / 16 % 8 else srcTarget d src) ∧
        srcFallback t.dev src = (if w.value.toNat / 128 % 8 ≤ 4 then w.value.toNat / 128 % 8 else srcFallback d src) ∧
        srcEnable t.dev src = w.value.getLsbD 11 ∧ srcVector t.dev src = w.value.toNat / 4096 % 64)) ∧
    (ReadLands 1 rd.who d → ∃ t, exec (.ecHostClaim rd k) s = .next t ∧ t.pending = s.pending ∧
      t.dev = { d with ec := { d.ec with pend := t.dev.ec.pend, claimAt := t.dev.ec.claimAt, signalled := t.dev.ec.signalled, msix := t.dev.ec.msix }, mail := { d.mail with out := t.dev.mail.out }, meas := t.dev.meas } ∧
      ((∃ e : Fin 2048, vectorSource d k e = true ∧
          (∀ f : Fin 2048, vectorSource d k f = true → srcPrio d f < srcPrio d e ∨ (srcPrio d f = srcPrio d e ∧ e ≤ f)) ∧
          t.dev.ec.pend = d.ec.pend &&& ~~~ BitVec.twoPow 2048 e.val ∧ t.dev.mail.out = [addressed rd.enables (claimValue d (some e))]) ∨
        ((∀ e : Fin 2048, vectorSource d k e = false) ∧ t.dev.ec.pend = d.ec.pend ∧ t.dev.mail.out = [0])))) ∧
  (∀ (r : CauseReg) (b : Fin 32) (d : Dev), let t := raiseCause r b d
    t = { d with causes := t.causes, ec := { d.ec with pend := t.ec.pend }, meas := { d.meas with counts := t.meas.counts } } ∧
    t.ec.pend = d.ec.pend ||| BitVec.twoPow 2048 (r.source b) ∧ causeOf t r = causeOf d r ||| BitVec.twoPow 32 b.val ∧
    (∀ k, k ≠ r.key → tabGet (fun _ => 0) t.causes k = tabGet (fun _ => 0) d.causes k) ∧
    (∀ k, countOf t k ≠ countOf d k → ∃ j < 8, k = keyBlock 7 j))

/-- TAKE and a rising edge on SNAP each record their trigger and set the snapshot tick, unless one is set already, to the multiple
of 1,000 ns that lies at least 2,000 and less than 3,000 ns ahead; with a latched snapshot not yet published, or CK_HUB stopped, the
trigger is dropped and counted. A change of FREEZE is scheduled for such a tick and no other. At the tick, and at the latest
multiple of SNAP_PERIOD for the timer, all counts, tallies, selections of restarted counts and flags are latched under T with the
triggers seen, and none of them is disturbed; a publication shows exactly what was latched, with SNAP_SEQ one higher. SNAP_USER
opens and closes exactly its own 32 pages, a closed page reads zero, and firmware's writes of it are discarded. A sequencer row adds
its REPEAT samples to COUNT and SUM of its tally where that stays below saturation, holds every sample between its tracker's ends,
changes no other tally, and moves on to the next row, to row 0 with the new SEQ_LEN after the last. An urgent GO starts a conversion
of 500 ns where none is pending and RUN is clear or 500 ns of the DELAY remain, and is dropped and counted otherwise; its sample
enters its tally when they have passed (an idle cycle does it: log 1). TALLY_COUNT reads COUNT and latches SUM and SUMSQ;
TRACK_RESET and TALLY_CLEAR act on exactly the bits written 1; TEL_STATUS reads the row and the drops and clears the drops; TEL_CTRL
keeps SEQ_LEN within 1 to 128; a row written while it executes keeps its old contents to its end. -/
def Obligations.SnapshotsAndTalliesAreTakenWhole : Prop :=
  (∀ (w : RegWrite) (i : Fin 4) (s : State), let d := s.dev
    let tickOf (T : Nat) : Prop := T % 1000 = 0 ∧ nowNs d + 2000 ≤ T ∧ T < nowNs d + 3000
    let triggered (k : Nat) (e : Dev) : Prop :=
      (asleep d = false → d.meas.captured = none → e = { d with meas := { d.meas with triggers := d.meas.triggers ||| BitVec.twoPow 3 k, snapAt := e.meas.snapAt } } ∧
        ∃ T, e.meas.snapAt = some T ∧ (d.meas.snapAt = some T ∨ d.meas.snapAt = none ∧ tickOf T)) ∧
      (asleep d = true ∨ d.meas.captured ≠ none → e = { d with meas := { d.meas with dropped := min 0xFFFFFFFF (d.meas.dropped + 1) } })
    let latched (x : Snapshot) (T : Nat) (tr : BitVec 3) : Prop := x.time = T ∧ x.triggers = tr ∧ x.counts = d.meas.counts ∧
      x.tallies = d.meas.tallies ∧ x.frozen = d.meas.frozen ∧ x.restarted = d.meas.restarted ∧ x.allRestarted = d.meas.allRestarted ∧
      x.timeValid = d.clock.valid ∧ x.timeCoarse = d.clock.coarse ∧ (∀ b : Fin 64, x.staleBlocks.getLsbD b = blockDown d b)
    (writeLands w d = true → blockDown d 1 = false →
      (w.value.getLsbD 0 = true → w.value.getLsbD 1 = d.meas.freezeReq → ∃ t, exec (.snapTake w) s = .next t ∧ t.pending = s.pending ∧ triggered 0 t.dev) ∧
      (w.value.getLsbD 0 = false → w.value.getLsbD 1 = d.meas.freezeReq → exec (.snapFreeze w) s = .next s) ∧
      (w.value.getLsbD 0 = false → w.value.getLsbD 1 ≠ d.meas.freezeReq → ∃ t T, exec (.snapFreeze w) s = .next t ∧ t.pending = s.pending ∧ tickOf T ∧
        t.dev = { d with meas := { d.meas with freezeReq := w.value.getLsbD 1, freezeAt := d.meas.freezeAt ++ [(T, w.value.getLsbD 1)] } })) ∧
    (∃ t, exec .snapPin s = .next t ∧ t.pending = s.pending ∧ triggered 1 t.dev) ∧
    (let pending : Prop := ∀ e ∈ d.meas.freezeAt, nowNs d < e.1; let periodic := d.meas.snapPeriod ≠ 0 ∧ d.meas.periodsTaken < nowMs d / d.meas.snapPeriod;
    (∀ T, d.meas.snapAt = some T → T ≤ nowNs d → pending → ¬periodic → d.meas.captured = none → asleep d = false → ∃ t x, exec (.snapshotTick false) s = .next t ∧
      t.pending = s.pending ∧ latched x T d.meas.triggers ∧ t.dev = { d with meas := { d.meas with
        snapAt := none, triggers := 0, restarted := [], allRestarted := false, captured := some x } }) ∧
    (pending → periodic → d.meas.captured = none → asleep d = false →
      ∃ t x, exec (.snapshotTick true) s = .next t ∧ t.pending = s.pending ∧
        latched x (nowMs d / d.meas.snapPeriod * d.meas.snapPeriod * 1000000) (d.meas.triggers ||| 4) ∧ t.dev = { d with meas := { d.meas with
          periodsTaken := nowMs d / d.meas.snapPeriod, snapAt := none, triggers := 0, restarted := [], allRestarted := false, captured := some x } }) ∧
    (pending → ¬periodic → exec (.snapshotTick true) s = .next s)) ∧
    (∀ x, d.meas.captured = some x → asleep d = false → exec .snapshotPublish s = .next { s with dev :=
      { d with meas := { d.meas with captured := none, published := { x with seq := (d.meas.published.seq + 1) % 2 ^ 64 } } } }) ∧
    (d.meas.captured = none → exec .snapshotPublish s = .next s) ∧
    (HostLands 1 w d → ∃ t, exec (.snapUser i w) s = .next t ∧ t.pending = s.pending ∧ t.dev = { d with meas := { d.meas with snapUser := t.dev.meas.snapUser } } ∧
      (∀ p : Fin 128, userPage t.dev p = if p.val / 32 = i.val then w.value.getLsbD (p.val % 32) else userPage d p) ∧
      (∀ o, userPage t.dev (o / 4096) = false → snapWindowWord t.dev o = 0)) ∧
    (w.who = .firmware → exec (.snapUser i w) s = .next s)) ∧
  (∀ (t : Fin 32) (n : Fin 128) (rowB : Bool) (sample : BitVec 16) (samples : List (BitVec 16)) (rd : RegRead) (w : RegWrite) (s : State), let d := s.dev
    let v := w.value.toNat; let x := tallyOf d t
    let r := d.bench.rowHeld.getD (rowOf d d.meas.row)
    let sum (l : List (BitVec 16)) : Int := (l.map (·.toInt)).foldl (· + ·) 0
    (d.meas.run = true → samples.length = r.repeatM1 + 1 → d.power.state ≠ .deepSleep → d.power.state ≠ .off → r.tally = t.val →
      (asleep d = true ∨ d.meas.rowAt + 500 * (r.delay + r.repeatM1 + 1) ≤ elapsedNs d) →
      ∃ u, exec (.telRow samples) s = .next u ∧ u.pending = s.pending ∧
        u.dev = { d with meas := { d.meas with rowAt := elapsedNs d, tallies := u.dev.meas.tallies, row := u.dev.meas.row, seqLenNow := u.dev.meas.seqLenNow }
                         bench := { d.bench with rowHeld := none, window := u.dev.bench.window } } ∧
        (∀ k : Fin 32, k ≠ t → tallyOf u.dev k = tallyOf d k) ∧
        (x.count + samples.length ≤ 0xFFFFFFFF → (tallyOf u.dev t).count = x.count + samples.length ∧ (tallyOf u.dev t).sum = x.sum + sum samples) ∧
        (∀ y ∈ samples, (tallyOf u.dev t).min ≤ y.toInt ∧ y.toInt ≤ (tallyOf u.dev t).max) ∧
        (tallyOf u.dev t).latchedSum = x.latchedSum ∧
        (d.meas.row + 1 < d.meas.seqLenNow → u.dev.meas.row = d.meas.row + 1 ∧ u.dev.meas.seqLenNow = d.meas.seqLenNow) ∧
        (d.meas.seqLenNow ≤ d.meas.row + 1 → u.dev.meas.row = 0 ∧ u.dev.meas.seqLenNow = d.meas.seqLen)) ∧
    (d.meas.run = false ∨ (asleep d = false ∧ elapsedNs d < d.meas.rowAt + 500 * (r.delay + r.repeatM1 + 1)) → exec (.telRow samples) s = .next s) ∧
    (writeLands w d = true → blockDown d 1 = false →
      (w.value.getLsbD 31 = true → ∃ u, exec (.telUrgent w sample) s = .next u ∧ u.pending = s.pending ∧
        u.dev = { d with meas := { d.meas with urgentChannel := v % 64, urgentTally := v / 256 % 32, urgent := u.dev.meas.urgent, urgentDone := false
                                               urgentDropped := u.dev.meas.urgentDropped, urgentDrops := u.dev.meas.urgentDrops } } ∧
        (d.meas.urgent = none → d.meas.run = false ∨ elapsedNs d + 500 ≤ d.meas.rowAt + 500 * r.delay →
          u.dev.meas.urgent = some (elapsedNs d + 500, v / 256 % 32, sample) ∧ u.dev.meas.urgentDropped = false ∧
          u.dev.meas.urgentDrops = d.meas.urgentDrops) ∧
        (d.meas.urgent ≠ none ∨ (d.meas.run = true ∧ d.meas.rowAt + 500 * r.delay < elapsedNs d + 500) →
          u.dev.meas.urgent = d.meas.urgent ∧ u.dev.meas.urgentDropped = true ∧ u.dev.meas.urgentDrops = min 0xFFFF (d.meas.urgentDrops + 1))) ∧
      (∃ u, exec (.trackReset w) s = .next u ∧ u.pending = s.pending ∧ u.dev = { d with meas := { d.meas with tallies := u.dev.meas.tallies } } ∧
        ∀ k : Fin 32, tallyOf u.dev k = if w.value.getLsbD k then { tallyOf d k with min := 32767, max := -32768 } else tallyOf d k) ∧
      (∃ u, exec (.tallyClear w) s = .next u ∧ u.pending = s.pending ∧ u.dev = { d with meas := { d.meas with tallies := u.dev.meas.tallies } } ∧
        ∀ k : Fin 32, tallyOf u.dev k = if w.value.getLsbD k then { tallyOf d k with count := 0, sum := 0, sumsq := 0 } else tallyOf d k) ∧
      (∃ u, exec (.telCtrl w) s = .next u ∧ u.pending = s.pending ∧ 1 ≤ u.dev.meas.seqLen ∧ u.dev.meas.seqLen ≤ 128 ∧
        (1 ≤ v / 256 % 256 → v / 256 % 256 ≤ 128 → u.dev.meas.seqLen = v / 256 % 256) ∧
        u.dev = { d with meas := { d.meas with run := w.value.getLsbD 0, seqLen := u.dev.meas.seqLen, rowAt := u.dev.meas.rowAt } } ∧
        (d.meas.run = true → u.dev.meas.rowAt = d.meas.rowAt)) ∧
      (∃ u, exec (.sequencerRow n rowB w) s = .next u ∧ u.pending = s.pending ∧ (∀ k : Fin 128, k ≠ n → rowOf u.dev k = rowOf d k) ∧
        rowOf u.dev n = (if rowB then { rowOf d n with delay := v % 4096 }
          else { rowOf d n with channel := v % 64, tally := v / 256 % 32, repeatM1 := v / 65536 % 256 }) ∧
        (d.meas.run = true → d.meas.row = n.val → d.bench.rowHeld = none → u.dev.bench.rowHeld = some (rowOf d n)) ∧
        (d.meas.row ≠ n.val → u.dev.bench = d.bench) ∧ u.dev = { d with meas := { d.meas with seqRows := u.dev.meas.seqRows }, bench := u.dev.bench })) ∧
    (ReadLands 1 rd.who d →
      (∃ u, exec (.tallyCount rd t) s = .next u ∧ u.pending = s.pending ∧ u.dev.mail.out = [addressed rd.enables (BitVec.ofNat 32 x.count)] ∧
        tallyOf u.dev t = { x with latchedSum := x.sum, latchedSq := x.sumsq } ∧ (∀ k : Fin 32, k ≠ t → tallyOf u.dev k = tallyOf d k)) ∧
      exec (.telStatus rd) s = .next { s with dev := { d with mail := { d.mail with out := [addressed rd.enables (telStatusValue d)] }, meas := { d.meas with urgentDrops := 0 } } }) ∧
    (∀ due k smp, d.meas.urgent = some (due, k, smp) → due ≤ elapsedNs d →
      (urgentCycle d).meas.urgent = none ∧ (urgentCycle d).meas.urgentDone = true ∧ (∀ j : Fin 32, j.val ≠ k → tallyOf (urgentCycle d) j = tallyOf d j) ∧
      ((tallyOf d k).count < 0xFFFFFFFF → (tallyOf (urgentCycle d) k).count = (tallyOf d k).count + 1 ∧
        (tallyOf (urgentCycle d) k).sum = (tallyOf d k).sum + smp.toInt) ∧
      ((tallyOf d k).count = 0xFFFFFFFF → (tallyOf (urgentCycle d) k).count = 0xFFFFFFFF ∧ (tallyOf (urgentCycle d) k).sum = (tallyOf d k).sum)))

/-- CAL_START starts a pending run only where its line tile runs none, no freeze is engaged and the engine is on; it shows
CAL_START, notes the cause, and changes no other engine. CAL_DONE of a run whose steps have taken their 40 ms, 50 ms with the DAC
skews, counts it, marks it converged with its end and duration, shows CAL_DONE, and leaves the engine idle, or pending where a
trigger came during the run; raw LOS within the first 40 ms aborts it: it counts nothing, shows CAL_ABORT and CAL_DEFERRED and
leaves the engine deferred for the same cause. The evaluation, once per multiple of 100 ms, triggers an idle engine exactly where
AUTO is set, a run has converged (the model's reading: before that TEMP_LAST has no value), a sample came, the engine is on and ten
times the mean's distance from TEMP_LAST exceeds 128 times THRESHOLD; an engine whose run is pending stays as it is. -/
def Obligations.CalibrationRunsInTurn : Prop :=
  ∀ (n : Engine) (s : State), let d := s.dev; let x := calOf d n
    (calMayStart d n = true → x.state ≠ .idle ∧ x.state ≠ .running ∧ freezeOn d = false ∧ engineOff d n = false ∧
      (∀ m : Engine, m.val / 4 = n.val / 4 → (calOf d m).state ≠ .running) ∧
      ∃ t, exec (.calStart n) s = .next t ∧ t.pending = s.pending ∧ Shows t.dev (.cal n) 0 ∧ (∀ m : Engine, m ≠ n → calOf t.dev m = calOf d m) ∧
        calOf t.dev n = { x with state := .running, lastCause := x.pendingCause, waitFrom := none, startAt := elapsedNs d } ∧
        t.dev = { d with bench := { d.bench with cal := t.dev.bench.cal, calOrder := d.bench.calOrder.erase n }, causes := t.dev.causes, ec := t.dev.ec, meas := t.dev.meas }) ∧
    (calMayStart d n = false → exec (.calStart n) s = .next s) ∧
    (let endAt := x.startAt + 40000000 + (if dacReady d n then 10000000 else 0);
      (x.state = .running → endAt ≤ elapsedNs d →
        ∃ t, exec (.calDone n) s = .next t ∧ t.pending = s.pending ∧ Shows t.dev (.cal n) 1 ∧ (∀ m : Engine, m ≠ n → calOf t.dev m = calOf d m) ∧
        (calOf t.dev n).converged = true ∧ (calOf t.dev n).runs = x.runs + 1 ∧ (calOf t.dev n).lastDone = nowNs d ∧
        (calOf t.dev n).lastDuration = (elapsedNs d - x.startAt) / 1000 ∧ (calOf t.dev n).dacSkipped = !dacReady d n ∧ (calOf t.dev n).tempLast = windowMean d n ∧
        (x.again = 0 → (calOf t.dev n).state = .idle ∧ t.dev.bench.calOrder = d.bench.calOrder) ∧
        (x.again ≠ 0 → (calOf t.dev n).state = (if (engRx d n).los then .deferred else .pending) ∧ (calOf t.dev n).pendingCause = x.again ∧
          t.dev.bench.calOrder = d.bench.calOrder ++ [n.val]) ∧
        (dacReady d n = false → t.dev.tx = d.tx)) ∧
      (x.state ≠ .running ∨ elapsedNs d < endAt → exec (.calDone n) s = .next s)) ∧
    (x.state = .running → (engRx d n).los = false → engineOff d n = false → elapsedNs d < x.startAt + 40000000 →
      ∃ t, exec (.losSet n) s = .next t ∧ t.pending = s.pending ∧ Shows t.dev (.cal n) 2 ∧ Shows t.dev (.engRx n) 0 ∧ Shows t.dev (.engRx n) 3 ∧
        (∀ m : Engine, m ≠ n → calOf t.dev m = calOf d m) ∧ (calOf t.dev n).state = .deferred ∧ (calOf t.dev n).pendingCause = x.lastCause ∧
        (calOf t.dev n).runs = x.runs ∧ (calOf t.dev n).tempLast = x.tempLast ∧ (engRx t.dev n).los = true) ∧
    (nowNs d / 100000000 ≤ d.bench.evaluated → exec .calTemperatureEval s = .next s) ∧
    (d.bench.evaluated < nowNs d / 100000000 → ∃ t, exec .calTemperatureEval s = .next t ∧ t.pending = s.pending ∧ t.dev.bench.window = [] ∧ (calOf t.dev n).tempLast = x.tempLast ∧
      (x.state = .idle → (calOf t.dev n).state =
        if x.auto && x.converged && (tabGet (fun _ => (0, 0)) d.bench.window x.tally).1 != 0 && !engineOff d n &&
          decide (128 * x.threshold * (tabGet (fun _ => (0, 0)) d.bench.window x.tally).1 <
            (10 * ((tabGet (fun _ => (0, 0)) d.bench.window x.tally).2 - x.tempLast * ((tabGet (fun _ => (0, 0)) d.bench.window x.tally).1 : Int))).natAbs)
        then (if (engRx d n).los then .deferred else .pending) else .idle) ∧
      (x.state = .pending ∨ x.state = .deferred ∨ x.state = .running → (calOf t.dev n).state = x.state))

/-- Each of the six sources, where its enable bit is set and its own conditions hold: during an entry that no trip has taken over,
the first one is recorded in WAKE_CAUSE and later ones are ignored; in SLEEP or DEEP SLEEP without a trip it sets WAKE_CAUSE and the
device is leaving; in RUN, IDLE or already leaving it changes nothing. With its enable bit clear it changes nothing. LIGHT and
IXTAS_WAKE need their engine in ENGINE_MASK, CLIENT_SIGNAL a lane in use at entry and not DEEP SLEEP, TIMER a nonzero time.
IXTAS_WAKE shows WAKE_SEEN and source 0x2A0 whatever the mask. In OFF the WAKE pin acts whatever its enable bit: the device waits
for its power-on reset. SURGE_GRANT, outside stage 5 of an entry, on a request or a revocation with SURGE_ENABLE set, the estimate
at P3 at most 900 W, no unended hot revocation and credit enough shows GRANTED and, unless a transition is in progress, commands P3,
while the point in force stays. POWER_ESTIMATE, no more often than each 100 µs, moves credit by 100 µs down at P3, by a quarter up
at 780 W or less below it, within 0 and 20 s, and revokes a grant above 900 W. EXHAUSTED at zero credit and SURGE_HOT show their
causes and revoke. VID_SETTLE gives a point commanded 25 µs ago to its rail, then carries out a request made meanwhile, the VMGT
clock never above MGT_MAX, and the pool's point stays until an epoch. THERMAL_WARN shows unless one was shown less than a second of
DEVTIME ago. -/
def Obligations.WakesAndSurgesFollowTheirEnables : Prop :=
  (∀ (n : Engine) (tone : Fin 16) (words : Vector (BitVec 64) 4) (l : Lane) (s : State), let d := s.dev
    let fires (k : Nat) (i : Instr) : Prop :=
      (d.power.wakeEn.getLsbD k = true → d.power.state = .entering → d.pins.tripEntry = false → d.pins.wakeSeen = false →
        exec i s = .next { s with dev := { d with power := { d.power with wakeCause := k }, pins := { d.pins with wakeSeen := true } } }) ∧
      (d.power.wakeEn.getLsbD k = true → d.power.state = .entering → d.pins.tripEntry = true ∨ d.pins.wakeSeen = true → exec i s = .next s) ∧
      (d.power.wakeEn.getLsbD k = true → d.power.state = .sleep ∨ d.power.state = .deepSleep → d.pins.tripEntry = false →
        exec i s = .next { s with dev := { d with power := { d.power with state := .leaving, wakeCause := k } } }) ∧
      (d.power.wakeEn.getLsbD k = true → d.power.state = .sleep ∨ d.power.state = .deepSleep → d.pins.tripEntry = true →
        ∃ t, exec i s = .next t ∧ t.pending = s.pending ∧ t.dev = { d with power := t.dev.power, free := d.free + 1 } ∧
          (t.dev.power = d.power ∨ t.dev.power = { d.power with state := .leaving, wakeCause := k })) ∧
      (d.power.wakeEn.getLsbD k = false ∨ d.power.state = .run ∨ d.power.state = .idle ∨ d.power.state = .leaving → exec i s = .next s)
    (d.power.state ≠ .off → fires 0 .wakePin) ∧
    (d.power.state = .off → exec .wakePin s = .next { s with dev := { d with pins := { d.pins with wakeSeen := true } } }) ∧
    fires 1 .smpMatch ∧
    (d.power.engineMask.getLsbD n = true → fires 3 (.light n)) ∧ (d.power.engineMask.getLsbD n = false → exec (.light n) s = .next s) ∧
    (d.pins.lanesBefore.getLsbD l = true → d.power.state ≠ .deepSleep → fires 4 (.clientSignal l)) ∧
    (d.pins.lanesBefore.getLsbD l = false ∨ d.power.state = .deepSleep → exec (.clientSignal l) s = .next s) ∧
    (d.power.state = .sleep ∨ d.power.state = .deepSleep → d.power.wakeTimer ≠ 0 → fires 5 .wakeTimer) ∧
    (d.power.wakeTimer = 0 → exec .wakeTimer s = .next s) ∧
    (d.power.state = .off ∨ (∃ k : Fin 4, 4 < bitErrors (words[k]) wakeWord) → exec (.wakeSeen n tone words) s = .next s) ∧
    (d.power.state ≠ .off → (∀ k : Fin 4, bitErrors (words[k]) wakeWord ≤ 4) → ∃ t, exec (.wakeSeen n tone words) s = .next t ∧ t.pending = s.pending ∧ Shows t.dev (.ixtasEng n) 1 ∧
      t.dev.ec.pend.getLsbD 0x2A0 = true ∧
      (d.power.engineMask.getLsbD n = false ∨ d.power.wakeEn.getLsbD 2 = false ∨ asleep d = false → t.dev.power.state = d.power.state) ∧
      (d.power.engineMask.getLsbD n = true → d.power.wakeEn.getLsbD 2 = true → d.power.state = .sleep ∨ d.power.state = .deepSleep → d.pins.tripEntry = false →
        t.dev.power = { d.power with state := .leaving, wakeCause := 2 }) ∧
      t.dev.tx = d.tx ∧ t.dev.rx = d.rx ∧ t.dev.slots = d.slots ∧ t.dev.cipher = d.cipher)) ∧
  (∀ (now atP3 : Nat) (below97 : Bool) (m : Fin 16) (s : State), let d := s.dev; let u := 40 * d.power.credit + d.power.creditPart
    (asleep d = false → d.power.state ≠ .entering ∨ d.power.stage < 5 → d.power.surge = .requested ∨ d.power.surge = .revoked → d.power.surgeEnable = true → d.pins.estimateP3 ≤ 900 → d.power.hot = false →
      (if d.power.exhausted then d.power.regrant ≤ d.power.credit else 0 < u) → ∃ t, exec .surgeGrant s = .next t ∧ t.pending = s.pending ∧
        Shows t.dev .power 2 ∧ Shows t.dev .pool 4 ∧ t.dev.pool = d.pool ∧ t.dev.power = { d.power with
          surge := .granted, exhausted := false, poolRise := (if d.power.poolRise = none then some (3, elapsedNs d) else d.power.poolRise) }) ∧
    (d.power.surgeEnable = false ∨ 900 < d.pins.estimateP3 ∨ d.power.hot = true ∨ d.power.surge = .none ∨ (d.power.state = .entering ∧ 5 ≤ d.power.stage) → exec .surgeGrant s = .next s) ∧
    (∀ at_, d.pins.estimateAt = some at_ → elapsedNs d < at_ + 100000 → exec (.powerEstimate now atP3 below97) s = .next s) ∧
    (asleep d = false → u ≤ 800000 → d.power.creditPart < 40 → (∀ at_, d.pins.estimateAt = some at_ → at_ + 100000 ≤ elapsedNs d) → ∃ t, exec (.powerEstimate now atP3 below97) s = .next t ∧ t.pending = s.pending ∧
      t.dev.pins = { d.pins with estimate := now, estimateP3 := atP3, estimateAt := some (elapsedNs d) } ∧
      40 * t.dev.power.credit + t.dev.power.creditPart = (if d.pool.point = 3 then u - 4 else if now ≤ 780 then min 800000 (u + 1) else u) ∧
      t.dev.power.hot = (d.power.hot && !below97) ∧ (900 < now → t.dev.power.surge ≠ .granted) ∧
      (900 < now → d.power.surge = .granted → Shows t.dev .power 3) ∧ t.dev.pool = d.pool) ∧
    (asleep d = false → d.power.surge = .granted → u = 0 → ∃ t, exec .exhausted s = .next t ∧ t.pending = s.pending ∧
      Shows t.dev .power 4 ∧ Shows t.dev .power 3 ∧ t.dev.power = { d.power with surge := .revoked, exhausted := true } ∧ t.dev.pool = d.pool) ∧
    (d.power.surge ≠ .granted ∨ u ≠ 0 → exec .exhausted s = .next s) ∧
    (asleep d = false → d.power.surge = .granted → ∃ t, exec (.surgeHot m) s = .next t ∧ t.pending = s.pending ∧
      Shows t.dev .power 7 ∧ Shows t.dev .power 3 ∧ t.dev.power = { d.power with surge := .revoked, hot := true } ∧ t.dev.pool = d.pool) ∧
    (d.power.surge ≠ .granted → exec (.surgeHot m) s = .next s) ∧
    (let waits : Option (Nat × Nat) → Prop := fun rise => ∀ p at_, rise = some (p, at_) → elapsedNs d < at_ + 25000;
      (∀ p at_, asleep d = false → d.power.poolRise = some (p, at_) → at_ + 25000 ≤ elapsedNs d → waits d.power.mgtRise →
        exec .vidSettle s = .next { s with dev := { d with pool := { d.pool with rail := p }, power := { d.power with poolRise := none } } }) ∧
      (∀ p at_, asleep d = false → d.power.mgtRise = some (p, at_) → at_ + 25000 ≤ elapsedNs d → waits d.power.poolRise →
        (d.power.mgtNext = none → exec .vidSettle s = .next { s with dev := { d with power := { d.power with mgtRise := none, mgtPoint := min p d.power.mgtMax } } }) ∧
        (∀ q, d.power.mgtNext = some q → min q d.power.mgtMax ≤ min p d.power.mgtMax → exec .vidSettle s = .next { s with dev :=
          { d with power := { d.power with mgtRise := none, mgtNext := none, mgtPoint := min q d.power.mgtMax } } }) ∧
        (∀ q, d.power.mgtNext = some q → min p d.power.mgtMax < min q d.power.mgtMax → exec .vidSettle s = .next { s with dev :=
          { d with power := { d.power with mgtRise := some (min q d.power.mgtMax, elapsedNs d), mgtNext := none, mgtPoint := min p d.power.mgtMax } } })) ∧
      (waits d.power.poolRise → waits d.power.mgtRise → exec .vidSettle s = .next s)) ∧
    (d.power.state ≠ .off → (∀ w, d.pins.lastWarn = some w → w + 1000000000 ≤ nowNs d) → ∃ t, exec (.thermalWarn m) s = .next t ∧ t.pending = s.pending ∧
      Shows t.dev .power 6 ∧ t.dev.pins = { d.pins with lastWarn := some (nowNs d) } ∧ t.dev.power = d.power) ∧
    (∀ w, d.pins.lastWarn = some w → nowNs d < w + 1000000000 → exec (.thermalWarn m) s = .next s))

/-- For an entry by PWR_STATE with firmware running: a stage that nothing refuses, before which no wake event came, leads to the
next stage (stage 3 mutes every engine through HOST_MUTE, stage 5 brings VMGT to its lowest point and orders the pool's P0 for its
next epoch) and after stage 5 to the commit: the state is the target, SLEEPING is high, STATE_CHANGE shows, DEVTIME is recorded, job
contexts and the pool are empty, and PWR_STATE is answered OK with ABANDON_STAGE 0. A wake event seen abandons the entry with
REFUSER 0xFF, a refusing block with its own number, wake event or not; the device is in RUN, WAKE_CAUSE stays, and PWR_STATE is
answered SLEEP_REFUSED with the stage, REFUSER and WAKE_CAUSE. In stage 1 an armed swap refuses as block 0x01 and, without one, a
running fill as 0x05. Outside an entry nothing changes. THERMAL_TRIP in any state but OFF sets TRIP_LATCHED, shows THERMAL_TRIP and
adds MUTE_SOURCE bit 3 to every engine, none of which keeps its gate open for it. From RUN or IDLE the entry begins at stage 2 with
target SLEEP and the pool empty; a PWR_STATE entry in progress is taken over at its stage or stage 2, and is answered SLEEP_REFUSED
with REFUSER 0xFD; a device on its way back to RUN returns to SLEEP. At the abort point of a stage of a trip's entry the next stage
or, after stage 5, SLEEP follows, with a wake event seen or not. The host clears TRIP_LATCHED by writing 1 and by nothing else;
firmware cannot. -/
def Obligations.AbortPointsAndTheTripEndTheEntry : Prop :=
  (∀ (mb : Mailbox) (n : Engine) (r : Fin 256) (s : State), let d := s.dev
    let abandons (i : Instr) (k : Nat) : Prop := ∃ t, exec i s = .next t ∧ t.pending = s.pending ∧ t.dev.power.state = .run ∧
      t.dev.power.refuser = k ∧ t.dev.power.wakeCause = d.power.wakeCause ∧ t.dev.power.stage = d.power.stage ∧ t.dev.pins.sleeping = d.pins.sleeping ∧
      (d.pins.entryMailbox = some mb.val → (box d mb).releaseAtPost = false → (box t.dev mb).state = .done ∧
        windowBytes (box t.dev mb) 10 1 = le 1 Status.sleepRefused.code ∧
        windowBytes (box t.dev mb) 16 8 = zeros 4 ++ le 1 d.power.stage ++ le 1 k ++ le 1 d.power.wakeCause ++ [0])
    (d.power.state = .entering → d.pins.tripEntry = false → d.fw.state = .running →
      (stageRefusal d = none → d.pins.wakeSeen = false → d.power.stage < 5 → ∃ t, exec (.abortPoint none) s = .next t ∧ t.pending = s.pending ∧
        t.dev.power.stage = d.power.stage + 1 ∧ t.dev.power.state = .entering ∧ t.dev.power.refuser = d.power.refuser ∧
        t.dev.pins.entryMailbox = d.pins.entryMailbox ∧
        (d.power.stage = 2 → (engTx t.dev n).mute = (engTx d n).mute ||| 2 ∧ mutable (engTx t.dev n).state = false ∧ t.dev.ixtas.branches = []) ∧
        (d.power.stage = 3 → t.dev.ec.unack = 0) ∧
        (d.power.stage = 4 → t.dev.power.mgtPoint = 0 ∧ t.dev.power.mgtRise = none ∧ t.dev.power.surge = .none ∧ wantedPoint t.dev = 0)) ∧
      (d.pins.wakeSeen = false → d.power.stage = 5 → ∃ t, exec (.abortPoint none) s = .next t ∧ t.pending = s.pending ∧
        t.dev.power.state = d.pins.target ∧ t.dev.pins.sleeping = true ∧ t.dev.pins.entryMailbox = none ∧ Shows t.dev .power 0 ∧
        t.dev.clock = { d.clock with recorded := d.clock.frac } ∧ t.dev.cipher.contexts = [] ∧ t.dev.pool.cws = [] ∧ t.dev.pool.point = 0 ∧ t.dev.pool.rail = 0 ∧
        (d.pins.entryMailbox = some mb.val → (box d mb).releaseAtPost = false → (box t.dev mb).state = .done ∧
          windowBytes (box t.dev mb) 10 1 = [0] ∧ windowBytes (box t.dev mb) 16 5 = zeros 5)) ∧
      (stageRefusal d = none → d.pins.wakeSeen = true → abandons (.abortPoint none) 0xFF) ∧
      (stageRefusal d = none → mayRefuse d = some r.val → abandons (.abortPoint (some r)) r) ∧
      (d.power.stage = 1 → (∃ m : Engine, (engineSwap d m).armed.isSome = true) → abandons (.abortPoint none) 1) ∧
      (d.power.stage = 1 → (∀ m : Engine, (engineSwap d m).armed = none) → (∀ c : Coach, (coachSwap d c).armed = none) → d.mem.fill.isSome = true →
        abandons (.abortPoint none) 5)) ∧
    (d.power.state ≠ .entering → exec (.abortPoint none) s = .next s)) ∧
  (∀ (m : Fin 16) (mb : Mailbox) (n : Engine) (w : RegWrite) (s : State), let d := s.dev
    (d.power.state ≠ .off → ∃ t, exec (.thermalTrip m) s = .next t ∧ t.pending = s.pending ∧ t.dev.power.tripLatched = true ∧ Shows t.dev .power 8 ∧
      (engTx t.dev n).mute = (engTx d n).mute ||| 8 ∧ mutable (engTx t.dev n).state = false ∧
      (mutable (engTx d n).state = true → (engTx t.dev n).state = .muted ∧ (engTx t.dev n).gateOpen = false) ∧
      (d.power.state = .run ∨ d.power.state = .idle → t.dev.power.state = .entering ∧ t.dev.power.stage = 2) ∧
      (d.power.state = .entering → t.dev.power.state = .entering ∧ t.dev.power.stage = max 2 d.power.stage ∧
        (d.pins.entryMailbox = some mb.val → (box d mb).releaseAtPost = false → t.dev.power.refuser = 0xFD ∧ (box t.dev mb).state = .done ∧
          windowBytes (box t.dev mb) 10 1 = le 1 Status.sleepRefused.code ∧ windowBytes (box t.dev mb) 21 1 = [0xFD])) ∧
      (d.power.state = .run ∨ d.power.state = .idle ∨ d.power.state = .entering → t.dev.pins.target = .sleep ∧ t.dev.pins.tripEntry = true ∧
        t.dev.pins.entryMailbox = none ∧ t.dev.pool.cws = []) ∧
      (d.power.state = .leaving → t.dev.power.state = .sleep ∧ t.dev.pins.tripEntry = true) ∧
      (d.power.state = .sleep ∨ d.power.state = .deepSleep → t.dev.power.state = d.power.state ∧ t.dev.pins.tripEntry = true)) ∧
    (d.power.state = .off → exec (.thermalTrip m) s = .next s) ∧
    (d.power.state = .entering → d.pins.tripEntry = true → ∃ t, exec (.abortPoint none) s = .next t ∧ t.pending = s.pending ∧
      (d.power.stage < 5 → t.dev.power.state = .entering ∧ t.dev.power.stage = d.power.stage + 1) ∧
      (5 ≤ d.power.stage → t.dev.power.state = d.pins.target ∧ t.dev.pins.sleeping = true)) ∧
    (HostLands 0xFF w d → exec (.tripLatchedClear w) s = .next { s with dev :=
      { d with power := { d.power with tripLatched := d.power.tripLatched && !w.value.getLsbD 6 } } }) ∧
    (w.who = .firmware → exec (.tripLatchedClear w) s = .next s))

/-- RETURN_TO_RUN after a wake sets the state RUN, SLEEPING low and STATE_CHANGE, DEVTIME to the recorded value plus the elapsed
CK_AON time rounded up to a nanosecond with DEVTIME_COARSE, the timing block to FREERUN, or STEERED under LOOP_OPEN, firmware, where
boot had ended, running without a freeze of its own; credit rises by a quarter of the time; connection memory is as at reset unless
CONN_RETAIN is set; the counters start again after DEEP SLEEP alone. In any other state, or where the wake timer's seconds have not
passed, it changes nothing. IDLE_ENTRY in RUN with ALLOW_IDLE and firmware running marks the cores as waiting and answers the laser
transfers that its stopped clock ends; IDLE_EXIT with a request to take or an event eligible on a core makes the state RUN, every
core with a request and else a core with such an event executing, and changes no data-plane setting. DOMAIN_CHANGE completes the
oldest switch: its bit alone of PWR_DOMAINS changes and shows, an engine that comes on has its counts at zero, and its calibration
record is untouched. -/
def Obligations.TheDeviceReturnsToRun : Prop :=
  ∀ (ns : Nat) (n : Engine) (on : Bool) (rest : List (Nat × Nat × Bool)) (s : State), let d := s.dev
    (d.power.state = .leaving → d.power.wakeCause ≠ 5 ∨ d.power.wakeTimer * 1000000000 ≤ ns → ∃ t, exec (.returnToRun ns) s = .next t ∧ t.pending = s.pending ∧ t.dev.power.state = .run ∧
      t.dev.pins.sleeping = false ∧ Shows t.dev .power 0 ∧ t.dev.clock.coarse = true ∧ t.dev.clock.frac % 2 ^ 48 = 0 ∧
      d.clock.recorded + ns * 2 ^ 48 ≤ t.dev.clock.frac ∧ t.dev.clock.frac < d.clock.recorded + (ns + 1) * 2 ^ 48 ∧
      t.dev.time.state = (if d.time.loopOpen then .steered else .freerun) ∧ t.dev.time.ring = [] ∧ (5 ≤ d.fw.stage → t.dev.fw.state = .running ∧ t.dev.fw.restartFreeze = false) ∧ (d.fw.stage < 5 → t.dev.fw = d.fw) ∧
      t.dev.fw.restartCount = d.fw.restartCount ∧ t.dev.power.wakeCause = d.power.wakeCause ∧
      40 * t.dev.power.credit + t.dev.power.creditPart = min 800000 (40 * d.power.credit + d.power.creditPart + ns / 100000) ∧
      (d.power.connRetain = false → t.dev.slots.txPage0 = [] ∧ t.dev.slots.txPage1 = [] ∧ t.dev.slots.rxPage0 = [] ∧ t.dev.slots.rxPage1 = []) ∧
      (d.power.connRetain = true → t.dev.slots.txPage0 = d.slots.txPage0 ∧ t.dev.slots.rxPage0 = d.slots.rxPage0) ∧
      (d.pins.target ≠ .sleep → t.dev.meas.allRestarted = true ∧ t.dev.meas.selects = [])) ∧
    (d.power.state ≠ .leaving ∨ (d.power.wakeCause = 5 ∧ ns < d.power.wakeTimer * 1000000000) → exec (.returnToRun ns) s = .next s) ∧
    (d.power.state = .run → d.power.allowIdle = true → d.fw.state = .running → ∃ t, exec .idleEntry s = .next t ∧ t.pending = s.pending ∧
      t.dev = { d with ec := t.dev.ec, mail := t.dev.mail, meas := t.dev.meas, power := { d.power with state := .idle } } ∧
      t.dev.ec.corePdWait = 0xF ∧ t.dev.ec.coreWait = 0 ∧ (d.mail.transfers = [] → t.dev.mail = d.mail)) ∧
    (d.power.state ≠ .run ∨ d.power.allowIdle = false → exec .idleEntry s = .next s) ∧
    (d.power.state = .idle → (∃ x : CoreId, wokenCore d x = true) ∨ (firstPending d d.mail.order).isSome = true → ∃ t, exec .idleExit s = .next t ∧ t.pending = s.pending ∧
      t.dev.power = { d.power with state := .run } ∧ ((firstPending d d.mail.order).isSome = true → t.dev.ec.corePdWait = 0) ∧
      ((∃ x : CoreId, wokenCore d x = true) → ∃ x : CoreId, wokenCore d x = true ∧ t.dev.ec.corePdWait.getLsbD x = false) ∧
      t.dev.tx = d.tx ∧ t.dev.rx = d.rx ∧ t.dev.slots = d.slots ∧ t.dev.cipher = d.cipher ∧ t.dev.clock = d.clock) ∧
    (d.power.state = .idle → (∀ x : CoreId, wokenCore d x = false) → (firstPending d d.mail.order).isSome = false → exec .idleExit s = .next s) ∧
    (asleep d = false → d.pins.domainChanging = (0, n.val, on) :: rest → ∃ t, exec .domainChange s = .next t ∧ t.pending = s.pending ∧ Shows t.dev .power 9 ∧
      (∀ m : Engine, t.dev.power.engineOn.getLsbD m = if m = n then on else d.power.engineOn.getLsbD m) ∧ t.dev.power.clientOn = d.power.clientOn ∧
      t.dev.pins = { d.pins with domainChanging := rest } ∧ calOf t.dev n = calOf d n ∧ countOf t.dev (keyEngine n 0) = 0 ∧
      (on = true → keyEngine n 0 ∈ t.dev.meas.restarted) ∧ t.dev.tx = d.tx ∧ t.dev.rx = d.rx) ∧
    (d.pins.domainChanging = [] → exec .domainChange s = .next s)

/-- A whole-word host write that reaches its block, by REGISTER_WRITE at the register's offset: PWR_WAKE_EN, PWR_WAKE_TIMER, the two
halves of PWR_RET_DEPOT and PWR_RET_CTRL take their fields; SNAP_PERIOD keeps at most 100,000; EC_MOD keeps a MOD_COUNT of 0 as 1;
the correctable threshold and FLIP mask parts take theirs; FALLBACK and DOORBELL_ERR clear by writing 1. Each changes its own field
alone. A write to a block whose clock is off is discarded and recorded, and so is one to a locked diagnostic window. An SMP write of
one group at an offset does what REGISTER_WRITE from the SMP port does there and leaves the pointer 4 further; SMP_READ of one word
returns the register's value and moves the pointer by 4; the pointer alone is set by SMP_POINTER. Nothing answers in OFF or before
boot ROM has started. -/
def Obligations.OwnRuleRegistersFollowTheirRule : Prop :=
  ∀ (o : Word) (who : Accessor) (v : Word) (t5 : Fin 5) (s : State), let d := s.dev; let w : RegWrite := { who := who, enables := 0xF, value := v }
    let own (o : Word) (e : Dev) : Prop := exec (.registerWrite .bar0 o w) s = .next { s with dev := e }
    (HostLands 0xFF w d →
      own 0x30004 { d with power := { d.power with wakeEn := v.extractLsb' 0 6, engineMask := v.extractLsb' 16 16 } } ∧
      own 0x30008 { d with power := { d.power with wakeTimer := v.toNat % 2 ^ 24 } } ∧
      own 0x3000C { d with power := { d.power with retDepot := d.power.retDepot.extractLsb' 32 32 ++ v } } ∧
      own 0x30010 { d with power := { d.power with retDepot := v ++ d.power.retDepot.extractLsb' 0 32 } } ∧
      own 0x30014 { d with power := { d.power with connRetain := v.getLsbD 0 } } ∧
      own 0x10 { d with fw := { d.fw with fallback := d.fw.fallback && !v.getLsbD 5 } }) ∧
    (HostLands 1 w d →
      own 0x50F08 { d with meas := { d.meas with snapPeriod := min 100000 (v.toNat % 2 ^ 17)
                                                 periodsTaken := nowMs d / min 100000 (v.toNat % 2 ^ 17) } } ∧
      (∃ t, exec (.registerWrite .bar0 (0x20010 + BitVec.ofNat 32 (4 * t5.val)) w) s = .next t ∧ t.pending = s.pending ∧
        t.dev = { d with ec := { d.ec with modr := t.dev.ec.modr } } ∧ (∀ k : Fin 5, k ≠ t5 → modOf t.dev k = modOf d k) ∧
        (modOf t.dev t5).toNat % 256 = max 1 (v.toNat % 256) ∧ (modOf t.dev t5).toNat / 256 % 2 ^ 16 = v.toNat / 256 % 2 ^ 16) ∧
      own 0x60028 { d with mem := { d.mem with ceThreshold := v.toNat % 65536 } } ∧
      own 0x60008 { d with mem := { d.mem with flipMask := d.mem.flipMask.extractLsb' 32 40 ++ v } }) ∧
    (writeLands w d = true → o.toNat % 4 = 0 → blockDown d (windowBlock o.toNat) = true → inDiag o.toNat = false → own o (noteDown (windowBlock o.toNat) d)) ∧
    (writeLands w d = true → o.toNat % 4 = 0 → inDiag o.toNat = true → diagLocked d = true → own o (noteDown 0xFE d)) ∧
    (smpAnswers d = true → inDiag o.toNat = false →
      (∃ u t, exec (.registerWrite .bar0 o { who := .smp, enables := 0xF, value := v }) { s with dev := { d with mail := { d.mail with smpPointer := o } } } = .next u ∧
        exec (.smpWrite o (le 4 v.toNat)) s = .next t ∧ t.pending = s.pending ∧ t.dev = { u.dev with mail := { u.dev.mail with smpPointer := o + 4 } }) ∧
      (d.mail.smpPointer = o → o.toNat % 4 = 0 → ∃ t, exec (.smpRead 1) s = .next t ∧ t.pending = s.pending ∧ t.dev.mail.smpPointer = o + 4 ∧
        t.dev.mail.out = [if (downAt o.toNat .smp d).isSome then downValue else regValue o.toNat d] ∧
        t.dev.tx = d.tx ∧ t.dev.rx = d.rx ∧ t.dev.slots = d.slots ∧ t.dev.power = d.power ∧ t.dev.brakes = d.brakes)) ∧
    (smpAnswers d = true → exec (.smpPointer o) s = .next { s with dev := { d with mail := { d.mail with smpPointer := o } } }) ∧
    (smpAnswers d = false → exec (.smpPointer o) s = .next s ∧ exec (.smpRead 1) s = .next s ∧ exec (.smpWrite o (le 4 v.toNat)) s = .next s)

/-- POWER_ON_RESET in any state but OFF, and in OFF once the WAKE pin has risen, and DEVICE_RESET in any state but OFF, answer a
next state that is the reset state in every part except the trust state, the pins, the sampled strap and the engines' pin mute: the
SVN floor and the tag area with its locks stay, IDENTITY_ERASED stays, or is set where ZEROIZE_N is low at its end; the vault is
empty; brakes, locks, logs, fill map, memory, counters, connection memory and DEVTIME are those of reset, TRIP_LATCHED is clear.
DEVICE_RESET in OFF changes nothing, nor does POWER_ON_RESET there before WAKE. -/
def Obligations.AResetKeepsOnlyTheOneTimeMemory : Prop :=
  ∀ (strap : BitVec 3) (zl : Bool) (s : State), let d := s.dev
    let resets (i : Instr) : Prop := ∃ t, exec i s = .next t ∧ t.pending = s.pending ∧
      t.dev.brakes = {} ∧ t.dev.power = {} ∧ t.dev.fw = Dev.reset.fw ∧ t.dev.mem = Dev.reset.mem ∧ t.dev.links = [] ∧
      (zl = false → t.dev.meas = {}) ∧ t.dev.clock = Dev.reset.clock ∧ t.dev.time = Dev.reset.time ∧ t.dev.slots = Dev.reset.slots ∧
      t.dev.twins = Dev.reset.twins ∧ t.dev.rx = Dev.reset.rx ∧ t.dev.tx.coaches = Dev.reset.tx.coaches ∧ t.dev.pool = Dev.reset.pool ∧
      t.dev.bench = Dev.reset.bench ∧ t.dev.mail.smpStrap = strap ∧ t.dev.mail.boxes = [] ∧ t.dev.mail.order = [] ∧
      t.dev.trust.svnFloor = d.trust.svnFloor ∧ t.dev.trust.identityErased = (d.trust.identityErased || zl) ∧
      t.dev.trust.tagLines = d.trust.tagLines ∧ t.dev.trust.tagWrites = d.trust.tagWrites ∧ t.dev.trust.tagLocked = d.trust.tagLocked ∧
      (∀ k : Fin 4096, (vaultEntry t.dev k).used = false) ∧
      (∀ n : Engine, engTx t.dev n = { mute := (if d.pins.txmuteLow then 1 else 0) }) ∧
      t.dev.pins = { perstLow := d.pins.perstLow, txmuteLow := d.pins.txmuteLow, testmode := d.pins.testmode, zeroizeLow := zl }
    (d.power.state ≠ .off ∨ d.pins.wakeSeen = true → resets (.powerOnReset strap zl)) ∧
    (d.power.state = .off → d.pins.wakeSeen = false → exec (.powerOnReset strap zl) s = .next s) ∧
    (d.power.state ≠ .off → resets (.deviceReset strap zl)) ∧
    (d.power.state = .off → exec (.deviceReset strap zl) s = .next s)

/-- In every step: unless the command in front is a host's write of a brake register or a reset, the limits, the host freeze and the
locks of the brake block are the same after it; unless it is a reset, SVN_COMMIT, TAG_LOCK or ZEROIZE_N, so are IDENTITY_ERASED, the
SVN floor and the tag locks; and in every step whatever IDENTITY_ERASED stays set, the SVN floor does not fall and no tag lock is
lifted. No mailbox command, no firmware write and no event of the line reaches a brake. -/
def Obligations.LimitsMoveOnlyByTheHost : Prop :=
  ∀ s t : State, step s = .next t → let front (p : Instr → Bool) : Bool := s.pending.head?.any p
    (front hostBrakeWrite = false → front isReset = false → limits t.dev = limits s.dev) ∧
    (front permanentChange = false → front isReset = false → permanent t.dev = permanent s.dev) ∧
    (s.dev.trust.identityErased = true → t.dev.trust.identityErased = true) ∧
    s.dev.trust.svnFloor.toNat ≤ t.dev.trust.svnFloor.toNat ∧
    (∀ l, s.dev.trust.tagLocked.getLsbD l = true → t.dev.trust.tagLocked.getLsbD l = true)

/-- If LAUNCH_CAP of every engine lies in 1 to 63, its airtime in 1 to 100 and its depth in 2 to 30, every bias window has LOW at
most HIGH and HIGH at most 14,000 mV, every slew and the swap interval lie in 1 to 1,000 and the key ceiling in its range, then so
it is after any step. -/
def Obligations.LimitsStayInTheirRanges : Prop :=
  ∀ s t : State, LimitsFit s.dev.brakes → step s = .next t → LimitsFit t.dev.brakes

/-- The brake registers as they stand after reset meet the invariant of the ranges. -/
def Obligations.ResetLimitsAreInRange : Prop :=
  LimitsFit State.reset.dev.brakes

/-- A request that firmware takes, to a block with power, with no freeze in force (COACH_EVAL and ENG_TX_STATUS: freeze or not), and
that none of the command's own checks refuses, is answered OK at once. ENG_TX_CONFIG then leaves RATE, PEAK, CARRIER, NL, CD, FREQ
and the laser threshold of the request in the engine; COACH_CONFIG with APPLY_MODE 0 leaves the request's configuration in force, or
waiting for the frame boundary of a coach whose frames run, and with APPLY_MODE 1 its SLOTS and COACH_POWER waiting for the next
swap; COACH_EVAL changes nothing; HITCH_CONFIG leaves the request's fields in the hitch; TX_PREEMPH with a named DAC leaves its
MODE, SKEW, BOOST and taps and changes nothing else; BIAS_CONFIG with a named output leaves its MODE, and SETPOINT or DITHER where
the mode carries them; ENG_TX_STATUS answers the engine's status and changes only what CLEAR_CAUSE and the free value of the CLIP
reading name. -/
def Obligations.TransmitCommandsComplete : Prop :=
  ∀ (mb : Mailbox) (b : List Byte) (s : State), let d := s.dev
    (Asked mb 0x0201 b d → firstDown d (engineBlock (u8 b 0)) = none → freezeOn d = false → firstOf (engTxChecks d b) = none →
      let e := engTxRun b d; let x := engTx e (u8 b 0)
      Completes (.engTxConfig mb) mb (zeros 4) e s ∧ x.rate = u8 b 2 ∧ x.peak = u8 b 3 ∧ x.carrier = u8 b 4 ∧ x.cd = s32 b 8 ∧
        x.freq = s32 b 12 ∧ x.laserThreshold = s16 b 16) ∧
    (Asked mb 0x0202 b d → firstDown d (1 :: coachBlock (u16 b 0)) = none → freezeOn d = false → firstOf (coachChecks d b) = none →
      let e := coachApply b d; let x := coachTx e (u16 b 0)
      Completes (.coachConfig mb) mb (coachReply d b) e s ∧
        (if u8 b 5 = 1 then x.pending = some (u8 b 2, s16 b 6) ∧ x.cfg = (coachTx d (u16 b 0)).cfg
         else if (coachTx d (u16 b 0)).framesRun then x.atBoundary = some (coachCfgOf b) else x.cfg = coachCfgOf b)) ∧
    (Asked mb 0x0203 b d → firstDown d (1 :: coachBlock (u16 b 0)) = none → firstOf (coachChecks d b) = none →
      Completes (.coachEval mb) mb (coachReply d b) d s) ∧
    (Asked mb 0x0204 b d → firstDown d (hitchBlocks (u8 b 0)) = none → freezeOn d = false → firstOf (hitchChecks d b) = none →
      let e := noteHitchRx (u8 b 0) (hitchRun b d); let x := hitchOf e (u8 b 0)
      Completes (.hitchConfig mb) mb (zeros 4) e s ∧ x.txEnable = flag b 1 0 ∧ x.rxEnable = flag b 1 1 ∧ x.spacing = s32 b 4 ∧
        x.spans = u16 b 8 ∧ x.strength = u8 b 10 ∧ x.dispersion = u32 b 12) ∧
    (Asked mb 0x0205 b d → firstDown d (engineBlock (u8 b 0)) = none → freezeOn d = false → u8 b 0 ≤ 15 → u8 b 1 ≤ 3 → u8 b 2 ≤ 2 →
      (u8 b 2 = 1 → u16 b 4 ≤ 120) → -256 ≤ s16 b 6 → s16 b 6 ≤ 256 →
      let i := 4 * u8 b 0 + u8 b 1
      Completes (.txPreemph mb) mb (zeros 4) (setDac i (preemphSet b (dacOf d i)) d) s) ∧
    (Asked mb 0x0206 b d → firstDown d (6 :: engineBlock (u8 b 0)) = none → freezeOn d = false → u8 b 0 ≤ 15 → u8 b 1 ≤ 5 →
      u8 b 2 ≤ 2 → (u8 b 2 = 0 → 10 ≤ u16 b 6 ∧ u16 b 6 ≤ 200) →
      (u8 b 2 = 2 → biasLow d (6 * u8 b 0 + u8 b 1) ≤ u16 b 4 ∧ u16 b 4 ≤ biasHigh d (6 * u8 b 0 + u8 b 1) ∧ u16 b 4 ≤ 14000) →
      ∃ e, Completes (.biasConfig mb) mb (zeros 4) e s ∧
        let x := biasOf e (6 * u8 b 0 + u8 b 1)
        x.mode = biasMode (u8 b 2) ∧ (u8 b 2 = 2 → x.setpoint = u16 b 4) ∧ (u8 b 2 = 0 → x.dither = u16 b 6)) ∧
    (Asked mb 0x0207 b d → firstDown d (engineBlock (u8 b 0)) = none → u8 b 0 ≤ 15 →
      Completes (.engTxStatus mb) mb (engTxStatusBody (u8 b 0) (drawFree d).1 d)
        (clearCause (.engTx (u8 b 0)) (flag b 1 0) (drawFree d).2) s)

/-- A request that firmware takes, to an engine with power, with no freeze in force (the two status requests: freeze or not) and its
fields in their ranges, is answered OK at once. ENG_RX_CONFIG then leaves ENABLE, the gain mode, RECCLK_COACH, the RMS target, the
loss threshold and the warm hold of the request in the engine, and the request's gain where the mode is manual; COACH_RX_CONFIG the
request's configuration in the coach, answered with its H and rates; RX_EQ_CONFIG the request's search window and equaliser settings
in the coach, and nothing else; RX_REACQUIRE sends the named coaches back; the status requests answer the status of the engine or
coach and change only the causes CLEAR_CAUSE names and the numbering of free values. -/
def Obligations.ReceiveCommandsComplete : Prop :=
  ∀ (mb : Mailbox) (b : List Byte) (s : State), let d := s.dev
    (Asked mb 0x0221 b d → firstDown d (engineBlock (u8 b 0)) = none → freezeOn d = false → u8 b 0 ≤ 15 → u8 b 2 ≤ 15 ∨ u8 b 2 = 0xFF →
      8 ≤ u8 b 3 → u8 b 3 ≤ 64 → (flag b 1 1 = true → u16 b 4 ≤ 400) → -3000 ≤ s16 b 6 → s16 b 6 ≤ -500 → u16 b 8 ≤ 60000 →
      let e := engRxRun b d; let x := engRx e (u8 b 0)
      Completes (.engRxConfig mb) mb (zeros 4) e s ∧ x.enable = flag b 1 0 ∧ x.gainManual = flag b 1 1 ∧ x.recclk = u8 b 2 ∧
        x.rms = u8 b 3 ∧ (flag b 1 1 = true → x.gain = u16 b 4) ∧ x.losThreshold = s16 b 6 ∧ x.warmHold = u16 b 8) ∧
    (Asked mb 0x0222 b d → firstDown d (coachBlock (u16 b 0)) = none → freezeOn d = false → u16 b 0 ≤ 255 → 1 ≤ u8 b 2 →
      u8 b 2 ≤ 40 → u8 b 3 ≤ 2 → u8 b 4 = 3 ∨ (u8 b 4 = 2 ∧ u8 b 3 = 1 ∧ hitched d (engineOf (u16 b 0)) = false) → u16 b 6 ≠ 0 →
      u16 b 8 ≠ 0 → u16 b 10 ≤ 150 → entropyOver (engTx d (engineOf (u16 b 0))).rate (u8 b 3) (u8 b 2) = false →
      let e := applyRxCfg (u16 b 0) (rxCfgOf b) (setCoachRx (u16 b 0) { coachRx d (u16 b 0) with hostWrote := true } d)
      let x := coachRx e (u16 b 0)
      Completes (.coachRxConfig mb) mb (coachRxReply d b) e s ∧ x.enable = flag b 5 0 ∧ x.slots = u8 b 2 ∧ x.slotsNow = u8 b 2 ∧
        x.profile = u8 b 3 ∧ x.version = u8 b 4 ∧ x.seedX = u16 b 6 ∧ x.seedY = u16 b 8 ∧ x.locThreshold = u16 b 10) ∧
    (Asked mb 0x0223 b d → firstDown d (coachBlock (u16 b 0)) = none → freezeOn d = false → u16 b 0 ≤ 255 → u8 b 2 ≤ 3 →
      1 ≤ u16 b 12 → u16 b 12 ≤ 64 → u32 b 16 ≤ 4000 →
      mag (s32 b 4) + (if u32 b 8 = 0xFFFFFFFF then cdRange (engTx d (engineOf (u16 b 0))).rate else u32 b 8) ≤
        cdRange (engTx d (engineOf (u16 b 0))).rate →
      let x : RxEq := { mimo := u8 b 2, nl := u8 b 3, centre := s32 b 4, span := u32 b 8, spans := u16 b 12, dispersion := u32 b 16 }
      Completes (.rxEqConfig mb) mb (zeros 4) { d with rx := { d.rx with eq := tabPut (fun _ => {}) d.rx.eq (u16 b 0) x } } s) ∧
    (Asked mb 0x0224 b d → firstDown d (engineBlock (u8 b 0)) = none → freezeOn d = false → u8 b 0 ≤ 15 →
      Completes (.rxReacquire mb) mb (zeros 4) ((List.range 16).foldl
        (fun d k => if (u16 b 2).testBit k then reacquire (flag b 1 0) (16 * u8 b 0 + k) d else d) d) s) ∧
    (Asked mb 0x0225 b d → firstDown d (engineBlock (u8 b 0)) = none → u8 b 0 ≤ 15 →
      let m := drawFree d; let f := drawFree m.2
      Completes (.engRxStatus mb) mb (engRxStatusBody (u8 b 0) m.1 f.1 d) (clearCause (.engRx (u8 b 0)) (flag b 1 0) f.2) s) ∧
    (Asked mb 0x0226 b d → firstDown d (coachBlock (u16 b 0)) = none → u16 b 0 ≤ 255 →
      Completes (.coachRxStatus mb) mb (coachRxStatusBody (u16 b 0) d)
        (clearCause (.coachRx (u16 b 0)) (flag b 2 0) { d with free := d.free + 10 }) s)

/-- A request that firmware takes, with no freeze in force (the two status requests: freeze or not), the pool with power and its
fields in their ranges, is answered OK at once. POOL_CONFIG leaves the request's configuration waiting for the epoch boundary and
nothing else changed, POOL_COACH_CONFIG the coach's cap; the status requests answer the pool's or the coach's status and change only
what CLEAR_CAUSE names. -/
def Obligations.PoolCommandsComplete : Prop :=
  ∀ (mb : Mailbox) (b : List Byte) (s : State), let d := s.dev
    (Asked mb 0x0241 b d → blockDown d 2 = false → freezeOn d = false → u8 b 0 ≤ 2 → u8 b 1 ≤ 2 → 1 ≤ u8 b 3 → u8 b 3 ≤ 64 →
      1 ≤ u16 b 4 → u16 b 4 ≤ 1000 →
      let q : PoolCfg := { minPoint := u8 b 0, surgeMode := u8 b 1, hopeless := u8 b 2, onEpochs := u8 b 3, hold := u16 b 4 }
      Completes (.poolConfig mb) mb (zeros 4) { d with pool := { d.pool with cfgNext := q } } s) ∧
    (Asked mb 0x0242 b d → blockDown d 2 = false → freezeOn d = false → u16 b 0 ≤ 255 → u8 b 2 ∈ [4, 8, 12, 16, 20, 24] →
      ∃ e, Completes (.poolCoachConfig mb) mb (zeros 4) e s ∧ e = { d with pool := { d.pool with capsNext := e.pool.capsNext } } ∧
        ∀ c, tabGet (fun _ => 24) e.pool.capsNext c = if c = u16 b 0 then u8 b 2 else tabGet (fun _ => 24) d.pool.capsNext c) ∧
    (Asked mb 0x0243 b d → blockDown d 2 = false →
      Completes (.poolStatus mb) mb (poolStatusBody d) (clearCause .pool (flag b 0 0) d) s) ∧
    (Asked mb 0x0244 b d → blockDown d 2 = false → u16 b 0 ≤ 255 →
      Completes (.poolCoachStatus mb) mb (poolCoachBody (u16 b 0) d) (clearCause (.poolCoach (u16 b 0)) (flag b 2 0) d) s)

/-- A request that firmware takes, with the framer's block with power, with no freeze in force (the three reading requests: freeze
or not) and its fields in their ranges, is answered OK at once. FRAME_CONFIG leaves the request's trace values and TIM enable in the
coach and changes nothing else; DEFECT_CONFIG leaves the groups it names written in the entity it names; PM_CONFIG leaves DAY_START
waiting for the next rollover and nothing else changed; PM_CLEAR leaves the named current bins of one entity cleared, the others as
they were; the status requests answer their body and change only what CLEAR_CAUSE names, and PM_READ, once the bins are cleared
after power-on, changes nothing. -/
def Obligations.FrameDefectAndMonitoringCommandsComplete : Prop :=
  ∀ (mb : Mailbox) (b : List Byte) (s : State), let d := s.dev
    (Asked mb 0x0301 b d → blockDown d 1 = false → freezeOn d = false → u16 b 0 ≤ 255 →
      let c := u16 b 0
      Completes (.frameConfig mb) mb (zeros 4) (setFrameTx c { frameTx d c with trace := u16 b 4, hostTrace := true }
        (setFrameRx c { frameRx d c with timEnable := flag b 2 0, expTrace := u16 b 6, hostTrace := true } d)) s) ∧
    (Asked mb 0x0302 b d → blockDown d 1 = false → u16 b 0 ≤ 255 →
      Completes (.frameStatus mb) mb (frameStatusBody (u16 b 0) d) (clearCause (.frameCoach (u16 b 0)) (flag b 2 0) d) s) ∧
    (Asked mb 0x0311 b d → blockDown d 1 = false → freezeOn d = false → firstOf (defectConfigService.checks d b) = none →
      u16 b 2 ≠ 0xFFFF → ∃ e, Completes (.defectConfig mb) mb (zeros 4) e s ∧
        let x := entityOf e (u8 b 0) (u16 b 2); let y := writeGroups b (entityOf d (u8 b 0) (u16 b 2))
        x.timActDis = y.timActDis ∧ x.sdThreshold = y.sdThreshold ∧ x.sdM = y.sdM ∧ x.sfM = y.sfM ∧ x.sfRatio = y.sfRatio ∧
        ∀ i, (defectOf x i).setTime = (defectOf y i).setTime ∧ (defectOf x i).clearTime = (defectOf y i).clearTime) ∧
    (Asked mb 0x0312 b d → blockDown d 1 = false → u8 b 0 ≤ 1 → u16 b 2 < entityCount (u8 b 0) →
      Completes (.defectStatus mb) mb (defectStatusBody (u8 b 0) (u16 b 2) d)
        (clearCause (if u8 b 0 = 0 then .defectCoach (u16 b 2) else .defectQueue (u16 b 2)) (flag b 1 0) d) s) ∧
    (Asked mb 0x0313 b d → blockDown d 1 = false → freezeOn d = false → u8 b 0 ≤ 95 →
      Completes (.pmConfig mb) mb (zeros 4) { d with defects := { d.defects with dayStartNext := u8 b 0 } } s) ∧
    (Asked mb 0x0314 b d → blockDown d 1 = false → u8 b 0 ≤ 1 → u8 b 1 ≤ 34 → u16 b 2 < entityCount (u8 b 0) →
      d.defects.cleared = true → Completes (.pmRead mb) mb (pmReadBody (u8 b 0) (u8 b 1) (u16 b 2) d) d s) ∧
    (Asked mb 0x0315 b d → blockDown d 1 = false → freezeOn d = false → u8 b 0 ≤ 1 → u16 b 2 < entityCount (u8 b 0) →
      ∃ e, Completes (.pmClear mb) mb (zeros 4) e s ∧ e = { d with defects := e.defects } ∧
        let x := entityOf d (u8 b 0) (u16 b 2)
        entityOf e (u8 b 0) (u16 b 2) = { x with cur15 := (if flag b 1 0 then clearedBin x.cur15 else x.cur15), cur24 := (if flag b 1 1 then clearedBin x.cur24 else x.cur24) } ∧
        ∀ t n, t ≤ 1 → (t, n) ≠ (u8 b 0, u16 b 2) → entityOf e t n = entityOf d t n)

/-- A request that firmware takes, its blocks with power, with no freeze in force (the reading requests: freeze or not) and refused
by none of the command's own checks, is answered OK at once. QUEUE_CONFIG leaves the request's configuration in the queue of its
direction; SLOT_WRITE the entries written one after another in the standby page, SLOT_COPY the active page's entries in it;
SLOT_READ answers the page's entries; SLOT_ARM arms every engine of the mask, RX_SLOT_ARM every coach of its mask at its frame,
SLOT_CANCEL leaves the engine or its coaches disarmed; QUEUE_FLUSH answers how many words it dropped and leaves nothing of the
transmit queue behind in the spill region; SPILL_CONFIG leaves the region and the enable of the request; the status requests change
only what CLEAR_CAUSE names. -/
def Obligations.SlotAndQueueCommandsComplete : Prop :=
  ∀ (mb : Mailbox) (b : List Byte) (s : State), let d := s.dev
    (Asked mb 0x0401 b d → blockDown d 1 = false → freezeOn d = false → firstOf (queueConfigService.checks d b) = none →
      ∃ e, Completes (.queueConfig mb) mb (zeros 4) e s ∧ cfgOf e (u16 b 0) (u8 b 2) = queueCfgOf b) ∧
    (Asked mb 0x0402 b d → blockDown d 1 = false → u16 b 0 ≤ 4095 → u8 b 2 ≤ 1 →
      Completes (.queueStatus mb) mb (queueStatusBody (u16 b 0) (u8 b 2) d) (clearCause (.queue (u16 b 0)) (flag b 3 0) d) s) ∧
    (Asked mb 0x0403 b d → firstDown d (pageTargets b) = none → freezeOn d = false → rangeOk b = true →
      (entriesIn b).all (entryOk (u8 b 0 == 1)) = true → pageArmed d b = false →
      ∃ e, Completes (.slotWrite mb) mb (zeros 4) e s ∧ ∀ i v, (entriesIn b)[i]? = some v →
        tabGet (fun _ => (0 : Word)) (pageOf e b (standby1 d b)) (pageBase b (u16 b 2) + u16 b 4 + i) = v) ∧
    (Asked mb 0x0404 b d → firstDown d (pageTargets b) = none → rangeOk b = true → u8 b 1 ≤ 1 →
      let t := pageOf d b (if u8 b 1 = 1 then standby1 d b else !standby1 d b)
      Completes (.slotRead mb) mb (zeros 4 ++ (List.range (u16 b 6)).flatMap
        (fun i => le 4 (tabGet (fun _ => (0 : Word)) t (pageBase b (u16 b 2) + u16 b 4 + i)).toNat)) d s) ∧
    (Asked mb 0x0405 b d → firstDown d (pageTargets b) = none → freezeOn d = false → u8 b 0 ≤ 1 →
      u16 b 2 ≤ (if u8 b 0 = 0 then 15 else 255) → pageArmed d b = false →
      ∃ e, Completes (.slotCopy mb) mb (zeros 4) e s ∧ ∀ i, i < pageSize b → let j := pageBase b (u16 b 2) + i
        tabGet (fun _ => (0 : Word)) (pageOf e b (standby1 d b)) j = tabGet (fun _ => (0 : Word)) (pageOf d b (!standby1 d b)) j) ∧
    (Asked mb 0x0406 b d → firstDown d (1 :: (maskEngines (u16 b 0)).map (0x10 + ·)) = none → freezeOn d = false →
      firstOf (slotArmChecks d b) = none → let t := swapInstant d (u16 b 2) (u64 b 6)
      Completes (.slotArm mb) mb (zeros 4) ((maskEngines (u16 b 0)).foldl (fun d n => armEngine (u16 b 0) t n d) d) s) ∧
    (Asked mb 0x0407 b d → firstDown d (1 :: engineBlock (u8 b 0)) = none → freezeOn d = false →
      firstOf (rxSlotArmService.checks d b) = none → ∃ e, Completes (.rxSlotArm mb) mb (zeros 4) e s ∧
        ∀ c, coachSwap e c = if c ∈ rxMask b then { coachSwap d c with armed := some (rxArmFrame b c), done := false } else coachSwap d c) ∧
    (Asked mb 0x0408 b d → firstDown d (1 :: engineBlock (u8 b 1)) = none → freezeOn d = false →
      firstOf (slotCancelService.checks d b) = none → ∃ e, Completes (.slotCancel mb) mb (zeros 4) e s ∧
        if u8 b 0 = 0 then ∀ n ∈ swapEngines d (u8 b 1), (engineSwap e n).armed = none
        else ∀ c ∈ coachesOf (u8 b 1), (coachSwap e c).armed = none) ∧
    (Asked mb 0x0409 b d → firstDown d (1 :: engineBlock (u8 b 0)) = none → u8 b 0 ≤ 15 →
      Completes (.slotSwapStatus mb) mb (slotSwapBody (u8 b 0) d) d s) ∧
    (Asked mb 0x040A b d → u8 b 0 = 0 → blockDown d 1 = false → freezeOn d = false → u8 b 1 ≤ 1 → u16 b 2 ≤ 4095 →
      let r := if u8 b 1 = 0 then flushTx (u16 b 2) d else flushRx (u16 b 2) d
      Completes (.queueFlush mb) mb (zeros 4 ++ le 8 r.1) r.2 s ∧
        (u8 b 1 = 0 → (txQueue r.2 (u16 b 2)).spill = [] ∧ (txQueue r.2 (u16 b 2)).late = [])) ∧
    (Asked mb 0x040A b d → u8 b 0 = 1 → blockDown d 1 = false → blockDown d 5 = false → freezeOn d = false → 1 ≤ u8 b 3 →
      u8 b 2 + u8 b 3 ≤ hbmGib → u8 b 3 ≤ 64 → let r := some (u8 b 2, u8 b 3)
      regionsOverlap r d.twins.yard = false → r = d.slots.spillRegion ∨ (d.slots.spillEnable = false ∧ spillHeld d = false) →
      (flag b 1 0 = true → filled d r = true) → ∃ e, Completes (.spillConfig mb) mb (zeros 4) e s ∧
        e.slots.spillEnable = flag b 1 0 ∧ e.slots.spillRegion = r)

/-- A request that firmware takes, to a client tile with power, with no freeze in force (CLI_LANE_STATUS: freeze or not) and refused
by none of its checks, is answered OK at once. CLI_PORT_CONFIG with PROTOCOL 0 leaves the group as at reset, else with the request's
fields; CLI_LANE_CONFIG leaves the request's adaptation mode, inversions and FFE in the lane, CLI_LANE_TEST its pattern and loop;
CLI_LANE_STATUS answers the lane's status, restarts the lowest eye score from the present one and changes only that and what
CLEAR_CAUSE names; CLI_RECCLK leaves the request's lanes selected. -/
def Obligations.ClientCommandsComplete : Prop :=
  ∀ (mb : Mailbox) (b : List Byte) (s : State), let d := s.dev
    (Asked mb 0x0501 b d → firstDown d (laneBlock (u16 b 0)) = none → freezeOn d = false →
      firstOf (cliPortConfigService.checks d b) = none → ∃ e, Completes (.cliPortConfig mb) mb (zeros 4) e s ∧
        let g := group e (u16 b 0); let q := groupCfg b
        if q.protocol = 0 then g = {} else g.protocol = q.protocol ∧ g.enable = q.enable ∧ g.width = q.width ∧ g.rateCap = q.rateCap ∧
          g.speed = q.speed ∧ g.maxFrame = q.maxFrame ∧ g.first = q.first ∧ g.count = q.count) ∧
    (Asked mb 0x0502 b d → firstDown d (laneBlock (u16 b 0)) = none → freezeOn d = false → u16 b 0 ≤ 127 → u8 b 2 ≤ 1 →
      ffeOk (ffeOf b) = true → ∃ e, Completes (.cliLaneConfig mb) mb (zeros 4) e s ∧ let x := laneOf e (u16 b 0)
        x.adaptMode = u8 b 2 ∧ x.txInvert = flag b 3 2 ∧ x.rxInvert = flag b 3 3 ∧ x.ffe = ffeOf b) ∧
    (Asked mb 0x0503 b d → firstDown d (laneBlock (u16 b 0)) = none → u16 b 0 ≤ 127 → let l := u16 b 0
      Completes (.cliLaneStatus mb) mb (laneStatusBody l d)
        (clearCause (.lane l) (flag b 2 0) (setLane l { laneOf d l with eyeLow := (laneOf d l).eye } d)) s) ∧
    (Asked mb 0x0504 b d → firstDown d (laneBlock (u16 b 0)) = none → freezeOn d = false → u16 b 0 ≤ 127 → u8 b 2 ≤ 3 →
      ∃ e, Completes (.cliLaneTest mb) mb (zeros 4) e s ∧
        (laneOf e (u16 b 0)).loop = u8 b 2 ∧ (laneOf e (u16 b 0)).pattern = u8 b 3) ∧
    (Asked mb 0x0505 b d → freezeOn d = false → (∀ l ∈ recclkOf b, (l ≤ 127 ∧ blockDown d (0x20 + l / 64) = false) ∨ l = 0xFFFF) →
      ∃ e, Completes (.cliRecclk mb) mb (zeros 4) e s ∧ e.clients.recclk = recclkOf b)

/-- A request that firmware takes, with the line cipher's block with power, is answered OK at once where no freeze is in force (of
the first two), no brake or ceiling stands against it and its fields are in their ranges; an accepted CIPHER_JOB enters the job
engine, which answers later. CIPHER_CONFIG leaves the request's limit and warning in the coach's side and its mode waiting,
KEY_MISMATCH's limit on the receive side; CIPHER_KEY_LOAD leaves the vault key's key and salt in the slot with the request's start,
as an armed flip of the key regions lets it stand; CIPHER_STATUS changes only what CLEAR_CAUSE names; CIPHER_CTX frees the context
slot it names, or forgets the serial it names; CIPHER_JOB leaves the job last in the engine's queue. -/
def Obligations.CipherCommandsComplete : Prop :=
  ∀ (mb : Mailbox) (b : List Byte) (s : State), let d := s.dev
    (Asked mb 0x0601 b d → blockDown d 1 = false → freezeOn d = false → u16 b 0 ≤ 255 → u8 b 2 ≤ 1 → u8 b 3 ≤ 1 →
      2 ^ 20 ≤ u64 b 4 → u64 b 4 ≤ 2 ^ 32 → 50 ≤ u8 b 12 → u8 b 12 ≤ 99 → (u8 b 2 = 1 → 1 ≤ u16 b 14 ∧ u16 b 14 ≤ 1024) →
      u64 b 4 ≤ ceiling d → (u8 b 3 = 0 → cipherBrake d (u16 b 0) (u8 b 2) = false) →
      ∃ e, Completes (.cipherConfig mb) mb (zeros 4) e s ∧
        let t := cipherTx e (u16 b 0); let r := cipherRx e (u16 b 0)
        (u8 b 2 = 0 → t.modeNext = (u8 b 3 == 1) ∧ t.limit = u64 b 4 ∧ t.warn = u8 b 12 ∧ r = cipherRx d (u16 b 0)) ∧
        (u8 b 2 = 1 → r.modeNext = (u8 b 3 == 1) ∧ r.limit = u64 b 4 ∧ r.warn = u8 b 12 ∧ r.mismatch = u16 b 14 ∧
          t = cipherTx d (u16 b 0))) ∧
    (Asked mb 0x0602 b d → blockDown d 1 = false → freezeOn d = false → firstOf (cipherKeyLoadService.checks d b) = none →
      ∃ i e, hostKey d (u64 b 8) 2 = some i ∧ Completes (.cipherKeyLoad mb) mb (zeros 4) e s ∧ let x := vaultEntry d i
        (u8 b 2 = 0 → cipherTx e (u16 b 0) =
          putTxSlot (loadSlot d b) (hitKey (flipMaskFor 5 d) (keySlotOf x (u64 b 16) (cipherTx d (u16 b 0)).limit)) (cipherTx d (u16 b 0))) ∧
        (u8 b 2 = 1 → cipherRx e (u16 b 0) =
          putRxSlot (u8 b 3) (hitKey (flipMaskFor 5 d) (keySlotOf x (u64 b 16) (cipherRx d (u16 b 0)).limit)) (cipherRx d (u16 b 0)))) ∧
    (Asked mb 0x0603 b d → blockDown d 1 = false → u16 b 0 ≤ 255 →
      Completes (.cipherStatus mb) mb (cipherStatusBody (u16 b 0) d) (clearCause (.cipherCoach (u16 b 0)) (flag b 2 0) d) s) ∧
    (Asked mb 0x0604 b d → blockDown d 1 = false → firstOf (jobChecks d b) = none →
      ∃ e j, Starts (.cipherJob mb) mb e s ∧ e.cipher.jobs = d.cipher.jobs ++ [j] ∧ j.mailbox = some mb.val ∧ j.priority = u8 b 2) ∧
    (Asked mb 0x0605 b d → blockDown d 1 = false → u8 b 0 = 0 → u8 b 1 ≤ 7 → (heldIdle d (u8 b 1)).isSome = true →
      Completes (.cipherCtx mb) mb (zeros 4) (putContext (u8 b 1) none d) s) ∧
    (Asked mb 0x0605 b d → blockDown d 1 = false → u8 b 0 = 1 → u64 b 4 ∈ d.cipher.serials →
      Completes (.cipherCtx mb) mb (zeros 4) { d with cipher := { d.cipher with serials := d.cipher.serials.erase (u64 b 4) } } s)

/-- A request that firmware takes, with the vault's block with power where it needs it, and that no check refuses, is answered OK at
once. KEY_GENERATE, KEY_IMPORT and KEK_ESTABLISH answer the handle of an entry that was free and now holds the new key; KEY_EXPORT
answers the wrapped key and counts the use of the wrapping key; KEY_DESTROY leaves the handle naming nothing; KEY_POLICY leaves the
policy in force or waiting for the partner; KA_START starts or queues an attempt where none is in progress; ZEROIZE erases;
TAG_WRITE leaves the line's 64 bytes and TAG_LOCK its lock; SVN_COMMIT raises the floor to the running image's SVN; SEC_CERT_READ
and KA_STATUS answer their bodies and SEC_ATTEST a report and its signature. -/
def Obligations.TrustCommandsComplete : Prop :=
  ∀ (mb : Mailbox) (b : List Byte) (s : State), let d := s.dev
    (Asked mb 0x0621 b d → u8 b 0 ≤ 5 → u32 b 8 ≤ 4000 →
      Completes (.secCertRead mb) mb (zeros 4 ++ le 4 (Config.certLength (u8 b 0)).toNat ++ certPart b) d s) ∧
    (Asked mb 0x0622 b d → u8 b 0 = 0 → d.trust.identityErased = false → let r := reportBytes d (part b 8 32)
      ∃ e, Completes (.secAttest mb) mb (zeros 4 ++ r ++ signature Config.ecdsaSign r 0 96) e s ∧
        e = { d with trust := { d.trust with reports := e.trust.reports, reportCount := d.trust.reportCount + 1 } } ∧
        e.trust.reports.head? = some { ident := d.trust.reportCount, bytes := r }) ∧
    (Asked mb 0x0622 b d → u8 b 0 = 1 ∨ u8 b 0 = 2 → d.trust.identityErased = false → ∀ r, reportOf d (u32 b 4) = some r →
      Completes (.secAttest mb) mb (zeros 4 ++ (if u8 b 0 = 1 then signature Config.mldsaSign r.bytes 0 2048
        else signature Config.mldsaSign r.bytes 2048 2579)) d s) ∧
    (Asked mb 0x0623 b d → blockDown d 1 = false → firstOf (createChecks d b) = none → vaultFull d = false →
      ∃ h e i, Completes (.keyGenerate mb) mb (zeros 4 ++ le 8 h) e s ∧ findKey e h = some i ∧ (vaultEntry d i).used = false ∧
        let x := vaultEntry e i
        x.kind = u8 b 0 ∧ x.attr = u8 b 1 % 2 + 2 ∧ x.limit = u64 b 4 ∧ x.count = 0 ∧ x.key = Config.free256 d.free) ∧
    (Asked mb 0x0624 b d → blockDown d 1 = false → firstOf (createChecks d b) = none → vaultFull d = false →
      (hostKey d (u64 b 12) 4).isSome = true → ∀ p, unwrapBlob d b = some p →
      ∃ h e i, Completes (.keyImport mb) mb (zeros 4 ++ le 8 h) e s ∧ findKey e h = some i ∧ (vaultEntry d i).used = false ∧
        let x := vaultEntry e i
        x.kind = u8 b 0 ∧ x.attr = u8 b 1 % 2 + 2 ∧ x.limit = u64 b 4 ∧ x.count = 0 ∧ x.key = BitVec.ofNat 256 (beNat (part p 0 32))) ∧
    (Asked mb 0x0625 b d → blockDown d 1 = false → ∀ i j, hostAny d (u64 b 0) = some i → hostKey d (u64 b 8) 4 = some j →
      (vaultEntry d i).attr.testBit 0 = true → spent d j = false →
      Completes (.keyExport mb) mb (zeros 4 ++ kwWrap (vaultEntry d j).key (keyBlob (vaultEntry d i))) (innerJob .vault 3 (useKey j d)) s) ∧
    (Asked mb 0x0626 b d → blockDown d 1 = false → ∀ i, hostAny d (u64 b 0) = some i →
      Completes (.keyDestroy mb) mb (zeros 4) (eraseKey i d) s ∧ findKey (eraseKey i d) (u64 b 0) = none) ∧
    (Asked mb 0x0627 b d → blockDown d 1 = false → d.trust.identityErased = false → pinLow d = false → vaultFull d = false →
      ∃ h e i, Completes (.kekEstablish mb) mb (zeros 4 ++ le 8 h) e s ∧ findKey e h = some i ∧ (vaultEntry d i).used = false ∧
        (vaultEntry e i).kind = 4 ∧ (vaultEntry e i).key = BitVec.ofNat 256 (beNat (kekBytes b 0 32))) ∧
    (Asked mb 0x0628 b d → freezeOn d = false → u16 b 0 ≤ 255 → u8 b 2 ≤ 1 → 60 ≤ u32 b 4 → u32 b 4 ≤ 86400 → 10 ≤ u16 b 8 →
      u16 b 8 ≤ 600 → 1 ≤ u16 b 10 → u16 b 10 ≤ 600 → 100 ≤ u32 b 12 → u32 b 12 ≤ 600000 →
      let p := keyPolicyOf b; let e := keyPolicyRun (u16 b 0) p d
      Completes (.keyPolicy mb) mb (zeros 4) e s ∧
        if p.source = 0 && (partnerOf d (u16 b 0)).fingerprint == 0 then tabGet (fun _ => none) e.trust.policyNext (u16 b 0) = some p
        else policyOf e (u16 b 0) = p) ∧
    (Asked mb 0x0629 b d → freezeOn d = false → u16 b 0 ≤ 255 → d.trust.identityErased = false → pinLow d = false →
      (policyOf d (u16 b 0)).source ≠ 1 → let e := wantAgreement (u16 b 0) d
      Completes (.kaStart mb) mb (zeros 4) e s ∧
        ((policyOf d (u16 b 0)).source = 0 → (agreement d (u16 b 0)).state = .idle → agreeBarred d = false →
          (agreement e (u16 b 0)).state = if mayAgree d then .initSent else .waiting)) ∧
    (Asked mb 0x062A b d → u16 b 0 ≤ 255 →
      Completes (.kaStatus mb) mb (kaStatusBody (u16 b 0) d) (clearCause (.agree (u16 b 0)) (flag b 2 0) d) s) ∧
    (Asked mb 0x062B b d → u8 b 0 = 0 → ∃ e, Completes (.zeroize mb) mb (zeros 4) e s ∧
      (∀ i, i < 4096 → (vaultEntry e i).used = false) ∧ e.trust.zeroized = true) ∧
    (Asked mb 0x062C b d → u8 b 0 ≤ 63 → d.trust.tagLocked.getLsbD (u8 b 0) = false → tagWritesOf d (u8 b 0) < 1000 →
      let n := tagWritesOf d (u8 b 0) + 1
      ∃ e, Completes (.tagWrite mb) mb (zeros 4 ++ le 2 (1000 - n)) e s ∧ tabGet (fun _ => none) e.trust.tagLines (u8 b 0) = some (part b 4 64) ∧
        tagWritesOf e (u8 b 0) = n ∧ e = { d with trust := { d.trust with tagLines := e.trust.tagLines, tagWrites := e.trust.tagWrites } }) ∧
    (Asked mb 0x062D b d → u8 b 0 ≤ 63 → Completes (.tagLock mb) mb (zeros 4)
      { d with trust := { d.trust with tagLocked := d.trust.tagLocked ||| BitVec.twoPow 64 (u8 b 0) } } s) ∧
    (Asked mb 0x062E b d → ∃ f : BitVec 8, f.toNat = max d.trust.svnFloor.toNat d.fw.running.svn.toNat ∧
      Completes (.svnCommit mb) mb (zeros 4 ++ le 1 f.toNat) { d with trust := { d.trust with svnFloor := f } } s)

/-- A request that firmware takes, with the framer and the HBM with power, with no freeze in force (TWIN_STATUS: freeze or not) and
refused by none of its checks, is answered OK at once. TWIN_CONFIG leaves the request's binding in the twin and answers the slots of
the yard it holds; a forced switch to a path in service leaves that path preferred, whether or not it was before; a restart of a
sending twin begins its numbering again and of any other changes nothing; YARD_CONFIG leaves the yard's region and nothing else
changed; TWIN_STATUS changes only what CLEAR_CAUSE names. -/
def Obligations.TwinCommandsComplete : Prop :=
  ∀ (mb : Mailbox) (b : List Byte) (s : State), let d := s.dev
    (Asked mb 0x0701 b d → blockDown d 1 = false → blockDown d 5 = false → freezeOn d = false →
      firstOf (twinConfigService.checks d b) = none →
      ∃ e, Completes (.twinConfig mb) mb (zeros 4 ++ le 4 (yardSlots d (twinCfgOf b))) e s ∧ twinCfg e (u8 b 0) = twinCfgOf b) ∧
    (Asked mb 0x0702 b d → blockDown d 1 = false → blockDown d 5 = false → u8 b 0 ≤ 127 →
      Completes (.twinStatus mb) mb (twinStatusBody (u8 b 0) d) (clearCause (.twin (u8 b 0)) (flag b 1 0) d) s) ∧
    (Asked mb 0x0703 b d → blockDown d 1 = false → blockDown d 5 = false → freezeOn d = false → u8 b 0 ≤ 127 → u8 b 1 = 0 →
      u8 b 2 ≤ 1 → (pathOf (twinRx d (u8 b 0)) (u8 b 2 == 1)).state = .inService →
      ∃ e, Completes (.twinCommandForce mb) mb (zeros 4) e s ∧ (twinRx e (u8 b 0)).prefB = (u8 b 2 == 1)) ∧
    (Asked mb 0x0703 b d → blockDown d 1 = false → blockDown d 5 = false → freezeOn d = false → u8 b 0 ≤ 127 → u8 b 1 = 1 →
      Completes (.twinCommandRestart mb) mb (zeros 4) (if (twinCfg d (u8 b 0)).tx then restartTwin (u8 b 0) d else d) s) ∧
    (Asked mb 0x0704 b d → blockDown d 1 = false → blockDown d 5 = false → freezeOn d = false → u8 b 0 + u8 b 1 ≤ hbmGib →
      regionsOverlap (some (u8 b 0, u8 b 1)) d.slots.spillRegion = false → (∀ p ∈ d.twins.cfg, p.2.rx = false) →
      Completes (.yardConfig mb) mb (zeros 4) { d with twins := { d.twins with yard := some (u8 b 0, u8 b 1) } } s)

/-- A request that firmware takes, to a block with power where it needs one, and refused by none of its checks, with no freeze in
force for the two configurations, is answered OK at once. IXTAS_ENG_CONFIG leaves the request's fields in the engine and
IXTAS_COACH_CONFIG in the coach; IXTAS_SEND answers the sequence number and queues the message; IXTAS_RECV answers the oldest
message for the host and takes it from its queue, or answers zeros where there is none; WAKE_SEND puts the wake word last in the
coach's queue; the status requests answer their body and change only what CLEAR_CAUSE names and the numbering of free values. -/
def Obligations.IxtasCommandsComplete : Prop :=
  ∀ (mb : Mailbox) (b : List Byte) (s : State), let d := s.dev
    (Asked mb 0x0801 b d → firstDown d (engineBlock (u8 b 0)) = none → freezeOn d = false → u8 b 0 ≤ 15 → 2 ≤ u8 b 2 → 1 ≤ u8 b 3 →
      u8 b 3 ≤ 15 → u8 b 2 * u8 b 3 ≤ 30 → u8 b 2 * u8 b 3 ≤ ixtasDepth d (u8 b 0) → u8 b 4 ≤ 60 → 64 ≤ u8 b 5 → u8 b 6 ≤ 4 →
      ∃ e, Completes (.ixtasEngConfig mb) mb (zeros 4) e s ∧ let x := ixtasEngine e (u8 b 0)
        x.rx = flag b 1 0 ∧ x.tx = flag b 1 1 ∧ x.agc = flag b 1 2 ∧ x.depth = u8 b 2 ∧ x.tones = u8 b 3 ∧ x.gain = u8 b 4 ∧
          x.threshold = u8 b 5 ∧ x.tol = u8 b 6 ∧ x.node = u8 b 7 ∧ x.sync = BitVec.ofNat 32 (u32 b 8)) ∧
    (Asked mb 0x0802 b d → freezeOn d = false → u16 b 0 ≤ 255 → u8 b 2 ≤ 4 → 2 ≤ u8 b 3 → u8 b 3 ≤ 3 → 1 ≤ u16 b 4 → u16 b 4 ≤ 600 →
      (beats d (u16 b 0) = true → 2 ≤ u8 b 2) → ∃ e, Completes (.ixtasCoachConfig mb) mb (zeros 4) e s ∧
        let x := ixtasCoach e (u16 b 0)
        x.txClass = u8 b 2 ∧ x.hbClass = u8 b 3 ∧ x.period = u16 b 4 ∧ x.autoVersion = flag b 6 0 ∧ x.expSet = flag b 6 1 ∧
          x.text = part b 8 32 ∧ x.expected = part b 40 32) ∧
    (Asked mb 0x0803 b d → firstDown d (engineBlock (u8 b 0)) = none → u8 b 0 ≤ 15 →
      Completes (.ixtasEngStatus mb) mb (ixtasEngStatusBody (u8 b 0) (drawFree d).1 d)
        (clearCause (.ixtasEng (u8 b 0)) (flag b 1 0) (drawFree d).2) s) ∧
    (Asked mb 0x0804 b d → u16 b 0 ≤ 255 →
      Completes (.ixtasPartnerStatus mb) mb (partnerStatusBody (u16 b 0) d) (clearCause (.partner (u16 b 0)) (flag b 2 0) d) s) ∧
    (Asked mb 0x0805 b d → firstDown d (coachBlock (u16 b 0)) = none → u16 b 0 ≤ 255 → u8 b 4 ≤ 220 → tooLong d b = false →
      hostWaiting d (engineOf (u16 b 0)) < 16 → (sendsProtected d b = true → keySpent d (u16 b 0) = false) → let c := u16 b 0
      Completes (.ixtasSend mb) mb (zeros 4 ++ le 1 (toneTx d c).seq)
        (sendAs c 5 (classNow d c) (ixtasVersion d c) 0x20 (u16 b 2) (flag b 5 0) (part b 8 (u8 b 4)) d) s) ∧
    (Asked mb 0x0806 b d → d.ixtas.hostQueue = [] → Completes (.ixtasRecv mb) mb (zeros 19) d s) ∧
    (Asked mb 0x0806 b d → ∀ m q, d.ixtas.hostQueue = m :: q →
      Completes (.ixtasRecv mb) mb (hostMessageBody m) { d with ixtas := { d.ixtas with hostQueue := q } } s) ∧
    (Asked mb 0x0807 b d → firstDown d (engineBlock (u8 b 0)) = none → u8 b 0 ≤ 15 → u8 b 1 ≤ 15 → 8 ≤ u8 b 2 → u8 b 2 ≤ 15 →
      beats d (16 * u8 b 0 + u8 b 1) = false → ixtasSends d (u8 b 0) = true →
      let t := 16 * u8 b 0 + u8 b 1; let x := toneTx d t
      Completes (.wakeSend mb) mb (zeros 4)
        (setTone t { x with waiting := x.waiting ++ [{ level := 0, cls := 0, bytes := [], wake := u8 b 2 }] } d) s)

/-- A request that firmware takes, with the timing unit with power and its fields in their ranges, is answered OK at once, a freeze
or none in force. TIME_REF_CONFIG leaves the request's rank and limits in the reference and it disabled or not; TIME_CONFIG leaves
the request's fields in force; TIME_SELECT of a qualified reference makes it the active one; TIME_STEER leaves the target and the
loop as asked; TIME_ADJUST without AT_PPS acts at once, forward only, and with AT_PPS waits, last of those waiting, for the edge;
TIME_STATUS changes only what CLEAR_CAUSE names. -/
def Obligations.TimeCommandsComplete : Prop :=
  ∀ (mb : Mailbox) (b : List Byte) (s : State), let d := s.dev
    (Asked mb 0x0901 b d → blockDown d 4 = false → refConfigOk b = true → ∃ e, Completes (.timeRefConfig mb) mb (zeros 4) e s ∧
      let x := refOf e (u8 b 0)
      x.rank = u8 b 2 ∧ x.soft = u16 b 8 ∧ x.hard = u16 b 10 ∧ x.hyst = u16 b 12 ∧ x.driftLimit = u16 b 14 ∧ x.driftCount = u8 b 16 ∧
        x.requal = u16 b 18 ∧ (u8 b 0 ≤ 3 → x.nominal = u32 b 4) ∧ (flag b 1 0 = false ↔ x.q = .disabled)) ∧
    (Asked mb 0x0902 b d → blockDown d 4 = false → u8 b 0 ≤ 2 → u16 b 2 ≤ 600 → 10 ≤ u16 b 4 → u16 b 4 ≤ 900 →
      u16 b 2 + u16 b 4 ≤ 1000 → 10 ≤ u16 b 6 → u16 b 6 ≤ 20000 → u8 b 8 ≤ 1 → u8 b 9 ≤ 5 → u8 b 10 ≤ 1 → u8 b 11 ≤ 5 →
      u16 b 12 ≤ 3600 → ∃ e, Completes (.timeConfig mb) mb (zeros 4) e s ∧ e = { d with timeCfg := e.timeCfg } ∧
        e.timeCfg.bandwidth = u8 b 0 ∧ e.timeCfg.ppsEnable = flag b 1 0 ∧ e.timeCfg.squelch = flag b 1 1 ∧
        e.timeCfg.guard = u16 b 2 ∧ e.timeCfg.window = u16 b 4 ∧ e.timeCfg.disagree = u16 b 6 ∧
        e.timeCfg.out0 = (u8 b 8, u8 b 9) ∧ e.timeCfg.out1 = (u8 b 10, u8 b 11) ∧ e.timeCfg.steerTimeout = u16 b 12) ∧
    (Asked mb 0x0903 b d → blockDown d 4 = false → u8 b 0 ≤ 27 → qualified d (u8 b 0) = true → let e := selectRef (u8 b 0) d
      Completes (.timeSelect mb) mb (zeros 4) e s ∧ e.time.activeRef = u8 b 0) ∧
    (Asked mb 0x0904 b d → blockDown d 4 = false →
      Completes (.timeStatus mb) mb (timeStatusBody d) (clearCause .timing (flag b 0 0) d) s) ∧
    (Asked mb 0x0905 b d → blockDown d 4 = false → u8 b 0 ≤ 2 → 1 ≤ u32 b 12 → u32 b 12 ≤ 100000 →
      (u8 b 0 = 0 → mag (s64 b 4) ≤ 1000000000) → (u8 b 0 = 1 → 0 < s64 b 4) → flag b 1 0 = false →
      backward (u8 b 0) (s64 b 4) d = false → let e := adjust (u8 b 0) (s64 b 4) (u32 b 12) d
      Completes (.timeAdjust mb) mb (zeros 4) e s) ∧
    (Asked mb 0x0905 b d → blockDown d 4 = false → u8 b 0 ≤ 2 → 1 ≤ u32 b 12 → u32 b 12 ≤ 100000 →
      (u8 b 0 = 0 → mag (s64 b 4) ≤ 1000000000) → (u8 b 0 = 1 → 0 < s64 b 4) → flag b 1 0 = true →
      ∃ e a, Starts (.timeAdjust mb) mb e s ∧ e = { d with time := { d.time with waiting := d.time.waiting ++ [a] } } ∧
        a.mailbox = mb.val ∧ a.mode = u8 b 0 ∧ a.value = s64 b 4 ∧ a.rate = u32 b 12) ∧
    (Asked mb 0x0906 b d → blockDown d 4 = false → -50000000 ≤ s32 b 4 → s32 b 4 ≤ 50000000 →
      let e := setLoop (flag b 0 0) (setTarget (s32 b 4) d)
      Completes (.timeSteer mb) mb (zeros 4) e s ∧ e.time.target = s32 b 4 ∧ e.time.loopOpen = flag b 0 0 ∧
        (flag b 0 0 = true → e.time.state = .steered))

/-- A request that firmware takes, with the framer and the HBM with power, with no freeze in force for MEM_FILL and refused by none
of its checks, is answered OK at once. MEM_FILL starts the fill of the named region; SCRUB_CONFIG leaves the two periods and nothing
else changed; DMA_RESUME leaves the channel running and the others as they were; MEM_DIAG answers the test word with its class, and
where it only reads changes nothing; MEM_STATUS changes nothing. -/
def Obligations.MemoryCommandsComplete : Prop :=
  ∀ (mb : Mailbox) (b : List Byte) (s : State), let d := s.dev
    (Asked mb 0x0C01 b d → blockDown d 1 = false → blockDown d 5 = false → freezeOn d = false → 1 ≤ u8 b 1 → u8 b 1 ≤ 64 →
      u8 b 0 + u8 b 1 ≤ hbmGib → d.mem.fill = none → touches d.slots.spillRegion (u8 b 0) (u8 b 1) = false ∨ spillUsedNow d = false →
      touches d.twins.yard (u8 b 0) (u8 b 1) = false ∨ yardUsed d = false →
      ∃ e, Completes (.memFill mb) mb (zeros 4) e s ∧ e.mem.fill = some (u8 b 0, u8 b 1)) ∧
    (Asked mb 0x0C02 b d → blockDown d 1 = false → blockDown d 5 = false → Completes (.memStatus mb) mb (memStatusBody d) d s) ∧
    (Asked mb 0x0C03 b d → blockDown d 1 = false → blockDown d 5 = false → 1 ≤ u8 b 0 → u8 b 0 ≤ 168 → 1 ≤ u8 b 1 → u8 b 1 ≤ 30 →
      Completes (.scrubConfig mb) mb (zeros 4) { d with mem := { d.mem with sramHours := u8 b 0, hbmDays := u8 b 1 } } s) ∧
    (Asked mb 0x0C04 b d → blockDown d 1 = false → blockDown d 5 = false → u8 b 0 ≤ 2 →
      u8 b 1 ≤ 5 ∨ (8 ≤ u8 b 1 ∧ u8 b 1 ≤ 11) → u8 b 2 ≤ 63 → let w := testWord d (u8 b 1) (u8 b 2)
      ∃ body e, memDiag b d = (e, some { body := body }) ∧ Completes (.memDiag mb) mb body e s ∧
        (u8 b 0 = 1 → body = diagBytes w (readClass w) (dataOf w) ∧ e = d) ∧
        (u8 b 0 = 2 → readClass w = 1 → body = diagBytes w 1 (dataOf (correctWord w)) ∧ testWord e (u8 b 1) (u8 b 2) = correctWord w)) ∧
    (Asked mb 0x0C05 b d → blockDown d 1 = false → blockDown d 5 = false → u8 b 0 ≤ 15 → u8 b 1 ≤ 1 →
      d.mem.halted.getLsbD (u8 b 0) = true → ∃ e, Completes (.dmaResume mb) mb (zeros 4) e s ∧
        e.mem.halted = d.mem.halted &&& ~~~ BitVec.twoPow 16 (u8 b 0))

/-- A request that firmware takes, with its blocks with power, its fields in their ranges and no freeze in force for CAL_RESTORE, is
answered OK at once. SNAP_READ and SNAP_QUEUE_READ answer the sequence number of the published snapshot and the counts asked for,
and change nothing; CTR_SELECT answers the block's selections with those it made; CAL_CONFIG leaves the trigger settings in every
engine named; CAL_RUN leaves the calibration of an idle engine pending, or deferred without light; CAL_STATUS and CAL_READ answer
the engine's status and record; CAL_RESTORE leaves the record's four skews in the engine's DACs and its calibration as after a run.
-/
def Obligations.MeasurementCommandsComplete : Prop :=
  ∀ (mb : Mailbox) (b : List Byte) (s : State), let d := s.dev
    (Asked mb 0x0B01 b d → blockDown d 1 = false → u8 b 0 ≤ 127 → u16 b 2 % 8 = 0 → u16 b 4 % 8 = 0 → u16 b 4 ≤ 4064 →
      u16 b 2 + u16 b 4 ≤ 4096 → Completes (.snapRead mb) mb
        (zeros 4 ++ le 8 d.meas.published.seq ++ pageBytes d.meas.published (u8 b 0) (u16 b 2 / 8) (u16 b 4 / 8)) d s) ∧
    (Asked mb 0x0B02 b d → blockDown d 1 = false → u16 b 0 ≤ 4095 → 1 ≤ u8 b 2 → u8 b 2 ≤ 63 → u8 b 3 ≤ 1 →
      u16 b 0 + u8 b 2 ≤ 4096 → Completes (.snapQueueRead mb) mb (zeros 4 ++ le 8 d.meas.published.seq
        ++ (List.range (u8 b 2)).flatMap (fun i => queueEntries d.meas.published (u16 b 0 + i) (u8 b 3))) d s) ∧
    (Asked mb 0x0B03 b d → firstDown d [1, blockIdOf (u8 b 0)] = none → u8 b 0 ≤ 39 → u8 b 1 ≤ 7 ∨ u8 b 1 = 0xFF →
      flag b 3 0 = true ∨ entityOk (u8 b 0) (u16 b 4) = true →
      let e := if flag b 3 0 then d
        else (countersNamed (u8 b 0) (u8 b 1)).foldl (fun d i => selectCounter i (u8 b 2) (u16 b 4) d) d
      Completes (.ctrSelect mb) mb (zeros 4 ++ selectEntries e (u8 b 0)) e s) ∧
    (Asked mb 0x0B04 b d → firstDown d ((enginesNamed (u8 b 0)).flatMap engineBlock) = none → u8 b 0 ≤ 15 ∨ u8 b 0 = 0xFF →
      u8 b 2 ≤ 31 → 5 ≤ u16 b 4 → u16 b 4 ≤ 100 → ∃ e, Completes (.calConfig mb) mb (zeros 4) e s ∧
        ∀ n ∈ enginesNamed (u8 b 0),
          calOf e n = { calOf d n with auto := flag b 1 0, tally := u8 b 2, threshold := u16 b 4 }) ∧
    (Asked mb 0x0B05 b d → firstDown d (engineBlock (u8 b 0)) = none → u8 b 0 ≤ 15 →
      ∃ e, Completes (.calRun mb) mb (zeros 4) e s ∧ ((calOf d (u8 b 0)).state = .idle →
        (calOf e (u8 b 0)).state = if (engRx d (u8 b 0)).los then .deferred else .pending)) ∧
    (Asked mb 0x0B06 b d → firstDown d (engineBlock (u8 b 0)) = none → u8 b 0 ≤ 15 →
      Completes (.calStatus mb) mb (calStatusBody d (u8 b 0)) (clearCause (.cal (u8 b 0)) (flag b 1 0) d) s) ∧
    (Asked mb 0x0B07 b d → firstDown d (engineBlock (u8 b 0)) = none → u8 b 0 ≤ 15 →
      let e := if (calOf d (u8 b 0)).state = .running then calMoves (u8 b 0) d else d
      Completes (.calRead mb) mb (zeros 4 ++ calRecord e (u8 b 0)) e s) ∧
    (Asked mb 0x0B08 b d → firstDown d (engineBlock (u8 b 1)) = none → freezeOn d = false → (calOf d (u8 b 1)).state = .idle →
      calMismatch b = false → ∃ e, Completes (.calRestore mb) mb (zeros 4) e s ∧
        (calOf e (u8 b 1)).initialDone = true ∧ (calOf e (u8 b 1)).lastCause = 4 ∧
        ∀ i, i < 4 → (dacOf e (4 * u8 b 1 + i)).skew = s16 b (36 + 2 * i))

/-- A request that firmware takes, with its fields in their ranges, is answered OK at once, but PWR_STATE, which starts the entry
into the low-power state and is answered when it is over. HELLO with a common major answers the versions chosen and leaves them with
the mailbox; LASER_CONFIG leaves the port's bus settings; LASER_XFER of a configured source takes its place on its port's bus, and
the bus transfer that completes there answers the bytes read; FW_STAGE appends the chunk and answers the size so far; FW_ACTIVATE of
a whole, signed image restarts firmware into it; PWR_DOMAIN to the state a domain has changes nothing, else begins the switch;
PWR_CONFIG leaves the enables and the limit of the pool's point; PWR_STATUS changes only what CLEAR_CAUSE names. On a core that
executes: EC_CLAIM pushes the eligible event of highest priority, lowest source among equals, clears its pending bit and returns it;
EC_COMPLETE of the source on top pops it; EC_SETPEND sets its source's pending bit. MODERATION_RELEASE where a release condition
holds signals a core that is not signalled, and sends the host the message of each vector with an eligible source that no mask
holds. -/
def Obligations.HubAndPowerCommandsComplete : Prop :=
  ∀ (mb : Mailbox) (b : List Byte) (s : State), let d := s.dev
    (Asked mb 0x0101 b d → u8 b 0 ≤ u8 b 1 → let M := commonMajor (u8 b 0) (u8 b 1); let m := selectMinor M (u8 b 1) (u8 b 2)
      M ≠ 0 → Completes (.hello mb) mb (helloBody M m d) d s ∧
        ∀ t, exec (.hello mb) s = .next t → (box t.dev mb).negMajor = M ∧ (box t.dev mb).negMinor = m) ∧
    (Asked mb 0x0102 b d → blockDown d 3 = false → u8 b 0 ≤ 3 → u8 b 1 ≤ 2 → 1 ≤ u16 b 2 → u16 b 2 ≤ 100 →
      (∀ i ∈ [4, 5, 6, 7], u8 b i < 0x80 ∨ u8 b i = 0xFF) → Completes (.laserConfig mb) mb (zeros 4) d s ∧
        ∀ t, exec (.laserConfig mb) s = .next t → laserPort t.dev (u8 b 0) =
          { speed := u8 b 1, stretch := u16 b 2, address := [u8 b 4, u8 b 5, u8 b 6, u8 b 7] }) ∧
    (Asked mb 0x0103 b d → blockDown d 3 = false → u8 b 0 ≤ 15 → u8 b 1 ≤ 128 → u8 b 2 ≤ 128 → u8 b 1 ≠ 0 ∨ u8 b 2 ≠ 0 →
      laserAddress d (u8 b 0) ≠ 0xFF → onBus d mb = false → ∀ bus : BusOutcome,
      ∃ e, Starts (.laserXfer mb bus) mb e s ∧ e = { d with mail := e.mail } ∧ e.mail.transfers = d.mail.transfers ++ [{ mailbox := mb }]) ∧
    (onBus d mb = true → d.fw.state = .running → mgtStopped d = false → ∀ data : List Byte, data.length = u8 (requestBody mb d) 2 →
      ∃ e, Completes (.laserXfer mb (.completed data)) mb (zeros 4 ++ data) e s ∧ e = { d with mail := e.mail }) ∧
    (Asked mb 0x0120 b d → blockDown d 3 = false → stageBad d b = false → let x := stageChunk b d
      Completes (.fwStage mb) mb (zeros 4 ++ le 4 x.bytes.length) { d with fw := { d.fw with staged := some x } } s) ∧
    (Asked mb 0x0121 b d → blockDown d 3 = false → ∀ bs, wholeImage d = some bs → u32 b 0 = bs.length →
      BitVec.ofNat 384 (beNat (part b 8 48)) = sha384 bs → Config.imageSigned bs = true →
      d.trust.svnFloor.toNat ≤ (Config.imageSvn bs).toNat → let i := imageOf bs
      let e := beginRestart 3 { d with fw := { d.fw with activating := some i, staged := none } }
      Completes (.fwActivate mb) mb (zeros 4 ++ le 4 i.version.toNat ++ le 1 i.svn.toNat ++ zeros 3) e s ∧
        e.fw.state = .restarting ∧ e.fw.activating = some i) ∧
    (Asked mb 0x0A01 b d → freezeOn d = false → d.power.state ≠ .entering → 2 ≤ u8 b 0 → u8 b 0 ≤ 4 →
      ∃ e, Starts (.pwrState mb) mb e s ∧ e.power.state = .entering ∧ e.power.stage = 1 ∧ e.pins.target = pwrTarget (u8 b 0) ∧
        e.pins.force = flag b 1 0 ∧ e = { d with power := e.power, pins := e.pins }) ∧
    (Asked mb 0x0A02 b d → freezeOn d = false → u8 b 0 ≤ 1 → u8 b 1 ≤ (if u8 b 0 = 0 then 15 else 1) → u8 b 2 ≤ 1 →
      (u8 b 2 = 0 → (if u8 b 0 = 0 then engineUsed d (u8 b 1) else tileUsed d (u8 b 1)) = false) →
      ∃ e, Completes (.pwrDomain mb) mb (zeros 4) e s ∧ e = { d with pins := e.pins } ∧ e.pins.domainChanging =
        if domainTarget d (u8 b 0) (u8 b 1) = (u8 b 2 == 1) then d.pins.domainChanging
        else d.pins.domainChanging ++ [(u8 b 0, u8 b 1, u8 b 2 == 1)]) ∧
    (Asked mb 0x0A03 b d → u8 b 1 ≤ 2 → 100 ≤ u16 b 2 → u16 b 2 ≤ 20000 → let e := powerConfig b d
      Completes (.pwrConfig mb) mb (zeros 4) e s ∧ e.power.allowIdle = flag b 0 0 ∧ e.power.surgeEnable = flag b 0 1 ∧
        e.power.mgtMax = u8 b 1 ∧ e.power.regrant = u16 b 2) ∧
    (Asked mb 0x0A04 b d → Completes (.pwrStatus mb) mb (pwrStatusBody d) (clearCause .power (flag b 0 0) d) s) ∧
    (∀ (x : CoreId) (v : Word), let src := v.toNat % 2048; coreStopped d x = false →
      (∀ e : Fin 2048, eligibleOn d x e = true →
        (∀ f : Fin 2048, eligibleOn d x f = true → srcPrio d f < srcPrio d e ∨ (srcPrio d f = srcPrio d e ∧ e ≤ f)) →
        ∃ t, exec (.ecClaim x) s = .next t ∧ t.pending = s.pending ∧ stackOf t.dev x = (e.val, srcPrio d e) :: stackOf d x ∧
          t.dev.ec.pend = d.ec.pend &&& ~~~ BitVec.twoPow 2048 e.val ∧ t.dev.mail.out = [claimValue d (some e)]) ∧
      (∀ p rest, stackOf d x = (src, p) :: rest →
        ∃ t, exec (.ecComplete x v) s = .next t ∧ t.pending = s.pending ∧ stackOf t.dev x = rest ∧ t.dev.ec.pend = d.ec.pend) ∧
      ∃ t, exec (.ecSetpend x v) s = .next t ∧ t.pending = s.pending ∧ t.dev.ec.pend = d.ec.pend ||| BitVec.twoPow 2048 src ∧
        stackOf t.dev x = stackOf d x) ∧
    (∀ (x : CoreId) (f : ReleaseFacts), mgtStopped d = false → d.ec.signalled.getLsbD x = false →
      (let e := noteWait x f.coreWaits (wakeCore x d); releases e x (eligible e x) f = true) →
      ∃ t, exec (.moderationRelease (x.castLE (by omega)) f) s = .next t ∧ t.pending = s.pending ∧ t.dev.ec.signalled.getLsbD x = true) ∧
    (∀ (f : ReleaseFacts) (e : Fin 2048) (v : Fin 64), blockDown d 1 = false → releases d 4 (eligible d 4) f = true → eligibleOn d 4 e = true →
      srcVector d e = v.val → msixHeld d v = false →
      ∃ t, exec (.moderationRelease 4 f) s = .next t ∧ t.pending = s.pending ∧ t.dev.ec.unack.getLsbD v = true ∧
        (v.val, (msixEntry d v).address, (msixEntry d v).data) ∈ t.dev.ec.messages)
end

