-- ==== Sys2Proof/Laws/Tab.lean ====
section
/-! SUPPORT. Sparse tables: read after write, and the canonical form is kept by every operation. -/

namespace Sys2Proof.Machine

variable {α : Type}

theorem tabGet_nil (d : Nat → α) (k : Nat) : tabGet d [] k = d k := rfl

theorem tabGet_tabDrop_same (d : Nat → α) (t : Tab α) (k : Nat) : tabGet d (tabDrop t k) k = d k := by
  induction t with
  | nil => rfl
  | cons e t ih =>
    obtain ⟨j, a⟩ := e
    by_cases h : j = k <;> simp [tabDrop, tabGet, h, ih]

theorem tabGet_tabDrop_ne (d : Nat → α) (t : Tab α) {k i : Nat} (hk : i ≠ k) : tabGet d (tabDrop t k) i = tabGet d t i := by
  induction t with
  | nil => rfl
  | cons e t ih =>
    obtain ⟨j, a⟩ := e
    by_cases h : j = k
    · subst h; simp [tabDrop, tabGet, ih, Ne.symm hk]
    · by_cases hj : j = i
      · subst hj; simp [tabDrop, tabGet, h]
      · simp [tabDrop, tabGet, h, hj, ih]

theorem tabGet_tabInsert_ne (d : Nat → α) (t : Tab α) {k i : Nat} (v : α) (hk : i ≠ k) :
    tabGet d (tabInsert t k v) i = tabGet d t i := by
  induction t with
  | nil => simp [tabInsert, tabGet, Ne.symm hk]
  | cons e t ih =>
    obtain ⟨j, a⟩ := e
    by_cases h : k < j
    · simp [tabInsert, tabGet, h, Ne.symm hk]
    · by_cases hj : j = i
      · subst hj; simp [tabInsert, tabGet, h]
      · simp [tabInsert, tabGet, h, hj, ih]

theorem tabGet_tabInsert_drop (d : Nat → α) (t : Tab α) (k : Nat) (v : α) :
    tabGet d (tabInsert (tabDrop t k) k v) k = v := by
  induction t with
  | nil => simp [tabDrop, tabInsert, tabGet]
  | cons e t ih =>
    obtain ⟨j, a⟩ := e
    by_cases h : j = k
    · simpa [tabDrop, h] using ih
    · by_cases hk : k < j <;> simp [tabDrop, tabInsert, tabGet, h, hk, ih]

/-- Reading a table after a write gives the value written for its number and the old value for every other. -/
theorem tabGet_tabPut [DecidableEq α] (d : Nat → α) (t : Tab α) (k i : Nat) (v : α) :
    tabGet d (tabPut d t k v) i = if i = k then v else tabGet d t i := by
  unfold tabPut
  split <;> split
  · simp_all [tabGet_tabDrop_same]
  · exact tabGet_tabDrop_ne d t ‹_›
  · subst_vars; exact tabGet_tabInsert_drop d t _ v
  · rw [tabGet_tabInsert_ne d _ v ‹_›, tabGet_tabDrop_ne d t ‹_›]

@[simp] theorem tabGet_tabPut_same [DecidableEq α] (d : Nat → α) (t : Tab α) (k : Nat) (v : α) :
    tabGet d (tabPut d t k v) k = v := by simp [tabGet_tabPut]

theorem tabGet_tabPut_ne [DecidableEq α] (d : Nat → α) (t : Tab α) {k i : Nat} (v : α) (h : i ≠ k) :
    tabGet d (tabPut d t k v) i = tabGet d t i := by simp [tabGet_tabPut, h]

@[simp] theorem tabGet_tabMod_same [DecidableEq α] (d : Nat → α) (t : Tab α) (k : Nat) (f : α → α) :
    tabGet d (tabMod d t k f) k = f (tabGet d t k) := by simp [tabMod]

theorem tabGet_tabMod_ne [DecidableEq α] (d : Nat → α) (t : Tab α) {k i : Nat} (f : α → α) (h : i ≠ k) :
    tabGet d (tabMod d t k f) i = tabGet d t i := by simp [tabMod, tabGet_tabPut, h]

/-! ## The canonical form -/

/-- Every number of a table lies above `k`. -/
def tabAbove (k : Nat) (t : Tab α) : Prop := ∀ e ∈ t, k < e.1

theorem tabWf_cons [DecidableEq α] (d : Nat → α) (j : Nat) (a : α) (t : Tab α) :
    tabWf d ((j, a) :: t) = true ↔ a ≠ d j ∧ tabAbove j t ∧ tabWf d t = true := by
  induction t generalizing j a with
  | nil => simp [tabWf, tabAbove]
  | cons e t ih =>
    obtain ⟨i, b⟩ := e
    constructor
    · intro h
      simp only [tabWf, Bool.and_eq_true, decide_eq_true_eq] at h
      have ht : tabWf d ((i, b) :: t) = true := by simp [tabWf, h.2]
      have hi := (ih i b).1 ht
      refine ⟨h.1.1, ?_, ht⟩
      intro e he
      rcases List.mem_cons.1 he with rfl | he
      · exact h.1.2
      · exact Nat.lt_trans h.1.2 (hi.2.1 e he)
    · rintro ⟨h1, h2, h3⟩
      have h4 : j < i := h2 (i, b) (List.mem_cons_self ..)
      have h5 : tabWf d ((j, a) :: (i, b) :: t) = (decide (a ≠ d j) && decide (j < i) && tabWf d ((i, b) :: t)) := rfl
      rw [h5, h3]; simp [h1, h4]

theorem tabAbove_drop {j k : Nat} {t : Tab α} (h : tabAbove j t) : tabAbove j (tabDrop t k) := by
  induction t with
  | nil => simpa [tabDrop] using h
  | cons e t ih =>
    obtain ⟨i, b⟩ := e
    have ht : tabAbove j t := fun e he => h e (List.mem_cons_of_mem _ he)
    by_cases hi : i = k
    · simpa [tabDrop, hi] using ih ht
    · intro e he
      simp only [tabDrop, hi, if_false] at he
      rcases List.mem_cons.1 he with rfl | he
      · exact h (i, b) (List.mem_cons_self ..)
      · exact ih ht e he

theorem tabAbove_insert {j k : Nat} {t : Tab α} {v : α} (h : tabAbove j t) (hk : j < k) : tabAbove j (tabInsert t k v) := by
  induction t with
  | nil => intro e he; simp [tabInsert] at he; subst he; exact hk
  | cons e t ih =>
    obtain ⟨i, b⟩ := e
    have ht : tabAbove j t := fun e he => h e (List.mem_cons_of_mem _ he)
    intro e he
    by_cases hi : k < i
    · simp only [tabInsert, hi, if_true] at he
      rcases List.mem_cons.1 he with rfl | he
      · exact hk
      · exact h e he
    · simp only [tabInsert, hi, if_false] at he
      rcases List.mem_cons.1 he with rfl | he
      · exact h (i, b) (List.mem_cons_self ..)
      · exact ih ht e he

theorem tabWf_drop [DecidableEq α] {d : Nat → α} {t : Tab α} (k : Nat) (h : tabWf d t = true) : tabWf d (tabDrop t k) = true := by
  induction t with
  | nil => rfl
  | cons e t ih =>
    obtain ⟨j, a⟩ := e
    obtain ⟨h1, h2, h3⟩ := (tabWf_cons d j a t).1 h
    by_cases hj : j = k
    · simpa [tabDrop, hj] using ih h3
    · simp only [tabDrop, hj, if_false]
      exact (tabWf_cons d j a _).2 ⟨h1, tabAbove_drop h2, ih h3⟩

theorem tabWf_insert [DecidableEq α] {d : Nat → α} {t : Tab α} {k : Nat} {v : α} (h : tabWf d t = true)
    (hn : ∀ e ∈ t, e.1 ≠ k) (hv : v ≠ d k) : tabWf d (tabInsert t k v) = true := by
  induction t with
  | nil => simp [tabInsert, tabWf, hv]
  | cons e t ih =>
    obtain ⟨j, a⟩ := e
    obtain ⟨h1, h2, h3⟩ := (tabWf_cons d j a t).1 h
    by_cases hj : k < j
    · simp only [tabInsert, hj, if_true]
      refine (tabWf_cons d k v _).2 ⟨hv, ?_, h⟩
      intro e he
      rcases List.mem_cons.1 he with rfl | he
      · exact hj
      · exact Nat.lt_trans hj (h2 e he)
    · simp only [tabInsert, hj, if_false]
      have hjk : j ≠ k := hn (j, a) (List.mem_cons_self ..)
      exact (tabWf_cons d j a _).2 ⟨h1, tabAbove_insert h2 (by omega), ih h3 (fun e he => hn e (List.mem_cons_of_mem _ he))⟩

theorem not_mem_tabDrop (t : Tab α) (k : Nat) : ∀ e ∈ tabDrop t k, e.1 ≠ k := by
  induction t with
  | nil => simp [tabDrop]
  | cons e t ih =>
    obtain ⟨j, a⟩ := e
    by_cases hj : j = k
    · simpa [tabDrop, hj] using ih
    · intro e he
      simp only [tabDrop, hj, if_false] at he
      rcases List.mem_cons.1 he with rfl | he
      · exact hj
      · exact ih e he

/-- A write keeps the canonical form. -/
theorem tabWf_put [DecidableEq α] {d : Nat → α} {t : Tab α} (k : Nat) (v : α) (h : tabWf d t = true) :
    tabWf d (tabPut d t k v) = true := by
  unfold tabPut
  split
  · exact tabWf_drop k h
  · exact tabWf_insert (tabWf_drop k h) (not_mem_tabDrop t k) ‹_›

theorem tabWf_mod [DecidableEq α] {d : Nat → α} {t : Tab α} (k : Nat) (f : α → α) (h : tabWf d t = true) :
    tabWf d (tabMod d t k f) = true := tabWf_put k _ h

theorem tabWf_map [DecidableEq α] {d : Nat → α} {t : Tab α} (f : Nat → α → α) (h : tabWf d t = true) :
    tabWf d (tabMap d f t) = true := by
  suffices hs : tabWf d (tabMap d f t) = true ∧ ∀ k, tabAbove k t → tabAbove k (tabMap d f t) from hs.1
  induction t with
  | nil => exact ⟨rfl, fun _ h => h⟩
  | cons e t ih =>
    obtain ⟨j, a⟩ := e
    obtain ⟨_, h2, h3⟩ := (tabWf_cons d j a t).1 h
    obtain ⟨i1, i2⟩ := ih h3
    by_cases hf : f j a = d j
    · simp only [tabMap, hf, if_true]
      exact ⟨i1, fun k hk => i2 k (fun e he => hk e (List.mem_cons_of_mem _ he))⟩
    · simp only [tabMap, hf, if_false]
      refine ⟨(tabWf_cons d j (f j a) _).2 ⟨hf, i2 j h2, i1⟩, ?_⟩
      intro k hk e he
      rcases List.mem_cons.1 he with rfl | he
      · exact hk (j, a) (List.mem_cons_self ..)
      · exact i2 k (fun e he => hk e (List.mem_cons_of_mem _ he)) e he

end Sys2Proof.Machine
end

