-- ==== Sys2Proof/Laws/State.lean ====
section
/-! SUPPORT. Each update of the state: what it keeps, field by field, true by computation, and what is read back. -/

namespace Sys2Proof.Machine

@[simp] theorem setBox_keeps (mb : Nat) (b : MailboxState) (d : Dev) :
    (setBox mb b d).fw = d.fw ∧ (setBox mb b d).links = d.links ∧ (setBox mb b d).ec = d.ec ∧ (setBox mb b d).causes = d.causes ∧
    (setBox mb b d).causeMs = d.causeMs ∧ (setBox mb b d).brakes = d.brakes ∧ (setBox mb b d).trust = d.trust ∧ (setBox mb b d).meas =
    d.meas ∧ (setBox mb b d).bench = d.bench ∧ (setBox mb b d).power = d.power ∧ (setBox mb b d).pins = d.pins ∧ (setBox mb b d).clock
    = d.clock ∧ (setBox mb b d).time = d.time ∧ (setBox mb b d).timeCfg = d.timeCfg ∧ (setBox mb b d).mem = d.mem ∧ (setBox mb b d).tx
    = d.tx ∧ (setBox mb b d).rx = d.rx ∧ (setBox mb b d).pool = d.pool ∧ (setBox mb b d).frames = d.frames ∧ (setBox mb b d).slots =
    d.slots ∧ (setBox mb b d).cipher = d.cipher ∧ (setBox mb b d).defects = d.defects ∧ (setBox mb b d).twins = d.twins ∧ (setBox mb b
    d).clients = d.clients ∧ (setBox mb b d).ixtas = d.ixtas ∧ (setBox mb b d).free = d.free ∧ (setBox mb b d).mail.order =
    d.mail.order ∧ (setBox mb b d).mail.posts = d.mail.posts ∧ (setBox mb b d).mail.out = d.mail.out ∧ (setBox mb b d).mail.down =
    d.mail.down ∧ (setBox mb b d).mail.smpWriteDisable = d.mail.smpWriteDisable ∧ (setBox mb b d).mail.smpStrap = d.mail.smpStrap ∧
    (setBox mb b d).mail.smpPointer = d.mail.smpPointer ∧ (setBox mb b d).mail.laser = d.mail.laser ∧ (setBox mb b d).mail.transfers =
    d.mail.transfers :=
  ⟨rfl, rfl, rfl, rfl, rfl, rfl, rfl, rfl, rfl, rfl, rfl, rfl, rfl, rfl, rfl, rfl, rfl, rfl, rfl, rfl, rfl, rfl, rfl, rfl, rfl, rfl,
   rfl, rfl, rfl, rfl, rfl, rfl, rfl, rfl, rfl⟩
@[simp] theorem box_setBox_same (mb : Nat) (b : MailboxState) (d : Dev) : box (setBox mb b d) mb = b := by
  simp [box, setBox]
theorem box_setBox_ne {mb j : Nat} (b : MailboxState) (d : Dev) (h : j ≠ mb) : box (setBox mb b d) j = box d j := by
  simp [box, setBox, tabGet_tabPut_ne, h]
@[simp] theorem setLaserPort_keeps (p : Nat) (x : LaserPort) (d : Dev) :
    (setLaserPort p x d).fw = d.fw ∧ (setLaserPort p x d).links = d.links ∧ (setLaserPort p x d).ec = d.ec ∧ (setLaserPort p x
    d).causes = d.causes ∧ (setLaserPort p x d).causeMs = d.causeMs ∧ (setLaserPort p x d).brakes = d.brakes ∧ (setLaserPort p x
    d).trust = d.trust ∧ (setLaserPort p x d).meas = d.meas ∧ (setLaserPort p x d).bench = d.bench ∧ (setLaserPort p x d).power =
    d.power ∧ (setLaserPort p x d).pins = d.pins ∧ (setLaserPort p x d).clock = d.clock ∧ (setLaserPort p x d).time = d.time ∧
    (setLaserPort p x d).timeCfg = d.timeCfg ∧ (setLaserPort p x d).mem = d.mem ∧ (setLaserPort p x d).tx = d.tx ∧ (setLaserPort p x
    d).rx = d.rx ∧ (setLaserPort p x d).pool = d.pool ∧ (setLaserPort p x d).frames = d.frames ∧ (setLaserPort p x d).slots = d.slots ∧
    (setLaserPort p x d).cipher = d.cipher ∧ (setLaserPort p x d).defects = d.defects ∧ (setLaserPort p x d).twins = d.twins ∧
    (setLaserPort p x d).clients = d.clients ∧ (setLaserPort p x d).ixtas = d.ixtas ∧ (setLaserPort p x d).free = d.free ∧
    (setLaserPort p x d).mail.boxes = d.mail.boxes ∧ (setLaserPort p x d).mail.order = d.mail.order ∧ (setLaserPort p x d).mail.posts
    = d.mail.posts ∧ (setLaserPort p x d).mail.out = d.mail.out ∧ (setLaserPort p x d).mail.down = d.mail.down ∧ (setLaserPort p x
    d).mail.smpWriteDisable = d.mail.smpWriteDisable ∧ (setLaserPort p x d).mail.smpStrap = d.mail.smpStrap ∧ (setLaserPort p x
    d).mail.smpPointer = d.mail.smpPointer ∧ (setLaserPort p x d).mail.transfers = d.mail.transfers :=
  ⟨rfl, rfl, rfl, rfl, rfl, rfl, rfl, rfl, rfl, rfl, rfl, rfl, rfl, rfl, rfl, rfl, rfl, rfl, rfl, rfl, rfl, rfl, rfl, rfl, rfl, rfl,
   rfl, rfl, rfl, rfl, rfl, rfl, rfl, rfl, rfl⟩
@[simp] theorem setLink_keeps (l : Nat) (x : LinkState) (d : Dev) :
    (setLink l x d).mail = d.mail ∧ (setLink l x d).fw = d.fw ∧ (setLink l x d).ec = d.ec ∧ (setLink l x d).causes = d.causes ∧
    (setLink l x d).causeMs = d.causeMs ∧ (setLink l x d).brakes = d.brakes ∧ (setLink l x d).trust = d.trust ∧ (setLink l x d).meas =
    d.meas ∧ (setLink l x d).bench = d.bench ∧ (setLink l x d).power = d.power ∧ (setLink l x d).pins = d.pins ∧ (setLink l x d).clock
    = d.clock ∧ (setLink l x d).time = d.time ∧ (setLink l x d).timeCfg = d.timeCfg ∧ (setLink l x d).mem = d.mem ∧ (setLink l x d).tx
    = d.tx ∧ (setLink l x d).rx = d.rx ∧ (setLink l x d).pool = d.pool ∧ (setLink l x d).frames = d.frames ∧ (setLink l x d).slots =
    d.slots ∧ (setLink l x d).cipher = d.cipher ∧ (setLink l x d).defects = d.defects ∧ (setLink l x d).twins = d.twins ∧ (setLink l x
    d).clients = d.clients ∧ (setLink l x d).ixtas = d.ixtas ∧ (setLink l x d).free = d.free :=
  ⟨rfl, rfl, rfl, rfl, rfl, rfl, rfl, rfl, rfl, rfl, rfl, rfl, rfl, rfl, rfl, rfl, rfl, rfl, rfl, rfl, rfl, rfl, rfl, rfl, rfl, rfl⟩
@[simp] theorem linkOf_setLink_same (l : Nat) (x : LinkState) (d : Dev) : linkOf (setLink l x d) l = x := by
  simp [linkOf, setLink]
theorem linkOf_setLink_ne {l j : Nat} (x : LinkState) (d : Dev) (h : j ≠ l) : linkOf (setLink l x d) j = linkOf d j := by
  simp [linkOf, setLink, tabGet_tabPut_ne, h]
@[simp] theorem setVault_keeps (i : Nat) (x : VaultEntry) (d : Dev) :
    (setVault i x d).mail = d.mail ∧ (setVault i x d).fw = d.fw ∧ (setVault i x d).links = d.links ∧ (setVault i x d).ec = d.ec ∧
    (setVault i x d).causes = d.causes ∧ (setVault i x d).causeMs = d.causeMs ∧ (setVault i x d).brakes = d.brakes ∧ (setVault i x
    d).meas = d.meas ∧ (setVault i x d).bench = d.bench ∧ (setVault i x d).power = d.power ∧ (setVault i x d).pins = d.pins ∧
    (setVault i x d).clock = d.clock ∧ (setVault i x d).time = d.time ∧ (setVault i x d).timeCfg = d.timeCfg ∧ (setVault i x d).mem =
    d.mem ∧ (setVault i x d).tx = d.tx ∧ (setVault i x d).rx = d.rx ∧ (setVault i x d).pool = d.pool ∧ (setVault i x d).frames =
    d.frames ∧ (setVault i x d).slots = d.slots ∧ (setVault i x d).cipher = d.cipher ∧ (setVault i x d).defects = d.defects ∧
    (setVault i x d).twins = d.twins ∧ (setVault i x d).clients = d.clients ∧ (setVault i x d).ixtas = d.ixtas ∧ (setVault i x d).free
    = d.free ∧ (setVault i x d).trust.wrapping = d.trust.wrapping ∧ (setVault i x d).trust.identityErased = d.trust.identityErased ∧
    (setVault i x d).trust.svnFloor = d.trust.svnFloor ∧ (setVault i x d).trust.zeroized = d.trust.zeroized ∧ (setVault i x
    d).trust.tagLines = d.trust.tagLines ∧ (setVault i x d).trust.tagWrites = d.trust.tagWrites ∧ (setVault i x d).trust.tagLocked =
    d.trust.tagLocked ∧ (setVault i x d).trust.reports = d.trust.reports ∧ (setVault i x d).trust.reportCount = d.trust.reportCount ∧
    (setVault i x d).trust.policy = d.trust.policy ∧ (setVault i x d).trust.policyNext = d.trust.policyNext ∧ (setVault i x
    d).trust.agree = d.trust.agree :=
  ⟨rfl, rfl, rfl, rfl, rfl, rfl, rfl, rfl, rfl, rfl, rfl, rfl, rfl, rfl, rfl, rfl, rfl, rfl, rfl, rfl, rfl, rfl, rfl, rfl, rfl, rfl,
   rfl, rfl, rfl, rfl, rfl, rfl, rfl, rfl, rfl, rfl, rfl, rfl⟩
@[simp] theorem vaultEntry_setVault_same (i : Nat) (x : VaultEntry) (d : Dev) : vaultEntry (setVault i x d) i = x := by
  simp [vaultEntry, setVault]
theorem vaultEntry_setVault_ne {i j : Nat} (x : VaultEntry) (d : Dev) (h : j ≠ i) : vaultEntry (setVault i x d) j = vaultEntry d j := by
  simp [vaultEntry, setVault, tabGet_tabPut_ne, h]
@[simp] theorem setAgreement_keeps (c : Nat) (x : Agreement) (d : Dev) :
    (setAgreement c x d).mail = d.mail ∧ (setAgreement c x d).fw = d.fw ∧ (setAgreement c x d).links = d.links ∧ (setAgreement c x
    d).ec = d.ec ∧ (setAgreement c x d).causes = d.causes ∧ (setAgreement c x d).causeMs = d.causeMs ∧ (setAgreement c x d).brakes =
    d.brakes ∧ (setAgreement c x d).meas = d.meas ∧ (setAgreement c x d).bench = d.bench ∧ (setAgreement c x d).power = d.power ∧
    (setAgreement c x d).pins = d.pins ∧ (setAgreement c x d).clock = d.clock ∧ (setAgreement c x d).time = d.time ∧ (setAgreement c x
    d).timeCfg = d.timeCfg ∧ (setAgreement c x d).mem = d.mem ∧ (setAgreement c x d).tx = d.tx ∧ (setAgreement c x d).rx = d.rx ∧
    (setAgreement c x d).pool = d.pool ∧ (setAgreement c x d).frames = d.frames ∧ (setAgreement c x d).slots = d.slots ∧ (setAgreement
    c x d).cipher = d.cipher ∧ (setAgreement c x d).defects = d.defects ∧ (setAgreement c x d).twins = d.twins ∧ (setAgreement c x
    d).clients = d.clients ∧ (setAgreement c x d).ixtas = d.ixtas ∧ (setAgreement c x d).free = d.free ∧ (setAgreement c x
    d).trust.vault = d.trust.vault ∧ (setAgreement c x d).trust.wrapping = d.trust.wrapping ∧ (setAgreement c x
    d).trust.identityErased = d.trust.identityErased ∧ (setAgreement c x d).trust.svnFloor = d.trust.svnFloor ∧ (setAgreement c x
    d).trust.zeroized = d.trust.zeroized ∧ (setAgreement c x d).trust.tagLines = d.trust.tagLines ∧ (setAgreement c x
    d).trust.tagWrites = d.trust.tagWrites ∧ (setAgreement c x d).trust.tagLocked = d.trust.tagLocked ∧ (setAgreement c x
    d).trust.reports = d.trust.reports ∧ (setAgreement c x d).trust.reportCount = d.trust.reportCount ∧ (setAgreement c x
    d).trust.policy = d.trust.policy ∧ (setAgreement c x d).trust.policyNext = d.trust.policyNext :=
  ⟨rfl, rfl, rfl, rfl, rfl, rfl, rfl, rfl, rfl, rfl, rfl, rfl, rfl, rfl, rfl, rfl, rfl, rfl, rfl, rfl, rfl, rfl, rfl, rfl, rfl, rfl,
   rfl, rfl, rfl, rfl, rfl, rfl, rfl, rfl, rfl, rfl, rfl, rfl⟩
@[simp] theorem agreement_setAgreement_same (c : Nat) (x : Agreement) (d : Dev) : agreement (setAgreement c x d) c = x := by
  simp [agreement, setAgreement]
theorem agreement_setAgreement_ne {c j : Nat} (x : Agreement) (d : Dev) (h : j ≠ c) : agreement (setAgreement c x d) j = agreement d j := by
  simp [agreement, setAgreement, tabGet_tabPut_ne, h]
@[simp] theorem setEngTx_keeps (n : Nat) (e : EngineTx) (d : Dev) :
    (setEngTx n e d).mail = d.mail ∧ (setEngTx n e d).fw = d.fw ∧ (setEngTx n e d).links = d.links ∧ (setEngTx n e d).ec = d.ec ∧
    (setEngTx n e d).causes = d.causes ∧ (setEngTx n e d).causeMs = d.causeMs ∧ (setEngTx n e d).brakes = d.brakes ∧ (setEngTx n e
    d).trust = d.trust ∧ (setEngTx n e d).meas = d.meas ∧ (setEngTx n e d).bench = d.bench ∧ (setEngTx n e d).power = d.power ∧
    (setEngTx n e d).pins = d.pins ∧ (setEngTx n e d).clock = d.clock ∧ (setEngTx n e d).time = d.time ∧ (setEngTx n e d).timeCfg =
    d.timeCfg ∧ (setEngTx n e d).mem = d.mem ∧ (setEngTx n e d).rx = d.rx ∧ (setEngTx n e d).pool = d.pool ∧ (setEngTx n e d).frames =
    d.frames ∧ (setEngTx n e d).slots = d.slots ∧ (setEngTx n e d).cipher = d.cipher ∧ (setEngTx n e d).defects = d.defects ∧
    (setEngTx n e d).twins = d.twins ∧ (setEngTx n e d).clients = d.clients ∧ (setEngTx n e d).ixtas = d.ixtas ∧ (setEngTx n e d).free
    = d.free ∧ (setEngTx n e d).tx.coaches = d.tx.coaches ∧ (setEngTx n e d).tx.bias = d.tx.bias ∧ (setEngTx n e d).tx.dacs =
    d.tx.dacs ∧ (setEngTx n e d).tx.hitches = d.tx.hitches ∧ (setEngTx n e d).tx.peaks = d.tx.peaks :=
  ⟨rfl, rfl, rfl, rfl, rfl, rfl, rfl, rfl, rfl, rfl, rfl, rfl, rfl, rfl, rfl, rfl, rfl, rfl, rfl, rfl, rfl, rfl, rfl, rfl, rfl, rfl,
   rfl, rfl, rfl, rfl, rfl⟩
@[simp] theorem engTx_setEngTx_same (n : Nat) (e : EngineTx) (d : Dev) : engTx (setEngTx n e d) n = e := by
  simp [engTx, setEngTx]
theorem engTx_setEngTx_ne {n j : Nat} (e : EngineTx) (d : Dev) (h : j ≠ n) : engTx (setEngTx n e d) j = engTx d j := by
  simp [engTx, setEngTx, tabGet_tabPut_ne, h]
@[simp] theorem setCoachTx_keeps (c : Nat) (x : CoachTx) (d : Dev) :
    (setCoachTx c x d).mail = d.mail ∧ (setCoachTx c x d).fw = d.fw ∧ (setCoachTx c x d).links = d.links ∧ (setCoachTx c x d).ec =
    d.ec ∧ (setCoachTx c x d).causes = d.causes ∧ (setCoachTx c x d).causeMs = d.causeMs ∧ (setCoachTx c x d).brakes = d.brakes ∧
    (setCoachTx c x d).trust = d.trust ∧ (setCoachTx c x d).meas = d.meas ∧ (setCoachTx c x d).bench = d.bench ∧ (setCoachTx c x
    d).power = d.power ∧ (setCoachTx c x d).pins = d.pins ∧ (setCoachTx c x d).clock = d.clock ∧ (setCoachTx c x d).time = d.time ∧
    (setCoachTx c x d).timeCfg = d.timeCfg ∧ (setCoachTx c x d).mem = d.mem ∧ (setCoachTx c x d).rx = d.rx ∧ (setCoachTx c x d).pool =
    d.pool ∧ (setCoachTx c x d).frames = d.frames ∧ (setCoachTx c x d).slots = d.slots ∧ (setCoachTx c x d).cipher = d.cipher ∧
    (setCoachTx c x d).defects = d.defects ∧ (setCoachTx c x d).twins = d.twins ∧ (setCoachTx c x d).clients = d.clients ∧ (setCoachTx
    c x d).ixtas = d.ixtas ∧ (setCoachTx c x d).free = d.free ∧ (setCoachTx c x d).tx.engines = d.tx.engines ∧ (setCoachTx c x
    d).tx.bias = d.tx.bias ∧ (setCoachTx c x d).tx.dacs = d.tx.dacs ∧ (setCoachTx c x d).tx.hitches = d.tx.hitches ∧ (setCoachTx c x
    d).tx.peaks = d.tx.peaks :=
  ⟨rfl, rfl, rfl, rfl, rfl, rfl, rfl, rfl, rfl, rfl, rfl, rfl, rfl, rfl, rfl, rfl, rfl, rfl, rfl, rfl, rfl, rfl, rfl, rfl, rfl, rfl,
   rfl, rfl, rfl, rfl, rfl⟩
@[simp] theorem coachTx_setCoachTx_same (c : Nat) (x : CoachTx) (d : Dev) : coachTx (setCoachTx c x d) c = x := by
  simp [coachTx, setCoachTx]
theorem coachTx_setCoachTx_ne {c j : Nat} (x : CoachTx) (d : Dev) (h : j ≠ c) : coachTx (setCoachTx c x d) j = coachTx d j := by
  simp [coachTx, setCoachTx, tabGet_tabPut_ne, h]
@[simp] theorem setBias_keeps (b : Nat) (x : BiasOutput) (d : Dev) :
    (setBias b x d).mail = d.mail ∧ (setBias b x d).fw = d.fw ∧ (setBias b x d).links = d.links ∧ (setBias b x d).ec = d.ec ∧ (setBias
    b x d).causes = d.causes ∧ (setBias b x d).causeMs = d.causeMs ∧ (setBias b x d).brakes = d.brakes ∧ (setBias b x d).trust =
    d.trust ∧ (setBias b x d).meas = d.meas ∧ (setBias b x d).bench = d.bench ∧ (setBias b x d).power = d.power ∧ (setBias b x d).pins
    = d.pins ∧ (setBias b x d).clock = d.clock ∧ (setBias b x d).time = d.time ∧ (setBias b x d).timeCfg = d.timeCfg ∧ (setBias b x
    d).mem = d.mem ∧ (setBias b x d).rx = d.rx ∧ (setBias b x d).pool = d.pool ∧ (setBias b x d).frames = d.frames ∧ (setBias b x
    d).slots = d.slots ∧ (setBias b x d).cipher = d.cipher ∧ (setBias b x d).defects = d.defects ∧ (setBias b x d).twins = d.twins ∧
    (setBias b x d).clients = d.clients ∧ (setBias b x d).ixtas = d.ixtas ∧ (setBias b x d).free = d.free ∧ (setBias b x d).tx.engines
    = d.tx.engines ∧ (setBias b x d).tx.coaches = d.tx.coaches ∧ (setBias b x d).tx.dacs = d.tx.dacs ∧ (setBias b x d).tx.hitches =
    d.tx.hitches ∧ (setBias b x d).tx.peaks = d.tx.peaks :=
  ⟨rfl, rfl, rfl, rfl, rfl, rfl, rfl, rfl, rfl, rfl, rfl, rfl, rfl, rfl, rfl, rfl, rfl, rfl, rfl, rfl, rfl, rfl, rfl, rfl, rfl, rfl,
   rfl, rfl, rfl, rfl, rfl⟩
@[simp] theorem biasOf_setBias_same (b : Nat) (x : BiasOutput) (d : Dev) : biasOf (setBias b x d) b = x := by
  simp [biasOf, setBias]
theorem biasOf_setBias_ne {b j : Nat} (x : BiasOutput) (d : Dev) (h : j ≠ b) : biasOf (setBias b x d) j = biasOf d j := by
  simp [biasOf, setBias, tabGet_tabPut_ne, h]
@[simp] theorem setDac_keeps (i : Nat) (x : Preemph) (d : Dev) :
    (setDac i x d).mail = d.mail ∧ (setDac i x d).fw = d.fw ∧ (setDac i x d).links = d.links ∧ (setDac i x d).ec = d.ec ∧ (setDac i x
    d).causes = d.causes ∧ (setDac i x d).causeMs = d.causeMs ∧ (setDac i x d).brakes = d.brakes ∧ (setDac i x d).trust = d.trust ∧
    (setDac i x d).meas = d.meas ∧ (setDac i x d).bench = d.bench ∧ (setDac i x d).power = d.power ∧ (setDac i x d).pins = d.pins ∧
    (setDac i x d).clock = d.clock ∧ (setDac i x d).time = d.time ∧ (setDac i x d).timeCfg = d.timeCfg ∧ (setDac i x d).mem = d.mem ∧
    (setDac i x d).rx = d.rx ∧ (setDac i x d).pool = d.pool ∧ (setDac i x d).frames = d.frames ∧ (setDac i x d).slots = d.slots ∧
    (setDac i x d).cipher = d.cipher ∧ (setDac i x d).defects = d.defects ∧ (setDac i x d).twins = d.twins ∧ (setDac i x d).clients =
    d.clients ∧ (setDac i x d).ixtas = d.ixtas ∧ (setDac i x d).free = d.free ∧ (setDac i x d).tx.engines = d.tx.engines ∧ (setDac i x
    d).tx.coaches = d.tx.coaches ∧ (setDac i x d).tx.bias = d.tx.bias ∧ (setDac i x d).tx.hitches = d.tx.hitches ∧ (setDac i x
    d).tx.peaks = d.tx.peaks :=
  ⟨rfl, rfl, rfl, rfl, rfl, rfl, rfl, rfl, rfl, rfl, rfl, rfl, rfl, rfl, rfl, rfl, rfl, rfl, rfl, rfl, rfl, rfl, rfl, rfl, rfl, rfl,
   rfl, rfl, rfl, rfl, rfl⟩
@[simp] theorem dacOf_setDac_same (i : Nat) (x : Preemph) (d : Dev) : dacOf (setDac i x d) i = x := by
  simp [dacOf, setDac]
theorem dacOf_setDac_ne {i j : Nat} (x : Preemph) (d : Dev) (h : j ≠ i) : dacOf (setDac i x d) j = dacOf d j := by
  simp [dacOf, setDac, tabGet_tabPut_ne, h]
@[simp] theorem setHitch_keeps (n : Nat) (x : Hitching) (d : Dev) :
    (setHitch n x d).mail = d.mail ∧ (setHitch n x d).fw = d.fw ∧ (setHitch n x d).links = d.links ∧ (setHitch n x d).ec = d.ec ∧
    (setHitch n x d).causes = d.causes ∧ (setHitch n x d).causeMs = d.causeMs ∧ (setHitch n x d).brakes = d.brakes ∧ (setHitch n x
    d).trust = d.trust ∧ (setHitch n x d).meas = d.meas ∧ (setHitch n x d).bench = d.bench ∧ (setHitch n x d).power = d.power ∧
    (setHitch n x d).pins = d.pins ∧ (setHitch n x d).clock = d.clock ∧ (setHitch n x d).time = d.time ∧ (setHitch n x d).timeCfg =
    d.timeCfg ∧ (setHitch n x d).mem = d.mem ∧ (setHitch n x d).rx = d.rx ∧ (setHitch n x d).pool = d.pool ∧ (setHitch n x d).frames =
    d.frames ∧ (setHitch n x d).slots = d.slots ∧ (setHitch n x d).cipher = d.cipher ∧ (setHitch n x d).defects = d.defects ∧
    (setHitch n x d).twins = d.twins ∧ (setHitch n x d).clients = d.clients ∧ (setHitch n x d).ixtas = d.ixtas ∧ (setHitch n x d).free
    = d.free ∧ (setHitch n x d).tx.engines = d.tx.engines ∧ (setHitch n x d).tx.coaches = d.tx.coaches ∧ (setHitch n x d).tx.bias =
    d.tx.bias ∧ (setHitch n x d).tx.dacs = d.tx.dacs ∧ (setHitch n x d).tx.peaks = d.tx.peaks :=
  ⟨rfl, rfl, rfl, rfl, rfl, rfl, rfl, rfl, rfl, rfl, rfl, rfl, rfl, rfl, rfl, rfl, rfl, rfl, rfl, rfl, rfl, rfl, rfl, rfl, rfl, rfl,
   rfl, rfl, rfl, rfl, rfl⟩
@[simp] theorem hitchOf_setHitch_same (n : Nat) (x : Hitching) (d : Dev) : hitchOf (setHitch n x d) n = x := by
  simp [hitchOf, setHitch]
theorem hitchOf_setHitch_ne {n j : Nat} (x : Hitching) (d : Dev) (h : j ≠ n) : hitchOf (setHitch n x d) j = hitchOf d j := by
  simp [hitchOf, setHitch, tabGet_tabPut_ne, h]
@[simp] theorem setEngRx_keeps (n : Nat) (e : EngineRx) (d : Dev) :
    (setEngRx n e d).mail = d.mail ∧ (setEngRx n e d).fw = d.fw ∧ (setEngRx n e d).links = d.links ∧ (setEngRx n e d).ec = d.ec ∧
    (setEngRx n e d).causes = d.causes ∧ (setEngRx n e d).causeMs = d.causeMs ∧ (setEngRx n e d).brakes = d.brakes ∧ (setEngRx n e
    d).trust = d.trust ∧ (setEngRx n e d).meas = d.meas ∧ (setEngRx n e d).bench = d.bench ∧ (setEngRx n e d).power = d.power ∧
    (setEngRx n e d).pins = d.pins ∧ (setEngRx n e d).clock = d.clock ∧ (setEngRx n e d).time = d.time ∧ (setEngRx n e d).timeCfg =
    d.timeCfg ∧ (setEngRx n e d).mem = d.mem ∧ (setEngRx n e d).tx = d.tx ∧ (setEngRx n e d).pool = d.pool ∧ (setEngRx n e d).frames =
    d.frames ∧ (setEngRx n e d).slots = d.slots ∧ (setEngRx n e d).cipher = d.cipher ∧ (setEngRx n e d).defects = d.defects ∧
    (setEngRx n e d).twins = d.twins ∧ (setEngRx n e d).clients = d.clients ∧ (setEngRx n e d).ixtas = d.ixtas ∧ (setEngRx n e d).free
    = d.free ∧ (setEngRx n e d).rx.coaches = d.rx.coaches ∧ (setEngRx n e d).rx.eq = d.rx.eq :=
  ⟨rfl, rfl, rfl, rfl, rfl, rfl, rfl, rfl, rfl, rfl, rfl, rfl, rfl, rfl, rfl, rfl, rfl, rfl, rfl, rfl, rfl, rfl, rfl, rfl, rfl, rfl,
   rfl, rfl⟩
@[simp] theorem engRx_setEngRx_same (n : Nat) (e : EngineRx) (d : Dev) : engRx (setEngRx n e d) n = e := by
  simp [engRx, setEngRx]
theorem engRx_setEngRx_ne {n j : Nat} (e : EngineRx) (d : Dev) (h : j ≠ n) : engRx (setEngRx n e d) j = engRx d j := by
  simp [engRx, setEngRx, tabGet_tabPut_ne, h]
@[simp] theorem setCoachRx_keeps (c : Nat) (x : CoachRx) (d : Dev) :
    (setCoachRx c x d).mail = d.mail ∧ (setCoachRx c x d).fw = d.fw ∧ (setCoachRx c x d).links = d.links ∧ (setCoachRx c x d).ec =
    d.ec ∧ (setCoachRx c x d).causes = d.causes ∧ (setCoachRx c x d).causeMs = d.causeMs ∧ (setCoachRx c x d).brakes = d.brakes ∧
    (setCoachRx c x d).trust = d.trust ∧ (setCoachRx c x d).meas = d.meas ∧ (setCoachRx c x d).bench = d.bench ∧ (setCoachRx c x
    d).power = d.power ∧ (setCoachRx c x d).pins = d.pins ∧ (setCoachRx c x d).clock = d.clock ∧ (setCoachRx c x d).time = d.time ∧
    (setCoachRx c x d).timeCfg = d.timeCfg ∧ (setCoachRx c x d).mem = d.mem ∧ (setCoachRx c x d).tx = d.tx ∧ (setCoachRx c x d).pool =
    d.pool ∧ (setCoachRx c x d).frames = d.frames ∧ (setCoachRx c x d).slots = d.slots ∧ (setCoachRx c x d).cipher = d.cipher ∧
    (setCoachRx c x d).defects = d.defects ∧ (setCoachRx c x d).twins = d.twins ∧ (setCoachRx c x d).clients = d.clients ∧ (setCoachRx
    c x d).ixtas = d.ixtas ∧ (setCoachRx c x d).free = d.free ∧ (setCoachRx c x d).rx.engines = d.rx.engines ∧ (setCoachRx c x
    d).rx.eq = d.rx.eq :=
  ⟨rfl, rfl, rfl, rfl, rfl, rfl, rfl, rfl, rfl, rfl, rfl, rfl, rfl, rfl, rfl, rfl, rfl, rfl, rfl, rfl, rfl, rfl, rfl, rfl, rfl, rfl,
   rfl, rfl⟩
@[simp] theorem coachRx_setCoachRx_same (c : Nat) (x : CoachRx) (d : Dev) : coachRx (setCoachRx c x d) c = x := by
  simp [coachRx, setCoachRx]
theorem coachRx_setCoachRx_ne {c j : Nat} (x : CoachRx) (d : Dev) (h : j ≠ c) : coachRx (setCoachRx c x d) j = coachRx d j := by
  simp [coachRx, setCoachRx, tabGet_tabPut_ne, h]
@[simp] theorem setIv_keeps (c : Nat) (x : Interval) (d : Dev) :
    (setIv c x d).mail = d.mail ∧ (setIv c x d).fw = d.fw ∧ (setIv c x d).links = d.links ∧ (setIv c x d).ec = d.ec ∧ (setIv c x
    d).causes = d.causes ∧ (setIv c x d).causeMs = d.causeMs ∧ (setIv c x d).brakes = d.brakes ∧ (setIv c x d).trust = d.trust ∧
    (setIv c x d).meas = d.meas ∧ (setIv c x d).bench = d.bench ∧ (setIv c x d).power = d.power ∧ (setIv c x d).pins = d.pins ∧ (setIv
    c x d).clock = d.clock ∧ (setIv c x d).time = d.time ∧ (setIv c x d).timeCfg = d.timeCfg ∧ (setIv c x d).mem = d.mem ∧ (setIv c x
    d).tx = d.tx ∧ (setIv c x d).rx = d.rx ∧ (setIv c x d).frames = d.frames ∧ (setIv c x d).slots = d.slots ∧ (setIv c x d).cipher =
    d.cipher ∧ (setIv c x d).defects = d.defects ∧ (setIv c x d).twins = d.twins ∧ (setIv c x d).clients = d.clients ∧ (setIv c x
    d).ixtas = d.ixtas ∧ (setIv c x d).free = d.free ∧ (setIv c x d).pool.cfg = d.pool.cfg ∧ (setIv c x d).pool.cfgNext =
    d.pool.cfgNext ∧ (setIv c x d).pool.caps = d.pool.caps ∧ (setIv c x d).pool.capsNext = d.pool.capsNext ∧ (setIv c x d).pool.point
    = d.pool.point ∧ (setIv c x d).pool.rail = d.pool.rail ∧ (setIv c x d).pool.cws = d.pool.cws ∧ (setIv c x d).pool.arrivals =
    d.pool.arrivals ∧ (setIv c x d).pool.epochOn = d.pool.epochOn ∧ (setIv c x d).pool.budget = d.pool.budget ∧ (setIv c x
    d).pool.remaining = d.pool.remaining ∧ (setIv c x d).pool.granted = d.pool.granted ∧ (setIv c x d).pool.baseRun = d.pool.baseRun ∧
    (setIv c x d).pool.extraRun = d.pool.extraRun ∧ (setIv c x d).pool.extSize = d.pool.extSize ∧ (setIv c x d).pool.lastBudget =
    d.pool.lastBudget ∧ (setIv c x d).pool.lastSize = d.pool.lastSize ∧ (setIv c x d).pool.extStarved = d.pool.extStarved ∧ (setIv c x
    d).pool.demand = d.pool.demand ∧ (setIv c x d).pool.window = d.pool.window ∧ (setIv c x d).pool.quiet = d.pool.quiet ∧ (setIv c x
    d).pool.last = d.pool.last ∧ (setIv c x d).pool.raised = d.pool.raised :=
  ⟨rfl, rfl, rfl, rfl, rfl, rfl, rfl, rfl, rfl, rfl, rfl, rfl, rfl, rfl, rfl, rfl, rfl, rfl, rfl, rfl, rfl, rfl, rfl, rfl, rfl, rfl,
   rfl, rfl, rfl, rfl, rfl, rfl, rfl, rfl, rfl, rfl, rfl, rfl, rfl, rfl, rfl, rfl, rfl, rfl, rfl, rfl, rfl, rfl, rfl⟩
@[simp] theorem setFrameTx_keeps (c : Nat) (x : FrameTx) (d : Dev) :
    (setFrameTx c x d).mail = d.mail ∧ (setFrameTx c x d).fw = d.fw ∧ (setFrameTx c x d).links = d.links ∧ (setFrameTx c x d).ec =
    d.ec ∧ (setFrameTx c x d).causes = d.causes ∧ (setFrameTx c x d).causeMs = d.causeMs ∧ (setFrameTx c x d).brakes = d.brakes ∧
    (setFrameTx c x d).trust = d.trust ∧ (setFrameTx c x d).meas = d.meas ∧ (setFrameTx c x d).bench = d.bench ∧ (setFrameTx c x
    d).power = d.power ∧ (setFrameTx c x d).pins = d.pins ∧ (setFrameTx c x d).clock = d.clock ∧ (setFrameTx c x d).time = d.time ∧
    (setFrameTx c x d).timeCfg = d.timeCfg ∧ (setFrameTx c x d).mem = d.mem ∧ (setFrameTx c x d).tx = d.tx ∧ (setFrameTx c x d).rx =
    d.rx ∧ (setFrameTx c x d).pool = d.pool ∧ (setFrameTx c x d).slots = d.slots ∧ (setFrameTx c x d).cipher = d.cipher ∧ (setFrameTx
    c x d).defects = d.defects ∧ (setFrameTx c x d).twins = d.twins ∧ (setFrameTx c x d).clients = d.clients ∧ (setFrameTx c x
    d).ixtas = d.ixtas ∧ (setFrameTx c x d).free = d.free ∧ (setFrameTx c x d).frames.rx = d.frames.rx :=
  ⟨rfl, rfl, rfl, rfl, rfl, rfl, rfl, rfl, rfl, rfl, rfl, rfl, rfl, rfl, rfl, rfl, rfl, rfl, rfl, rfl, rfl, rfl, rfl, rfl, rfl, rfl,
   rfl⟩
@[simp] theorem frameTx_setFrameTx_same (c : Nat) (x : FrameTx) (d : Dev) : frameTx (setFrameTx c x d) c = x := by
  simp [frameTx, setFrameTx]
theorem frameTx_setFrameTx_ne {c j : Nat} (x : FrameTx) (d : Dev) (h : j ≠ c) : frameTx (setFrameTx c x d) j = frameTx d j := by
  simp [frameTx, setFrameTx, tabGet_tabPut_ne, h]
@[simp] theorem setFrameRx_keeps (c : Nat) (x : FrameRx) (d : Dev) :
    (setFrameRx c x d).mail = d.mail ∧ (setFrameRx c x d).fw = d.fw ∧ (setFrameRx c x d).links = d.links ∧ (setFrameRx c x d).ec =
    d.ec ∧ (setFrameRx c x d).causes = d.causes ∧ (setFrameRx c x d).causeMs = d.causeMs ∧ (setFrameRx c x d).brakes = d.brakes ∧
    (setFrameRx c x d).trust = d.trust ∧ (setFrameRx c x d).meas = d.meas ∧ (setFrameRx c x d).bench = d.bench ∧ (setFrameRx c x
    d).power = d.power ∧ (setFrameRx c x d).pins = d.pins ∧ (setFrameRx c x d).clock = d.clock ∧ (setFrameRx c x d).time = d.time ∧
    (setFrameRx c x d).timeCfg = d.timeCfg ∧ (setFrameRx c x d).mem = d.mem ∧ (setFrameRx c x d).tx = d.tx ∧ (setFrameRx c x d).rx =
    d.rx ∧ (setFrameRx c x d).pool = d.pool ∧ (setFrameRx c x d).slots = d.slots ∧ (setFrameRx c x d).cipher = d.cipher ∧ (setFrameRx
    c x d).defects = d.defects ∧ (setFrameRx c x d).twins = d.twins ∧ (setFrameRx c x d).clients = d.clients ∧ (setFrameRx c x
    d).ixtas = d.ixtas ∧ (setFrameRx c x d).free = d.free ∧ (setFrameRx c x d).frames.tx = d.frames.tx :=
  ⟨rfl, rfl, rfl, rfl, rfl, rfl, rfl, rfl, rfl, rfl, rfl, rfl, rfl, rfl, rfl, rfl, rfl, rfl, rfl, rfl, rfl, rfl, rfl, rfl, rfl, rfl,
   rfl⟩
@[simp] theorem frameRx_setFrameRx_same (c : Nat) (x : FrameRx) (d : Dev) : frameRx (setFrameRx c x d) c = x := by
  simp [frameRx, setFrameRx]
theorem frameRx_setFrameRx_ne {c j : Nat} (x : FrameRx) (d : Dev) (h : j ≠ c) : frameRx (setFrameRx c x d) j = frameRx d j := by
  simp [frameRx, setFrameRx, tabGet_tabPut_ne, h]
@[simp] theorem setEngineSwap_keeps (n : Nat) (x : EngineSwap) (d : Dev) :
    (setEngineSwap n x d).mail = d.mail ∧ (setEngineSwap n x d).fw = d.fw ∧ (setEngineSwap n x d).links = d.links ∧ (setEngineSwap n x
    d).ec = d.ec ∧ (setEngineSwap n x d).causes = d.causes ∧ (setEngineSwap n x d).causeMs = d.causeMs ∧ (setEngineSwap n x d).brakes
    = d.brakes ∧ (setEngineSwap n x d).trust = d.trust ∧ (setEngineSwap n x d).meas = d.meas ∧ (setEngineSwap n x d).bench = d.bench ∧
    (setEngineSwap n x d).power = d.power ∧ (setEngineSwap n x d).pins = d.pins ∧ (setEngineSwap n x d).clock = d.clock ∧
    (setEngineSwap n x d).time = d.time ∧ (setEngineSwap n x d).timeCfg = d.timeCfg ∧ (setEngineSwap n x d).mem = d.mem ∧
    (setEngineSwap n x d).tx = d.tx ∧ (setEngineSwap n x d).rx = d.rx ∧ (setEngineSwap n x d).pool = d.pool ∧ (setEngineSwap n x
    d).frames = d.frames ∧ (setEngineSwap n x d).cipher = d.cipher ∧ (setEngineSwap n x d).defects = d.defects ∧ (setEngineSwap n x
    d).twins = d.twins ∧ (setEngineSwap n x d).clients = d.clients ∧ (setEngineSwap n x d).ixtas = d.ixtas ∧ (setEngineSwap n x
    d).free = d.free ∧ (setEngineSwap n x d).slots.txPage0 = d.slots.txPage0 ∧ (setEngineSwap n x d).slots.txPage1 = d.slots.txPage1 ∧
    (setEngineSwap n x d).slots.rxPage0 = d.slots.rxPage0 ∧ (setEngineSwap n x d).slots.rxPage1 = d.slots.rxPage1 ∧ (setEngineSwap n x
    d).slots.coaches = d.slots.coaches ∧ (setEngineSwap n x d).slots.tx = d.slots.tx ∧ (setEngineSwap n x d).slots.rx = d.slots.rx ∧
    (setEngineSwap n x d).slots.spillEnable = d.slots.spillEnable ∧ (setEngineSwap n x d).slots.spillRegion = d.slots.spillRegion ∧
    (setEngineSwap n x d).slots.demap = d.slots.demap :=
  ⟨rfl, rfl, rfl, rfl, rfl, rfl, rfl, rfl, rfl, rfl, rfl, rfl, rfl, rfl, rfl, rfl, rfl, rfl, rfl, rfl, rfl, rfl, rfl, rfl, rfl, rfl,
   rfl, rfl, rfl, rfl, rfl, rfl, rfl, rfl, rfl, rfl⟩
@[simp] theorem engineSwap_setEngineSwap_same (n : Nat) (x : EngineSwap) (d : Dev) : engineSwap (setEngineSwap n x d) n = x := by
  simp [engineSwap, setEngineSwap]
theorem engineSwap_setEngineSwap_ne {n j : Nat} (x : EngineSwap) (d : Dev) (h : j ≠ n) : engineSwap (setEngineSwap n x d) j = engineSwap d j := by
  simp [engineSwap, setEngineSwap, tabGet_tabPut_ne, h]
@[simp] theorem setCoachSwap_keeps (c : Nat) (x : CoachSwap) (d : Dev) :
    (setCoachSwap c x d).mail = d.mail ∧ (setCoachSwap c x d).fw = d.fw ∧ (setCoachSwap c x d).links = d.links ∧ (setCoachSwap c x
    d).ec = d.ec ∧ (setCoachSwap c x d).causes = d.causes ∧ (setCoachSwap c x d).causeMs = d.causeMs ∧ (setCoachSwap c x d).brakes =
    d.brakes ∧ (setCoachSwap c x d).trust = d.trust ∧ (setCoachSwap c x d).meas = d.meas ∧ (setCoachSwap c x d).bench = d.bench ∧
    (setCoachSwap c x d).power = d.power ∧ (setCoachSwap c x d).pins = d.pins ∧ (setCoachSwap c x d).clock = d.clock ∧ (setCoachSwap c
    x d).time = d.time ∧ (setCoachSwap c x d).timeCfg = d.timeCfg ∧ (setCoachSwap c x d).mem = d.mem ∧ (setCoachSwap c x d).tx = d.tx ∧
    (setCoachSwap c x d).rx = d.rx ∧ (setCoachSwap c x d).pool = d.pool ∧ (setCoachSwap c x d).frames = d.frames ∧ (setCoachSwap c x
    d).cipher = d.cipher ∧ (setCoachSwap c x d).defects = d.defects ∧ (setCoachSwap c x d).twins = d.twins ∧ (setCoachSwap c x
    d).clients = d.clients ∧ (setCoachSwap c x d).ixtas = d.ixtas ∧ (setCoachSwap c x d).free = d.free ∧ (setCoachSwap c x
    d).slots.txPage0 = d.slots.txPage0 ∧ (setCoachSwap c x d).slots.txPage1 = d.slots.txPage1 ∧ (setCoachSwap c x d).slots.rxPage0 =
    d.slots.rxPage0 ∧ (setCoachSwap c x d).slots.rxPage1 = d.slots.rxPage1 ∧ (setCoachSwap c x d).slots.engines = d.slots.engines ∧
    (setCoachSwap c x d).slots.tx = d.slots.tx ∧ (setCoachSwap c x d).slots.rx = d.slots.rx ∧ (setCoachSwap c x d).slots.spillEnable =
    d.slots.spillEnable ∧ (setCoachSwap c x d).slots.spillRegion = d.slots.spillRegion ∧ (setCoachSwap c x d).slots.demap =
    d.slots.demap :=
  ⟨rfl, rfl, rfl, rfl, rfl, rfl, rfl, rfl, rfl, rfl, rfl, rfl, rfl, rfl, rfl, rfl, rfl, rfl, rfl, rfl, rfl, rfl, rfl, rfl, rfl, rfl,
   rfl, rfl, rfl, rfl, rfl, rfl, rfl, rfl, rfl, rfl⟩
@[simp] theorem coachSwap_setCoachSwap_same (c : Nat) (x : CoachSwap) (d : Dev) : coachSwap (setCoachSwap c x d) c = x := by
  simp [coachSwap, setCoachSwap]
theorem coachSwap_setCoachSwap_ne {c j : Nat} (x : CoachSwap) (d : Dev) (h : j ≠ c) : coachSwap (setCoachSwap c x d) j = coachSwap d j := by
  simp [coachSwap, setCoachSwap, tabGet_tabPut_ne, h]
@[simp] theorem setTxQueue_keeps (q : Nat) (x : TxQueue) (d : Dev) :
    (setTxQueue q x d).mail = d.mail ∧ (setTxQueue q x d).fw = d.fw ∧ (setTxQueue q x d).links = d.links ∧ (setTxQueue q x d).ec =
    d.ec ∧ (setTxQueue q x d).causes = d.causes ∧ (setTxQueue q x d).causeMs = d.causeMs ∧ (setTxQueue q x d).brakes = d.brakes ∧
    (setTxQueue q x d).trust = d.trust ∧ (setTxQueue q x d).meas = d.meas ∧ (setTxQueue q x d).bench = d.bench ∧ (setTxQueue q x
    d).power = d.power ∧ (setTxQueue q x d).pins = d.pins ∧ (setTxQueue q x d).clock = d.clock ∧ (setTxQueue q x d).time = d.time ∧
    (setTxQueue q x d).timeCfg = d.timeCfg ∧ (setTxQueue q x d).mem = d.mem ∧ (setTxQueue q x d).tx = d.tx ∧ (setTxQueue q x d).rx =
    d.rx ∧ (setTxQueue q x d).pool = d.pool ∧ (setTxQueue q x d).frames = d.frames ∧ (setTxQueue q x d).cipher = d.cipher ∧
    (setTxQueue q x d).defects = d.defects ∧ (setTxQueue q x d).twins = d.twins ∧ (setTxQueue q x d).clients = d.clients ∧ (setTxQueue
    q x d).ixtas = d.ixtas ∧ (setTxQueue q x d).free = d.free ∧ (setTxQueue q x d).slots.txPage0 = d.slots.txPage0 ∧ (setTxQueue q x
    d).slots.txPage1 = d.slots.txPage1 ∧ (setTxQueue q x d).slots.rxPage0 = d.slots.rxPage0 ∧ (setTxQueue q x d).slots.rxPage1 =
    d.slots.rxPage1 ∧ (setTxQueue q x d).slots.engines = d.slots.engines ∧ (setTxQueue q x d).slots.coaches = d.slots.coaches ∧
    (setTxQueue q x d).slots.rx = d.slots.rx ∧ (setTxQueue q x d).slots.spillEnable = d.slots.spillEnable ∧ (setTxQueue q x
    d).slots.spillRegion = d.slots.spillRegion ∧ (setTxQueue q x d).slots.demap = d.slots.demap :=
  ⟨rfl, rfl, rfl, rfl, rfl, rfl, rfl, rfl, rfl, rfl, rfl, rfl, rfl, rfl, rfl, rfl, rfl, rfl, rfl, rfl, rfl, rfl, rfl, rfl, rfl, rfl,
   rfl, rfl, rfl, rfl, rfl, rfl, rfl, rfl, rfl, rfl⟩
@[simp] theorem txQueue_setTxQueue_same (q : Nat) (x : TxQueue) (d : Dev) : txQueue (setTxQueue q x d) q = x := by
  simp [txQueue, setTxQueue]
theorem txQueue_setTxQueue_ne {q j : Nat} (x : TxQueue) (d : Dev) (h : j ≠ q) : txQueue (setTxQueue q x d) j = txQueue d j := by
  simp [txQueue, setTxQueue, tabGet_tabPut_ne, h]
@[simp] theorem setRxQueue_keeps (q : Nat) (x : RxQueue) (d : Dev) :
    (setRxQueue q x d).mail = d.mail ∧ (setRxQueue q x d).fw = d.fw ∧ (setRxQueue q x d).links = d.links ∧ (setRxQueue q x d).ec =
    d.ec ∧ (setRxQueue q x d).causes = d.causes ∧ (setRxQueue q x d).causeMs = d.causeMs ∧ (setRxQueue q x d).brakes = d.brakes ∧
    (setRxQueue q x d).trust = d.trust ∧ (setRxQueue q x d).meas = d.meas ∧ (setRxQueue q x d).bench = d.bench ∧ (setRxQueue q x
    d).power = d.power ∧ (setRxQueue q x d).pins = d.pins ∧ (setRxQueue q x d).clock = d.clock ∧ (setRxQueue q x d).time = d.time ∧
    (setRxQueue q x d).timeCfg = d.timeCfg ∧ (setRxQueue q x d).mem = d.mem ∧ (setRxQueue q x d).tx = d.tx ∧ (setRxQueue q x d).rx =
    d.rx ∧ (setRxQueue q x d).pool = d.pool ∧ (setRxQueue q x d).frames = d.frames ∧ (setRxQueue q x d).cipher = d.cipher ∧
    (setRxQueue q x d).defects = d.defects ∧ (setRxQueue q x d).twins = d.twins ∧ (setRxQueue q x d).clients = d.clients ∧ (setRxQueue
    q x d).ixtas = d.ixtas ∧ (setRxQueue q x d).free = d.free ∧ (setRxQueue q x d).slots.txPage0 = d.slots.txPage0 ∧ (setRxQueue q x
    d).slots.txPage1 = d.slots.txPage1 ∧ (setRxQueue q x d).slots.rxPage0 = d.slots.rxPage0 ∧ (setRxQueue q x d).slots.rxPage1 =
    d.slots.rxPage1 ∧ (setRxQueue q x d).slots.engines = d.slots.engines ∧ (setRxQueue q x d).slots.coaches = d.slots.coaches ∧
    (setRxQueue q x d).slots.tx = d.slots.tx ∧ (setRxQueue q x d).slots.spillEnable = d.slots.spillEnable ∧ (setRxQueue q x
    d).slots.spillRegion = d.slots.spillRegion ∧ (setRxQueue q x d).slots.demap = d.slots.demap :=
  ⟨rfl, rfl, rfl, rfl, rfl, rfl, rfl, rfl, rfl, rfl, rfl, rfl, rfl, rfl, rfl, rfl, rfl, rfl, rfl, rfl, rfl, rfl, rfl, rfl, rfl, rfl,
   rfl, rfl, rfl, rfl, rfl, rfl, rfl, rfl, rfl, rfl⟩
@[simp] theorem rxQueue_setRxQueue_same (q : Nat) (x : RxQueue) (d : Dev) : rxQueue (setRxQueue q x d) q = x := by
  simp [rxQueue, setRxQueue]
theorem rxQueue_setRxQueue_ne {q j : Nat} (x : RxQueue) (d : Dev) (h : j ≠ q) : rxQueue (setRxQueue q x d) j = rxQueue d j := by
  simp [rxQueue, setRxQueue, tabGet_tabPut_ne, h]
@[simp] theorem setCipherTx_keeps (c : Nat) (x : CipherTx) (d : Dev) :
    (setCipherTx c x d).mail = d.mail ∧ (setCipherTx c x d).fw = d.fw ∧ (setCipherTx c x d).links = d.links ∧ (setCipherTx c x d).ec =
    d.ec ∧ (setCipherTx c x d).causes = d.causes ∧ (setCipherTx c x d).causeMs = d.causeMs ∧ (setCipherTx c x d).brakes = d.brakes ∧
    (setCipherTx c x d).trust = d.trust ∧ (setCipherTx c x d).meas = d.meas ∧ (setCipherTx c x d).bench = d.bench ∧ (setCipherTx c x
    d).power = d.power ∧ (setCipherTx c x d).pins = d.pins ∧ (setCipherTx c x d).clock = d.clock ∧ (setCipherTx c x d).time = d.time ∧
    (setCipherTx c x d).timeCfg = d.timeCfg ∧ (setCipherTx c x d).mem = d.mem ∧ (setCipherTx c x d).tx = d.tx ∧ (setCipherTx c x d).rx
    = d.rx ∧ (setCipherTx c x d).pool = d.pool ∧ (setCipherTx c x d).frames = d.frames ∧ (setCipherTx c x d).slots = d.slots ∧
    (setCipherTx c x d).defects = d.defects ∧ (setCipherTx c x d).twins = d.twins ∧ (setCipherTx c x d).clients = d.clients ∧
    (setCipherTx c x d).ixtas = d.ixtas ∧ (setCipherTx c x d).free = d.free ∧ (setCipherTx c x d).cipher.rx = d.cipher.rx ∧
    (setCipherTx c x d).cipher.contexts = d.cipher.contexts ∧ (setCipherTx c x d).cipher.jobs = d.cipher.jobs ∧ (setCipherTx c x
    d).cipher.running = d.cipher.running ∧ (setCipherTx c x d).cipher.jobNumber = d.cipher.jobNumber ∧ (setCipherTx c x
    d).cipher.serials = d.cipher.serials ∧ (setCipherTx c x d).cipher.nextSerial = d.cipher.nextSerial :=
  ⟨rfl, rfl, rfl, rfl, rfl, rfl, rfl, rfl, rfl, rfl, rfl, rfl, rfl, rfl, rfl, rfl, rfl, rfl, rfl, rfl, rfl, rfl, rfl, rfl, rfl, rfl,
   rfl, rfl, rfl, rfl, rfl, rfl, rfl⟩
@[simp] theorem cipherTx_setCipherTx_same (c : Nat) (x : CipherTx) (d : Dev) : cipherTx (setCipherTx c x d) c = x := by
  simp [cipherTx, setCipherTx]
theorem cipherTx_setCipherTx_ne {c j : Nat} (x : CipherTx) (d : Dev) (h : j ≠ c) : cipherTx (setCipherTx c x d) j = cipherTx d j := by
  simp [cipherTx, setCipherTx, tabGet_tabPut_ne, h]
@[simp] theorem setCipherRx_keeps (c : Nat) (x : CipherRx) (d : Dev) :
    (setCipherRx c x d).mail = d.mail ∧ (setCipherRx c x d).fw = d.fw ∧ (setCipherRx c x d).links = d.links ∧ (setCipherRx c x d).ec =
    d.ec ∧ (setCipherRx c x d).causes = d.causes ∧ (setCipherRx c x d).causeMs = d.causeMs ∧ (setCipherRx c x d).brakes = d.brakes ∧
    (setCipherRx c x d).trust = d.trust ∧ (setCipherRx c x d).meas = d.meas ∧ (setCipherRx c x d).bench = d.bench ∧ (setCipherRx c x
    d).power = d.power ∧ (setCipherRx c x d).pins = d.pins ∧ (setCipherRx c x d).clock = d.clock ∧ (setCipherRx c x d).time = d.time ∧
    (setCipherRx c x d).timeCfg = d.timeCfg ∧ (setCipherRx c x d).mem = d.mem ∧ (setCipherRx c x d).tx = d.tx ∧ (setCipherRx c x d).rx
    = d.rx ∧ (setCipherRx c x d).pool = d.pool ∧ (setCipherRx c x d).frames = d.frames ∧ (setCipherRx c x d).slots = d.slots ∧
    (setCipherRx c x d).defects = d.defects ∧ (setCipherRx c x d).twins = d.twins ∧ (setCipherRx c x d).clients = d.clients ∧
    (setCipherRx c x d).ixtas = d.ixtas ∧ (setCipherRx c x d).free = d.free ∧ (setCipherRx c x d).cipher.tx = d.cipher.tx ∧
    (setCipherRx c x d).cipher.contexts = d.cipher.contexts ∧ (setCipherRx c x d).cipher.jobs = d.cipher.jobs ∧ (setCipherRx c x
    d).cipher.running = d.cipher.running ∧ (setCipherRx c x d).cipher.jobNumber = d.cipher.jobNumber ∧ (setCipherRx c x
    d).cipher.serials = d.cipher.serials ∧ (setCipherRx c x d).cipher.nextSerial = d.cipher.nextSerial :=
  ⟨rfl, rfl, rfl, rfl, rfl, rfl, rfl, rfl, rfl, rfl, rfl, rfl, rfl, rfl, rfl, rfl, rfl, rfl, rfl, rfl, rfl, rfl, rfl, rfl, rfl, rfl,
   rfl, rfl, rfl, rfl, rfl, rfl, rfl⟩
@[simp] theorem cipherRx_setCipherRx_same (c : Nat) (x : CipherRx) (d : Dev) : cipherRx (setCipherRx c x d) c = x := by
  simp [cipherRx, setCipherRx]
theorem cipherRx_setCipherRx_ne {c j : Nat} (x : CipherRx) (d : Dev) (h : j ≠ c) : cipherRx (setCipherRx c x d) j = cipherRx d j := by
  simp [cipherRx, setCipherRx, tabGet_tabPut_ne, h]
@[simp] theorem setCoachEntity_keeps (c : Nat) (x : Entity) (d : Dev) :
    (setCoachEntity c x d).mail = d.mail ∧ (setCoachEntity c x d).fw = d.fw ∧ (setCoachEntity c x d).links = d.links ∧ (setCoachEntity
    c x d).ec = d.ec ∧ (setCoachEntity c x d).causes = d.causes ∧ (setCoachEntity c x d).causeMs = d.causeMs ∧ (setCoachEntity c x
    d).brakes = d.brakes ∧ (setCoachEntity c x d).trust = d.trust ∧ (setCoachEntity c x d).meas = d.meas ∧ (setCoachEntity c x
    d).bench = d.bench ∧ (setCoachEntity c x d).power = d.power ∧ (setCoachEntity c x d).pins = d.pins ∧ (setCoachEntity c x d).clock
    = d.clock ∧ (setCoachEntity c x d).time = d.time ∧ (setCoachEntity c x d).timeCfg = d.timeCfg ∧ (setCoachEntity c x d).mem = d.mem ∧
    (setCoachEntity c x d).tx = d.tx ∧ (setCoachEntity c x d).rx = d.rx ∧ (setCoachEntity c x d).pool = d.pool ∧ (setCoachEntity c x
    d).frames = d.frames ∧ (setCoachEntity c x d).slots = d.slots ∧ (setCoachEntity c x d).cipher = d.cipher ∧ (setCoachEntity c x
    d).twins = d.twins ∧ (setCoachEntity c x d).clients = d.clients ∧ (setCoachEntity c x d).ixtas = d.ixtas ∧ (setCoachEntity c x
    d).free = d.free ∧ (setCoachEntity c x d).defects.queues = d.defects.queues ∧ (setCoachEntity c x d).defects.dayStart =
    d.defects.dayStart ∧ (setCoachEntity c x d).defects.dayStartNext = d.defects.dayStartNext ∧ (setCoachEntity c x d).defects.cleared
    = d.defects.cleared ∧ (setCoachEntity c x d).defects.sampledMs = d.defects.sampledMs ∧ (setCoachEntity c x d).defects.endedSec =
    d.defects.endedSec ∧ (setCoachEntity c x d).defects.rolledQuarter = d.defects.rolledQuarter :=
  ⟨rfl, rfl, rfl, rfl, rfl, rfl, rfl, rfl, rfl, rfl, rfl, rfl, rfl, rfl, rfl, rfl, rfl, rfl, rfl, rfl, rfl, rfl, rfl, rfl, rfl, rfl,
   rfl, rfl, rfl, rfl, rfl, rfl, rfl⟩
@[simp] theorem coachEntity_setCoachEntity_same (c : Nat) (x : Entity) (d : Dev) : coachEntity (setCoachEntity c x d) c = x := by
  simp [coachEntity, setCoachEntity]
theorem coachEntity_setCoachEntity_ne {c j : Nat} (x : Entity) (d : Dev) (h : j ≠ c) : coachEntity (setCoachEntity c x d) j = coachEntity d j := by
  simp [coachEntity, setCoachEntity, tabGet_tabPut_ne, h]
@[simp] theorem setQueueEntity_keeps (q : Nat) (x : Entity) (d : Dev) :
    (setQueueEntity q x d).mail = d.mail ∧ (setQueueEntity q x d).fw = d.fw ∧ (setQueueEntity q x d).links = d.links ∧ (setQueueEntity
    q x d).ec = d.ec ∧ (setQueueEntity q x d).causes = d.causes ∧ (setQueueEntity q x d).causeMs = d.causeMs ∧ (setQueueEntity q x
    d).brakes = d.brakes ∧ (setQueueEntity q x d).trust = d.trust ∧ (setQueueEntity q x d).meas = d.meas ∧ (setQueueEntity q x
    d).bench = d.bench ∧ (setQueueEntity q x d).power = d.power ∧ (setQueueEntity q x d).pins = d.pins ∧ (setQueueEntity q x d).clock
    = d.clock ∧ (setQueueEntity q x d).time = d.time ∧ (setQueueEntity q x d).timeCfg = d.timeCfg ∧ (setQueueEntity q x d).mem = d.mem ∧
    (setQueueEntity q x d).tx = d.tx ∧ (setQueueEntity q x d).rx = d.rx ∧ (setQueueEntity q x d).pool = d.pool ∧ (setQueueEntity q x
    d).frames = d.frames ∧ (setQueueEntity q x d).slots = d.slots ∧ (setQueueEntity q x d).cipher = d.cipher ∧ (setQueueEntity q x
    d).twins = d.twins ∧ (setQueueEntity q x d).clients = d.clients ∧ (setQueueEntity q x d).ixtas = d.ixtas ∧ (setQueueEntity q x
    d).free = d.free ∧ (setQueueEntity q x d).defects.coaches = d.defects.coaches ∧ (setQueueEntity q x d).defects.dayStart =
    d.defects.dayStart ∧ (setQueueEntity q x d).defects.dayStartNext = d.defects.dayStartNext ∧ (setQueueEntity q x d).defects.cleared
    = d.defects.cleared ∧ (setQueueEntity q x d).defects.sampledMs = d.defects.sampledMs ∧ (setQueueEntity q x d).defects.endedSec =
    d.defects.endedSec ∧ (setQueueEntity q x d).defects.rolledQuarter = d.defects.rolledQuarter :=
  ⟨rfl, rfl, rfl, rfl, rfl, rfl, rfl, rfl, rfl, rfl, rfl, rfl, rfl, rfl, rfl, rfl, rfl, rfl, rfl, rfl, rfl, rfl, rfl, rfl, rfl, rfl,
   rfl, rfl, rfl, rfl, rfl, rfl, rfl⟩
@[simp] theorem queueEntity_setQueueEntity_same (q : Nat) (x : Entity) (d : Dev) : queueEntity (setQueueEntity q x d) q = x := by
  simp [queueEntity, setQueueEntity]
theorem queueEntity_setQueueEntity_ne {q j : Nat} (x : Entity) (d : Dev) (h : j ≠ q) : queueEntity (setQueueEntity q x d) j = queueEntity d j := by
  simp [queueEntity, setQueueEntity, tabGet_tabPut_ne, h]
@[simp] theorem setLane_keeps (l : Nat) (x : LaneSt) (d : Dev) :
    (setLane l x d).mail = d.mail ∧ (setLane l x d).fw = d.fw ∧ (setLane l x d).links = d.links ∧ (setLane l x d).ec = d.ec ∧ (setLane
    l x d).causes = d.causes ∧ (setLane l x d).causeMs = d.causeMs ∧ (setLane l x d).brakes = d.brakes ∧ (setLane l x d).trust =
    d.trust ∧ (setLane l x d).meas = d.meas ∧ (setLane l x d).bench = d.bench ∧ (setLane l x d).power = d.power ∧ (setLane l x d).pins
    = d.pins ∧ (setLane l x d).clock = d.clock ∧ (setLane l x d).time = d.time ∧ (setLane l x d).timeCfg = d.timeCfg ∧ (setLane l x
    d).mem = d.mem ∧ (setLane l x d).tx = d.tx ∧ (setLane l x d).rx = d.rx ∧ (setLane l x d).pool = d.pool ∧ (setLane l x d).frames =
    d.frames ∧ (setLane l x d).slots = d.slots ∧ (setLane l x d).cipher = d.cipher ∧ (setLane l x d).defects = d.defects ∧ (setLane l
    x d).twins = d.twins ∧ (setLane l x d).ixtas = d.ixtas ∧ (setLane l x d).free = d.free ∧ (setLane l x d).clients.groups =
    d.clients.groups ∧ (setLane l x d).clients.channels = d.clients.channels ∧ (setLane l x d).clients.recclk = d.clients.recclk ∧
    (setLane l x d).clients.lastOut = d.clients.lastOut :=
  ⟨rfl, rfl, rfl, rfl, rfl, rfl, rfl, rfl, rfl, rfl, rfl, rfl, rfl, rfl, rfl, rfl, rfl, rfl, rfl, rfl, rfl, rfl, rfl, rfl, rfl, rfl,
   rfl, rfl, rfl, rfl⟩
@[simp] theorem laneOf_setLane_same (l : Nat) (x : LaneSt) (d : Dev) : laneOf (setLane l x d) l = x := by
  simp [laneOf, setLane]
theorem laneOf_setLane_ne {l j : Nat} (x : LaneSt) (d : Dev) (h : j ≠ l) : laneOf (setLane l x d) j = laneOf d j := by
  simp [laneOf, setLane, tabGet_tabPut_ne, h]
@[simp] theorem setGroup_keeps (l : Nat) (x : Group) (d : Dev) :
    (setGroup l x d).mail = d.mail ∧ (setGroup l x d).fw = d.fw ∧ (setGroup l x d).links = d.links ∧ (setGroup l x d).ec = d.ec ∧
    (setGroup l x d).causes = d.causes ∧ (setGroup l x d).causeMs = d.causeMs ∧ (setGroup l x d).brakes = d.brakes ∧ (setGroup l x
    d).trust = d.trust ∧ (setGroup l x d).meas = d.meas ∧ (setGroup l x d).bench = d.bench ∧ (setGroup l x d).power = d.power ∧
    (setGroup l x d).pins = d.pins ∧ (setGroup l x d).clock = d.clock ∧ (setGroup l x d).time = d.time ∧ (setGroup l x d).timeCfg =
    d.timeCfg ∧ (setGroup l x d).mem = d.mem ∧ (setGroup l x d).tx = d.tx ∧ (setGroup l x d).rx = d.rx ∧ (setGroup l x d).pool =
    d.pool ∧ (setGroup l x d).frames = d.frames ∧ (setGroup l x d).slots = d.slots ∧ (setGroup l x d).cipher = d.cipher ∧ (setGroup l
    x d).defects = d.defects ∧ (setGroup l x d).twins = d.twins ∧ (setGroup l x d).ixtas = d.ixtas ∧ (setGroup l x d).free = d.free ∧
    (setGroup l x d).clients.lanes = d.clients.lanes ∧ (setGroup l x d).clients.channels = d.clients.channels ∧ (setGroup l x
    d).clients.recclk = d.clients.recclk ∧ (setGroup l x d).clients.lastOut = d.clients.lastOut :=
  ⟨rfl, rfl, rfl, rfl, rfl, rfl, rfl, rfl, rfl, rfl, rfl, rfl, rfl, rfl, rfl, rfl, rfl, rfl, rfl, rfl, rfl, rfl, rfl, rfl, rfl, rfl,
   rfl, rfl, rfl, rfl⟩
@[simp] theorem group_setGroup_same (l : Nat) (x : Group) (d : Dev) : group (setGroup l x d) l = x := by
  simp [group, setGroup]
theorem group_setGroup_ne {l j : Nat} (x : Group) (d : Dev) (h : j ≠ l) : group (setGroup l x d) j = group d j := by
  simp [group, setGroup, tabGet_tabPut_ne, h]
@[simp] theorem setChannel_keeps (q : Nat) (x : Channel) (d : Dev) :
    (setChannel q x d).mail = d.mail ∧ (setChannel q x d).fw = d.fw ∧ (setChannel q x d).links = d.links ∧ (setChannel q x d).ec =
    d.ec ∧ (setChannel q x d).causes = d.causes ∧ (setChannel q x d).causeMs = d.causeMs ∧ (setChannel q x d).brakes = d.brakes ∧
    (setChannel q x d).trust = d.trust ∧ (setChannel q x d).meas = d.meas ∧ (setChannel q x d).bench = d.bench ∧ (setChannel q x
    d).power = d.power ∧ (setChannel q x d).pins = d.pins ∧ (setChannel q x d).clock = d.clock ∧ (setChannel q x d).time = d.time ∧
    (setChannel q x d).timeCfg = d.timeCfg ∧ (setChannel q x d).mem = d.mem ∧ (setChannel q x d).tx = d.tx ∧ (setChannel q x d).rx =
    d.rx ∧ (setChannel q x d).pool = d.pool ∧ (setChannel q x d).frames = d.frames ∧ (setChannel q x d).slots = d.slots ∧ (setChannel
    q x d).cipher = d.cipher ∧ (setChannel q x d).defects = d.defects ∧ (setChannel q x d).twins = d.twins ∧ (setChannel q x d).ixtas
    = d.ixtas ∧ (setChannel q x d).free = d.free ∧ (setChannel q x d).clients.lanes = d.clients.lanes ∧ (setChannel q x
    d).clients.groups = d.clients.groups ∧ (setChannel q x d).clients.recclk = d.clients.recclk ∧ (setChannel q x d).clients.lastOut =
    d.clients.lastOut :=
  ⟨rfl, rfl, rfl, rfl, rfl, rfl, rfl, rfl, rfl, rfl, rfl, rfl, rfl, rfl, rfl, rfl, rfl, rfl, rfl, rfl, rfl, rfl, rfl, rfl, rfl, rfl,
   rfl, rfl, rfl, rfl⟩
@[simp] theorem channelOf_setChannel_same (q : Nat) (x : Channel) (d : Dev) : channelOf (setChannel q x d) q = x := by
  simp [channelOf, setChannel]
theorem channelOf_setChannel_ne {q j : Nat} (x : Channel) (d : Dev) (h : j ≠ q) : channelOf (setChannel q x d) j = channelOf d j := by
  simp [channelOf, setChannel, tabGet_tabPut_ne, h]
@[simp] theorem setTwinCfg_keeps (w : Nat) (x : TwinCfg) (d : Dev) :
    (setTwinCfg w x d).mail = d.mail ∧ (setTwinCfg w x d).fw = d.fw ∧ (setTwinCfg w x d).links = d.links ∧ (setTwinCfg w x d).ec =
    d.ec ∧ (setTwinCfg w x d).causes = d.causes ∧ (setTwinCfg w x d).causeMs = d.causeMs ∧ (setTwinCfg w x d).brakes = d.brakes ∧
    (setTwinCfg w x d).trust = d.trust ∧ (setTwinCfg w x d).meas = d.meas ∧ (setTwinCfg w x d).bench = d.bench ∧ (setTwinCfg w x
    d).power = d.power ∧ (setTwinCfg w x d).pins = d.pins ∧ (setTwinCfg w x d).clock = d.clock ∧ (setTwinCfg w x d).time = d.time ∧
    (setTwinCfg w x d).timeCfg = d.timeCfg ∧ (setTwinCfg w x d).mem = d.mem ∧ (setTwinCfg w x d).tx = d.tx ∧ (setTwinCfg w x d).rx =
    d.rx ∧ (setTwinCfg w x d).pool = d.pool ∧ (setTwinCfg w x d).frames = d.frames ∧ (setTwinCfg w x d).slots = d.slots ∧ (setTwinCfg
    w x d).cipher = d.cipher ∧ (setTwinCfg w x d).defects = d.defects ∧ (setTwinCfg w x d).clients = d.clients ∧ (setTwinCfg w x
    d).ixtas = d.ixtas ∧ (setTwinCfg w x d).free = d.free ∧ (setTwinCfg w x d).twins.tx = d.twins.tx ∧ (setTwinCfg w x d).twins.rx =
    d.twins.rx ∧ (setTwinCfg w x d).twins.chains = d.twins.chains ∧ (setTwinCfg w x d).twins.yard = d.twins.yard :=
  ⟨rfl, rfl, rfl, rfl, rfl, rfl, rfl, rfl, rfl, rfl, rfl, rfl, rfl, rfl, rfl, rfl, rfl, rfl, rfl, rfl, rfl, rfl, rfl, rfl, rfl, rfl,
   rfl, rfl, rfl, rfl⟩
@[simp] theorem twinCfg_setTwinCfg_same (w : Nat) (x : TwinCfg) (d : Dev) : twinCfg (setTwinCfg w x d) w = x := by
  simp [twinCfg, setTwinCfg]
theorem twinCfg_setTwinCfg_ne {w j : Nat} (x : TwinCfg) (d : Dev) (h : j ≠ w) : twinCfg (setTwinCfg w x d) j = twinCfg d j := by
  simp [twinCfg, setTwinCfg, tabGet_tabPut_ne, h]
@[simp] theorem setTwinTx_keeps (w : Nat) (x : TwinTx) (d : Dev) :
    (setTwinTx w x d).mail = d.mail ∧ (setTwinTx w x d).fw = d.fw ∧ (setTwinTx w x d).links = d.links ∧ (setTwinTx w x d).ec = d.ec ∧
    (setTwinTx w x d).causes = d.causes ∧ (setTwinTx w x d).causeMs = d.causeMs ∧ (setTwinTx w x d).brakes = d.brakes ∧ (setTwinTx w x
    d).trust = d.trust ∧ (setTwinTx w x d).meas = d.meas ∧ (setTwinTx w x d).bench = d.bench ∧ (setTwinTx w x d).power = d.power ∧
    (setTwinTx w x d).pins = d.pins ∧ (setTwinTx w x d).clock = d.clock ∧ (setTwinTx w x d).time = d.time ∧ (setTwinTx w x d).timeCfg
    = d.timeCfg ∧ (setTwinTx w x d).mem = d.mem ∧ (setTwinTx w x d).tx = d.tx ∧ (setTwinTx w x d).rx = d.rx ∧ (setTwinTx w x d).pool =
    d.pool ∧ (setTwinTx w x d).frames = d.frames ∧ (setTwinTx w x d).slots = d.slots ∧ (setTwinTx w x d).cipher = d.cipher ∧
    (setTwinTx w x d).defects = d.defects ∧ (setTwinTx w x d).clients = d.clients ∧ (setTwinTx w x d).ixtas = d.ixtas ∧ (setTwinTx w x
    d).free = d.free ∧ (setTwinTx w x d).twins.cfg = d.twins.cfg ∧ (setTwinTx w x d).twins.rx = d.twins.rx ∧ (setTwinTx w x
    d).twins.chains = d.twins.chains ∧ (setTwinTx w x d).twins.yard = d.twins.yard :=
  ⟨rfl, rfl, rfl, rfl, rfl, rfl, rfl, rfl, rfl, rfl, rfl, rfl, rfl, rfl, rfl, rfl, rfl, rfl, rfl, rfl, rfl, rfl, rfl, rfl, rfl, rfl,
   rfl, rfl, rfl, rfl⟩
@[simp] theorem twinTx_setTwinTx_same (w : Nat) (x : TwinTx) (d : Dev) : twinTx (setTwinTx w x d) w = x := by
  simp [twinTx, setTwinTx]
theorem twinTx_setTwinTx_ne {w j : Nat} (x : TwinTx) (d : Dev) (h : j ≠ w) : twinTx (setTwinTx w x d) j = twinTx d j := by
  simp [twinTx, setTwinTx, tabGet_tabPut_ne, h]
@[simp] theorem setTwinRx_keeps (w : Nat) (x : TwinRx) (d : Dev) :
    (setTwinRx w x d).mail = d.mail ∧ (setTwinRx w x d).fw = d.fw ∧ (setTwinRx w x d).links = d.links ∧ (setTwinRx w x d).ec = d.ec ∧
    (setTwinRx w x d).causes = d.causes ∧ (setTwinRx w x d).causeMs = d.causeMs ∧ (setTwinRx w x d).brakes = d.brakes ∧ (setTwinRx w x
    d).trust = d.trust ∧ (setTwinRx w x d).meas = d.meas ∧ (setTwinRx w x d).bench = d.bench ∧ (setTwinRx w x d).power = d.power ∧
    (setTwinRx w x d).pins = d.pins ∧ (setTwinRx w x d).clock = d.clock ∧ (setTwinRx w x d).time = d.time ∧ (setTwinRx w x d).timeCfg
    = d.timeCfg ∧ (setTwinRx w x d).mem = d.mem ∧ (setTwinRx w x d).tx = d.tx ∧ (setTwinRx w x d).rx = d.rx ∧ (setTwinRx w x d).pool =
    d.pool ∧ (setTwinRx w x d).frames = d.frames ∧ (setTwinRx w x d).slots = d.slots ∧ (setTwinRx w x d).cipher = d.cipher ∧
    (setTwinRx w x d).defects = d.defects ∧ (setTwinRx w x d).clients = d.clients ∧ (setTwinRx w x d).ixtas = d.ixtas ∧ (setTwinRx w x
    d).free = d.free ∧ (setTwinRx w x d).twins.cfg = d.twins.cfg ∧ (setTwinRx w x d).twins.tx = d.twins.tx ∧ (setTwinRx w x
    d).twins.chains = d.twins.chains ∧ (setTwinRx w x d).twins.yard = d.twins.yard :=
  ⟨rfl, rfl, rfl, rfl, rfl, rfl, rfl, rfl, rfl, rfl, rfl, rfl, rfl, rfl, rfl, rfl, rfl, rfl, rfl, rfl, rfl, rfl, rfl, rfl, rfl, rfl,
   rfl, rfl, rfl, rfl⟩
@[simp] theorem twinRx_setTwinRx_same (w : Nat) (x : TwinRx) (d : Dev) : twinRx (setTwinRx w x d) w = x := by
  simp [twinRx, setTwinRx]
theorem twinRx_setTwinRx_ne {w j : Nat} (x : TwinRx) (d : Dev) (h : j ≠ w) : twinRx (setTwinRx w x d) j = twinRx d j := by
  simp [twinRx, setTwinRx, tabGet_tabPut_ne, h]
@[simp] theorem setChain_keeps (c : Nat) (x : CoachChain) (d : Dev) :
    (setChain c x d).mail = d.mail ∧ (setChain c x d).fw = d.fw ∧ (setChain c x d).links = d.links ∧ (setChain c x d).ec = d.ec ∧
    (setChain c x d).causes = d.causes ∧ (setChain c x d).causeMs = d.causeMs ∧ (setChain c x d).brakes = d.brakes ∧ (setChain c x
    d).trust = d.trust ∧ (setChain c x d).meas = d.meas ∧ (setChain c x d).bench = d.bench ∧ (setChain c x d).power = d.power ∧
    (setChain c x d).pins = d.pins ∧ (setChain c x d).clock = d.clock ∧ (setChain c x d).time = d.time ∧ (setChain c x d).timeCfg =
    d.timeCfg ∧ (setChain c x d).mem = d.mem ∧ (setChain c x d).tx = d.tx ∧ (setChain c x d).rx = d.rx ∧ (setChain c x d).pool =
    d.pool ∧ (setChain c x d).frames = d.frames ∧ (setChain c x d).slots = d.slots ∧ (setChain c x d).cipher = d.cipher ∧ (setChain c
    x d).defects = d.defects ∧ (setChain c x d).clients = d.clients ∧ (setChain c x d).ixtas = d.ixtas ∧ (setChain c x d).free =
    d.free ∧ (setChain c x d).twins.cfg = d.twins.cfg ∧ (setChain c x d).twins.tx = d.twins.tx ∧ (setChain c x d).twins.rx =
    d.twins.rx ∧ (setChain c x d).twins.yard = d.twins.yard :=
  ⟨rfl, rfl, rfl, rfl, rfl, rfl, rfl, rfl, rfl, rfl, rfl, rfl, rfl, rfl, rfl, rfl, rfl, rfl, rfl, rfl, rfl, rfl, rfl, rfl, rfl, rfl,
   rfl, rfl, rfl, rfl⟩
@[simp] theorem setIxtasEngine_keeps (n : Nat) (x : IxtasEngine) (d : Dev) :
    (setIxtasEngine n x d).mail = d.mail ∧ (setIxtasEngine n x d).fw = d.fw ∧ (setIxtasEngine n x d).links = d.links ∧ (setIxtasEngine
    n x d).ec = d.ec ∧ (setIxtasEngine n x d).causes = d.causes ∧ (setIxtasEngine n x d).causeMs = d.causeMs ∧ (setIxtasEngine n x
    d).brakes = d.brakes ∧ (setIxtasEngine n x d).trust = d.trust ∧ (setIxtasEngine n x d).meas = d.meas ∧ (setIxtasEngine n x
    d).bench = d.bench ∧ (setIxtasEngine n x d).power = d.power ∧ (setIxtasEngine n x d).pins = d.pins ∧ (setIxtasEngine n x d).clock
    = d.clock ∧ (setIxtasEngine n x d).time = d.time ∧ (setIxtasEngine n x d).timeCfg = d.timeCfg ∧ (setIxtasEngine n x d).mem = d.mem ∧
    (setIxtasEngine n x d).tx = d.tx ∧ (setIxtasEngine n x d).rx = d.rx ∧ (setIxtasEngine n x d).pool = d.pool ∧ (setIxtasEngine n x
    d).frames = d.frames ∧ (setIxtasEngine n x d).slots = d.slots ∧ (setIxtasEngine n x d).cipher = d.cipher ∧ (setIxtasEngine n x
    d).defects = d.defects ∧ (setIxtasEngine n x d).twins = d.twins ∧ (setIxtasEngine n x d).clients = d.clients ∧ (setIxtasEngine n x
    d).free = d.free ∧ (setIxtasEngine n x d).ixtas.coaches = d.ixtas.coaches ∧ (setIxtasEngine n x d).ixtas.partners =
    d.ixtas.partners ∧ (setIxtasEngine n x d).ixtas.branches = d.ixtas.branches ∧ (setIxtasEngine n x d).ixtas.tones = d.ixtas.tones ∧
    (setIxtasEngine n x d).ixtas.assemblies = d.ixtas.assemblies ∧ (setIxtasEngine n x d).ixtas.ring = d.ixtas.ring ∧ (setIxtasEngine
    n x d).ixtas.inbox = d.ixtas.inbox ∧ (setIxtasEngine n x d).ixtas.hostIn = d.ixtas.hostIn ∧ (setIxtasEngine n x d).ixtas.hostQueue
    = d.ixtas.hostQueue :=
  ⟨rfl, rfl, rfl, rfl, rfl, rfl, rfl, rfl, rfl, rfl, rfl, rfl, rfl, rfl, rfl, rfl, rfl, rfl, rfl, rfl, rfl, rfl, rfl, rfl, rfl, rfl,
   rfl, rfl, rfl, rfl, rfl, rfl, rfl, rfl, rfl⟩
@[simp] theorem ixtasEngine_setIxtasEngine_same (n : Nat) (x : IxtasEngine) (d : Dev) : ixtasEngine (setIxtasEngine n x d) n = x := by
  simp [ixtasEngine, setIxtasEngine]
theorem ixtasEngine_setIxtasEngine_ne {n j : Nat} (x : IxtasEngine) (d : Dev) (h : j ≠ n) : ixtasEngine (setIxtasEngine n x d) j = ixtasEngine d j := by
  simp [ixtasEngine, setIxtasEngine, tabGet_tabPut_ne, h]
@[simp] theorem setIxtasCoach_keeps (c : Nat) (x : IxtasCoach) (d : Dev) :
    (setIxtasCoach c x d).mail = d.mail ∧ (setIxtasCoach c x d).fw = d.fw ∧ (setIxtasCoach c x d).links = d.links ∧ (setIxtasCoach c x
    d).ec = d.ec ∧ (setIxtasCoach c x d).causes = d.causes ∧ (setIxtasCoach c x d).causeMs = d.causeMs ∧ (setIxtasCoach c x d).brakes
    = d.brakes ∧ (setIxtasCoach c x d).trust = d.trust ∧ (setIxtasCoach c x d).meas = d.meas ∧ (setIxtasCoach c x d).bench = d.bench ∧
    (setIxtasCoach c x d).power = d.power ∧ (setIxtasCoach c x d).pins = d.pins ∧ (setIxtasCoach c x d).clock = d.clock ∧
    (setIxtasCoach c x d).time = d.time ∧ (setIxtasCoach c x d).timeCfg = d.timeCfg ∧ (setIxtasCoach c x d).mem = d.mem ∧
    (setIxtasCoach c x d).tx = d.tx ∧ (setIxtasCoach c x d).rx = d.rx ∧ (setIxtasCoach c x d).pool = d.pool ∧ (setIxtasCoach c x
    d).frames = d.frames ∧ (setIxtasCoach c x d).slots = d.slots ∧ (setIxtasCoach c x d).cipher = d.cipher ∧ (setIxtasCoach c x
    d).defects = d.defects ∧ (setIxtasCoach c x d).twins = d.twins ∧ (setIxtasCoach c x d).clients = d.clients ∧ (setIxtasCoach c x
    d).free = d.free ∧ (setIxtasCoach c x d).ixtas.engines = d.ixtas.engines ∧ (setIxtasCoach c x d).ixtas.partners = d.ixtas.partners ∧
    (setIxtasCoach c x d).ixtas.branches = d.ixtas.branches ∧ (setIxtasCoach c x d).ixtas.tones = d.ixtas.tones ∧ (setIxtasCoach c x
    d).ixtas.assemblies = d.ixtas.assemblies ∧ (setIxtasCoach c x d).ixtas.ring = d.ixtas.ring ∧ (setIxtasCoach c x d).ixtas.inbox =
    d.ixtas.inbox ∧ (setIxtasCoach c x d).ixtas.hostIn = d.ixtas.hostIn ∧ (setIxtasCoach c x d).ixtas.hostQueue = d.ixtas.hostQueue :=
  ⟨rfl, rfl, rfl, rfl, rfl, rfl, rfl, rfl, rfl, rfl, rfl, rfl, rfl, rfl, rfl, rfl, rfl, rfl, rfl, rfl, rfl, rfl, rfl, rfl, rfl, rfl,
   rfl, rfl, rfl, rfl, rfl, rfl, rfl, rfl, rfl⟩
@[simp] theorem ixtasCoach_setIxtasCoach_same (c : Nat) (x : IxtasCoach) (d : Dev) : ixtasCoach (setIxtasCoach c x d) c = x := by
  simp [ixtasCoach, setIxtasCoach]
theorem ixtasCoach_setIxtasCoach_ne {c j : Nat} (x : IxtasCoach) (d : Dev) (h : j ≠ c) : ixtasCoach (setIxtasCoach c x d) j = ixtasCoach d j := by
  simp [ixtasCoach, setIxtasCoach, tabGet_tabPut_ne, h]
@[simp] theorem setPartner_keeps (c : Nat) (x : Partner) (d : Dev) :
    (setPartner c x d).mail = d.mail ∧ (setPartner c x d).fw = d.fw ∧ (setPartner c x d).links = d.links ∧ (setPartner c x d).ec =
    d.ec ∧ (setPartner c x d).causes = d.causes ∧ (setPartner c x d).causeMs = d.causeMs ∧ (setPartner c x d).brakes = d.brakes ∧
    (setPartner c x d).trust = d.trust ∧ (setPartner c x d).meas = d.meas ∧ (setPartner c x d).bench = d.bench ∧ (setPartner c x
    d).power = d.power ∧ (setPartner c x d).pins = d.pins ∧ (setPartner c x d).clock = d.clock ∧ (setPartner c x d).time = d.time ∧
    (setPartner c x d).timeCfg = d.timeCfg ∧ (setPartner c x d).mem = d.mem ∧ (setPartner c x d).tx = d.tx ∧ (setPartner c x d).rx =
    d.rx ∧ (setPartner c x d).pool = d.pool ∧ (setPartner c x d).frames = d.frames ∧ (setPartner c x d).slots = d.slots ∧ (setPartner
    c x d).cipher = d.cipher ∧ (setPartner c x d).defects = d.defects ∧ (setPartner c x d).twins = d.twins ∧ (setPartner c x
    d).clients = d.clients ∧ (setPartner c x d).free = d.free ∧ (setPartner c x d).ixtas.engines = d.ixtas.engines ∧ (setPartner c x
    d).ixtas.coaches = d.ixtas.coaches ∧ (setPartner c x d).ixtas.branches = d.ixtas.branches ∧ (setPartner c x d).ixtas.tones =
    d.ixtas.tones ∧ (setPartner c x d).ixtas.assemblies = d.ixtas.assemblies ∧ (setPartner c x d).ixtas.ring = d.ixtas.ring ∧
    (setPartner c x d).ixtas.inbox = d.ixtas.inbox ∧ (setPartner c x d).ixtas.hostIn = d.ixtas.hostIn ∧ (setPartner c x
    d).ixtas.hostQueue = d.ixtas.hostQueue :=
  ⟨rfl, rfl, rfl, rfl, rfl, rfl, rfl, rfl, rfl, rfl, rfl, rfl, rfl, rfl, rfl, rfl, rfl, rfl, rfl, rfl, rfl, rfl, rfl, rfl, rfl, rfl,
   rfl, rfl, rfl, rfl, rfl, rfl, rfl, rfl, rfl⟩
@[simp] theorem partnerOf_setPartner_same (c : Nat) (x : Partner) (d : Dev) : partnerOf (setPartner c x d) c = x := by
  simp [partnerOf, setPartner]
theorem partnerOf_setPartner_ne {c j : Nat} (x : Partner) (d : Dev) (h : j ≠ c) : partnerOf (setPartner c x d) j = partnerOf d j := by
  simp [partnerOf, setPartner, tabGet_tabPut_ne, h]
@[simp] theorem setTone_keeps (t : Nat) (x : ToneTx) (d : Dev) :
    (setTone t x d).mail = d.mail ∧ (setTone t x d).fw = d.fw ∧ (setTone t x d).links = d.links ∧ (setTone t x d).ec = d.ec ∧ (setTone
    t x d).causes = d.causes ∧ (setTone t x d).causeMs = d.causeMs ∧ (setTone t x d).brakes = d.brakes ∧ (setTone t x d).trust =
    d.trust ∧ (setTone t x d).meas = d.meas ∧ (setTone t x d).bench = d.bench ∧ (setTone t x d).power = d.power ∧ (setTone t x d).pins
    = d.pins ∧ (setTone t x d).clock = d.clock ∧ (setTone t x d).time = d.time ∧ (setTone t x d).timeCfg = d.timeCfg ∧ (setTone t x
    d).mem = d.mem ∧ (setTone t x d).tx = d.tx ∧ (setTone t x d).rx = d.rx ∧ (setTone t x d).pool = d.pool ∧ (setTone t x d).frames =
    d.frames ∧ (setTone t x d).slots = d.slots ∧ (setTone t x d).cipher = d.cipher ∧ (setTone t x d).defects = d.defects ∧ (setTone t
    x d).twins = d.twins ∧ (setTone t x d).clients = d.clients ∧ (setTone t x d).free = d.free ∧ (setTone t x d).ixtas.engines =
    d.ixtas.engines ∧ (setTone t x d).ixtas.coaches = d.ixtas.coaches ∧ (setTone t x d).ixtas.partners = d.ixtas.partners ∧ (setTone t
    x d).ixtas.branches = d.ixtas.branches ∧ (setTone t x d).ixtas.assemblies = d.ixtas.assemblies ∧ (setTone t x d).ixtas.ring =
    d.ixtas.ring ∧ (setTone t x d).ixtas.inbox = d.ixtas.inbox ∧ (setTone t x d).ixtas.hostIn = d.ixtas.hostIn ∧ (setTone t x
    d).ixtas.hostQueue = d.ixtas.hostQueue :=
  ⟨rfl, rfl, rfl, rfl, rfl, rfl, rfl, rfl, rfl, rfl, rfl, rfl, rfl, rfl, rfl, rfl, rfl, rfl, rfl, rfl, rfl, rfl, rfl, rfl, rfl, rfl,
   rfl, rfl, rfl, rfl, rfl, rfl, rfl, rfl, rfl⟩
@[simp] theorem toneTx_setTone_same (t : Nat) (x : ToneTx) (d : Dev) : toneTx (setTone t x d) t = x := by
  simp [toneTx, setTone]
theorem toneTx_setTone_ne {t j : Nat} (x : ToneTx) (d : Dev) (h : j ≠ t) : toneTx (setTone t x d) j = toneTx d j := by
  simp [toneTx, setTone, tabGet_tabPut_ne, h]
@[simp] theorem setBranch_keeps (i : Nat) (x : BranchState) (d : Dev) :
    (setBranch i x d).mail = d.mail ∧ (setBranch i x d).fw = d.fw ∧ (setBranch i x d).links = d.links ∧ (setBranch i x d).ec = d.ec ∧
    (setBranch i x d).causes = d.causes ∧ (setBranch i x d).causeMs = d.causeMs ∧ (setBranch i x d).brakes = d.brakes ∧ (setBranch i x
    d).trust = d.trust ∧ (setBranch i x d).meas = d.meas ∧ (setBranch i x d).bench = d.bench ∧ (setBranch i x d).power = d.power ∧
    (setBranch i x d).pins = d.pins ∧ (setBranch i x d).clock = d.clock ∧ (setBranch i x d).time = d.time ∧ (setBranch i x d).timeCfg
    = d.timeCfg ∧ (setBranch i x d).mem = d.mem ∧ (setBranch i x d).tx = d.tx ∧ (setBranch i x d).rx = d.rx ∧ (setBranch i x d).pool =
    d.pool ∧ (setBranch i x d).frames = d.frames ∧ (setBranch i x d).slots = d.slots ∧ (setBranch i x d).cipher = d.cipher ∧
    (setBranch i x d).defects = d.defects ∧ (setBranch i x d).twins = d.twins ∧ (setBranch i x d).clients = d.clients ∧ (setBranch i x
    d).free = d.free ∧ (setBranch i x d).ixtas.engines = d.ixtas.engines ∧ (setBranch i x d).ixtas.coaches = d.ixtas.coaches ∧
    (setBranch i x d).ixtas.partners = d.ixtas.partners ∧ (setBranch i x d).ixtas.tones = d.ixtas.tones ∧ (setBranch i x
    d).ixtas.assemblies = d.ixtas.assemblies ∧ (setBranch i x d).ixtas.ring = d.ixtas.ring ∧ (setBranch i x d).ixtas.inbox =
    d.ixtas.inbox ∧ (setBranch i x d).ixtas.hostIn = d.ixtas.hostIn ∧ (setBranch i x d).ixtas.hostQueue = d.ixtas.hostQueue :=
  ⟨rfl, rfl, rfl, rfl, rfl, rfl, rfl, rfl, rfl, rfl, rfl, rfl, rfl, rfl, rfl, rfl, rfl, rfl, rfl, rfl, rfl, rfl, rfl, rfl, rfl, rfl,
   rfl, rfl, rfl, rfl, rfl, rfl, rfl, rfl, rfl⟩
@[simp] theorem branchOf_setBranch_same (i : Nat) (x : BranchState) (d : Dev) : branchOf (setBranch i x d) i = x := by
  simp [branchOf, setBranch]
theorem branchOf_setBranch_ne {i j : Nat} (x : BranchState) (d : Dev) (h : j ≠ i) : branchOf (setBranch i x d) j = branchOf d j := by
  simp [branchOf, setBranch, tabGet_tabPut_ne, h]
@[simp] theorem setRef_keeps (r : Nat) (x : RefState) (d : Dev) :
    (setRef r x d).mail = d.mail ∧ (setRef r x d).fw = d.fw ∧ (setRef r x d).links = d.links ∧ (setRef r x d).ec = d.ec ∧ (setRef r x
    d).causes = d.causes ∧ (setRef r x d).causeMs = d.causeMs ∧ (setRef r x d).brakes = d.brakes ∧ (setRef r x d).trust = d.trust ∧
    (setRef r x d).meas = d.meas ∧ (setRef r x d).bench = d.bench ∧ (setRef r x d).power = d.power ∧ (setRef r x d).pins = d.pins ∧
    (setRef r x d).clock = d.clock ∧ (setRef r x d).timeCfg = d.timeCfg ∧ (setRef r x d).mem = d.mem ∧ (setRef r x d).tx = d.tx ∧
    (setRef r x d).rx = d.rx ∧ (setRef r x d).pool = d.pool ∧ (setRef r x d).frames = d.frames ∧ (setRef r x d).slots = d.slots ∧
    (setRef r x d).cipher = d.cipher ∧ (setRef r x d).defects = d.defects ∧ (setRef r x d).twins = d.twins ∧ (setRef r x d).clients =
    d.clients ∧ (setRef r x d).ixtas = d.ixtas ∧ (setRef r x d).free = d.free ∧ (setRef r x d).time.state = d.time.state ∧ (setRef r x
    d).time.activeRef = d.time.activeRef ∧ (setRef r x d).time.loopOpen = d.time.loopOpen ∧ (setRef r x d).time.target = d.time.target ∧
    (setRef r x d).time.applied = d.time.applied ∧ (setRef r x d).time.slewPart = d.time.slewPart ∧ (setRef r x d).time.holdoverFreq
    = d.time.holdoverFreq ∧ (setRef r x d).time.steerErr = d.time.steerErr ∧ (setRef r x d).time.steerSlew = d.time.steerSlew ∧
    (setRef r x d).time.steerLock = d.time.steerLock ∧ (setRef r x d).time.steerStale = d.time.steerStale ∧ (setRef r x
    d).time.targetAt = d.time.targetAt ∧ (setRef r x d).time.ppsOffset = d.time.ppsOffset ∧ (setRef r x d).time.ppsValid =
    d.time.ppsValid ∧ (setRef r x d).time.lastEdge = d.time.lastEdge ∧ (setRef r x d).time.ppsFrom = d.time.ppsFrom ∧ (setRef r x
    d).time.ring = d.time.ring ∧ (setRef r x d).time.lockSum = d.time.lockSum ∧ (setRef r x d).time.lockCycles = d.time.lockCycles ∧
    (setRef r x d).time.differing = d.time.differing ∧ (setRef r x d).time.lastChange = d.time.lastChange ∧ (setRef r x
    d).time.waiting = d.time.waiting :=
  ⟨rfl, rfl, rfl, rfl, rfl, rfl, rfl, rfl, rfl, rfl, rfl, rfl, rfl, rfl, rfl, rfl, rfl, rfl, rfl, rfl, rfl, rfl, rfl, rfl, rfl, rfl,
   rfl, rfl, rfl, rfl, rfl, rfl, rfl, rfl, rfl, rfl, rfl, rfl, rfl, rfl, rfl, rfl, rfl, rfl, rfl, rfl, rfl, rfl⟩
@[simp] theorem refOf_setRef_same (r : Nat) (x : RefState) (d : Dev) : refOf (setRef r x d) r = x := by
  simp [refOf, setRef]
theorem refOf_setRef_ne {r j : Nat} (x : RefState) (d : Dev) (h : j ≠ r) : refOf (setRef r x d) j = refOf d j := by
  simp [refOf, setRef, tabGet_tabPut_ne, h]
@[simp] theorem setTally_keeps (t : Nat) (x : Tally) (d : Dev) :
    (setTally t x d).mail = d.mail ∧ (setTally t x d).fw = d.fw ∧ (setTally t x d).links = d.links ∧ (setTally t x d).ec = d.ec ∧
    (setTally t x d).causes = d.causes ∧ (setTally t x d).causeMs = d.causeMs ∧ (setTally t x d).brakes = d.brakes ∧ (setTally t x
    d).trust = d.trust ∧ (setTally t x d).bench = d.bench ∧ (setTally t x d).power = d.power ∧ (setTally t x d).pins = d.pins ∧
    (setTally t x d).clock = d.clock ∧ (setTally t x d).time = d.time ∧ (setTally t x d).timeCfg = d.timeCfg ∧ (setTally t x d).mem =
    d.mem ∧ (setTally t x d).tx = d.tx ∧ (setTally t x d).rx = d.rx ∧ (setTally t x d).pool = d.pool ∧ (setTally t x d).frames =
    d.frames ∧ (setTally t x d).slots = d.slots ∧ (setTally t x d).cipher = d.cipher ∧ (setTally t x d).defects = d.defects ∧
    (setTally t x d).twins = d.twins ∧ (setTally t x d).clients = d.clients ∧ (setTally t x d).ixtas = d.ixtas ∧ (setTally t x d).free
    = d.free ∧ (setTally t x d).meas.counts = d.meas.counts ∧ (setTally t x d).meas.selects = d.meas.selects ∧ (setTally t x
    d).meas.restarted = d.meas.restarted ∧ (setTally t x d).meas.allRestarted = d.meas.allRestarted ∧ (setTally t x d).meas.freezeReq
    = d.meas.freezeReq ∧ (setTally t x d).meas.frozen = d.meas.frozen ∧ (setTally t x d).meas.freezeAt = d.meas.freezeAt ∧ (setTally t
    x d).meas.snapAt = d.meas.snapAt ∧ (setTally t x d).meas.triggers = d.meas.triggers ∧ (setTally t x d).meas.captured =
    d.meas.captured ∧ (setTally t x d).meas.published = d.meas.published ∧ (setTally t x d).meas.dropped = d.meas.dropped ∧ (setTally
    t x d).meas.snapPeriod = d.meas.snapPeriod ∧ (setTally t x d).meas.periodsTaken = d.meas.periodsTaken ∧ (setTally t x
    d).meas.snapUser = d.meas.snapUser ∧ (setTally t x d).meas.seqRows = d.meas.seqRows ∧ (setTally t x d).meas.run = d.meas.run ∧
    (setTally t x d).meas.seqLen = d.meas.seqLen ∧ (setTally t x d).meas.seqLenNow = d.meas.seqLenNow ∧ (setTally t x d).meas.row =
    d.meas.row ∧ (setTally t x d).meas.rowAt = d.meas.rowAt ∧ (setTally t x d).meas.urgent = d.meas.urgent ∧ (setTally t x
    d).meas.urgentChannel = d.meas.urgentChannel ∧ (setTally t x d).meas.urgentTally = d.meas.urgentTally ∧ (setTally t x
    d).meas.urgentDropped = d.meas.urgentDropped ∧ (setTally t x d).meas.urgentDone = d.meas.urgentDone ∧ (setTally t x
    d).meas.urgentDrops = d.meas.urgentDrops :=
  ⟨rfl, rfl, rfl, rfl, rfl, rfl, rfl, rfl, rfl, rfl, rfl, rfl, rfl, rfl, rfl, rfl, rfl, rfl, rfl, rfl, rfl, rfl, rfl, rfl, rfl, rfl,
   rfl, rfl, rfl, rfl, rfl, rfl, rfl, rfl, rfl, rfl, rfl, rfl, rfl, rfl, rfl, rfl, rfl, rfl, rfl, rfl, rfl, rfl, rfl, rfl, rfl, rfl,
   rfl⟩
@[simp] theorem tallyOf_setTally_same (t : Nat) (x : Tally) (d : Dev) : tallyOf (setTally t x d) t = x := by
  simp [tallyOf, setTally]
theorem tallyOf_setTally_ne {t j : Nat} (x : Tally) (d : Dev) (h : j ≠ t) : tallyOf (setTally t x d) j = tallyOf d j := by
  simp [tallyOf, setTally, tabGet_tabPut_ne, h]
@[simp] theorem setCount_keeps (k : Nat) (v : Nat) (d : Dev) :
    (setCount k v d).mail = d.mail ∧ (setCount k v d).fw = d.fw ∧ (setCount k v d).links = d.links ∧ (setCount k v d).ec = d.ec ∧
    (setCount k v d).causes = d.causes ∧ (setCount k v d).causeMs = d.causeMs ∧ (setCount k v d).brakes = d.brakes ∧ (setCount k v
    d).trust = d.trust ∧ (setCount k v d).bench = d.bench ∧ (setCount k v d).power = d.power ∧ (setCount k v d).pins = d.pins ∧
    (setCount k v d).clock = d.clock ∧ (setCount k v d).time = d.time ∧ (setCount k v d).timeCfg = d.timeCfg ∧ (setCount k v d).mem =
    d.mem ∧ (setCount k v d).tx = d.tx ∧ (setCount k v d).rx = d.rx ∧ (setCount k v d).pool = d.pool ∧ (setCount k v d).frames =
    d.frames ∧ (setCount k v d).slots = d.slots ∧ (setCount k v d).cipher = d.cipher ∧ (setCount k v d).defects = d.defects ∧
    (setCount k v d).twins = d.twins ∧ (setCount k v d).clients = d.clients ∧ (setCount k v d).ixtas = d.ixtas ∧ (setCount k v d).free
    = d.free ∧ (setCount k v d).meas.selects = d.meas.selects ∧ (setCount k v d).meas.restarted = d.meas.restarted ∧ (setCount k v
    d).meas.allRestarted = d.meas.allRestarted ∧ (setCount k v d).meas.freezeReq = d.meas.freezeReq ∧ (setCount k v d).meas.frozen =
    d.meas.frozen ∧ (setCount k v d).meas.freezeAt = d.meas.freezeAt ∧ (setCount k v d).meas.snapAt = d.meas.snapAt ∧ (setCount k v
    d).meas.triggers = d.meas.triggers ∧ (setCount k v d).meas.captured = d.meas.captured ∧ (setCount k v d).meas.published =
    d.meas.published ∧ (setCount k v d).meas.dropped = d.meas.dropped ∧ (setCount k v d).meas.snapPeriod = d.meas.snapPeriod ∧
    (setCount k v d).meas.periodsTaken = d.meas.periodsTaken ∧ (setCount k v d).meas.snapUser = d.meas.snapUser ∧ (setCount k v
    d).meas.seqRows = d.meas.seqRows ∧ (setCount k v d).meas.tallies = d.meas.tallies ∧ (setCount k v d).meas.run = d.meas.run ∧
    (setCount k v d).meas.seqLen = d.meas.seqLen ∧ (setCount k v d).meas.seqLenNow = d.meas.seqLenNow ∧ (setCount k v d).meas.row =
    d.meas.row ∧ (setCount k v d).meas.rowAt = d.meas.rowAt ∧ (setCount k v d).meas.urgent = d.meas.urgent ∧ (setCount k v
    d).meas.urgentChannel = d.meas.urgentChannel ∧ (setCount k v d).meas.urgentTally = d.meas.urgentTally ∧ (setCount k v
    d).meas.urgentDropped = d.meas.urgentDropped ∧ (setCount k v d).meas.urgentDone = d.meas.urgentDone ∧ (setCount k v
    d).meas.urgentDrops = d.meas.urgentDrops :=
  ⟨rfl, rfl, rfl, rfl, rfl, rfl, rfl, rfl, rfl, rfl, rfl, rfl, rfl, rfl, rfl, rfl, rfl, rfl, rfl, rfl, rfl, rfl, rfl, rfl, rfl, rfl,
   rfl, rfl, rfl, rfl, rfl, rfl, rfl, rfl, rfl, rfl, rfl, rfl, rfl, rfl, rfl, rfl, rfl, rfl, rfl, rfl, rfl, rfl, rfl, rfl, rfl, rfl,
   rfl⟩
@[simp] theorem setCal_keeps (n : Nat) (x : Calibration) (d : Dev) :
    (setCal n x d).mail = d.mail ∧ (setCal n x d).fw = d.fw ∧ (setCal n x d).links = d.links ∧ (setCal n x d).ec = d.ec ∧ (setCal n x
    d).causes = d.causes ∧ (setCal n x d).causeMs = d.causeMs ∧ (setCal n x d).brakes = d.brakes ∧ (setCal n x d).trust = d.trust ∧
    (setCal n x d).meas = d.meas ∧ (setCal n x d).power = d.power ∧ (setCal n x d).pins = d.pins ∧ (setCal n x d).clock = d.clock ∧
    (setCal n x d).time = d.time ∧ (setCal n x d).timeCfg = d.timeCfg ∧ (setCal n x d).mem = d.mem ∧ (setCal n x d).tx = d.tx ∧
    (setCal n x d).rx = d.rx ∧ (setCal n x d).pool = d.pool ∧ (setCal n x d).frames = d.frames ∧ (setCal n x d).slots = d.slots ∧
    (setCal n x d).cipher = d.cipher ∧ (setCal n x d).defects = d.defects ∧ (setCal n x d).twins = d.twins ∧ (setCal n x d).clients =
    d.clients ∧ (setCal n x d).ixtas = d.ixtas ∧ (setCal n x d).free = d.free ∧ (setCal n x d).bench.rowHeld = d.bench.rowHeld ∧
    (setCal n x d).bench.biasMux = d.bench.biasMux ∧ (setCal n x d).bench.calOrder = d.bench.calOrder ∧ (setCal n x d).bench.window =
    d.bench.window ∧ (setCal n x d).bench.evaluated = d.bench.evaluated :=
  ⟨rfl, rfl, rfl, rfl, rfl, rfl, rfl, rfl, rfl, rfl, rfl, rfl, rfl, rfl, rfl, rfl, rfl, rfl, rfl, rfl, rfl, rfl, rfl, rfl, rfl, rfl,
   rfl, rfl, rfl, rfl, rfl⟩
@[simp] theorem calOf_setCal_same (n : Nat) (x : Calibration) (d : Dev) : calOf (setCal n x d) n = x := by
  simp [calOf, setCal]
theorem calOf_setCal_ne {n j : Nat} (x : Calibration) (d : Dev) (h : j ≠ n) : calOf (setCal n x d) j = calOf d j := by
  simp [calOf, setCal, tabGet_tabPut_ne, h]
@[simp] theorem setStack_keeps (x : Nat) (st : List (Nat × Nat)) (d : Dev) :
    (setStack x st d).mail = d.mail ∧ (setStack x st d).fw = d.fw ∧ (setStack x st d).links = d.links ∧ (setStack x st d).causes =
    d.causes ∧ (setStack x st d).causeMs = d.causeMs ∧ (setStack x st d).brakes = d.brakes ∧ (setStack x st d).trust = d.trust ∧
    (setStack x st d).meas = d.meas ∧ (setStack x st d).bench = d.bench ∧ (setStack x st d).power = d.power ∧ (setStack x st d).pins =
    d.pins ∧ (setStack x st d).clock = d.clock ∧ (setStack x st d).time = d.time ∧ (setStack x st d).timeCfg = d.timeCfg ∧ (setStack x
    st d).mem = d.mem ∧ (setStack x st d).tx = d.tx ∧ (setStack x st d).rx = d.rx ∧ (setStack x st d).pool = d.pool ∧ (setStack x st
    d).frames = d.frames ∧ (setStack x st d).slots = d.slots ∧ (setStack x st d).cipher = d.cipher ∧ (setStack x st d).defects =
    d.defects ∧ (setStack x st d).twins = d.twins ∧ (setStack x st d).clients = d.clients ∧ (setStack x st d).ixtas = d.ixtas ∧
    (setStack x st d).free = d.free ∧ (setStack x st d).ec.srcCfg = d.ec.srcCfg ∧ (setStack x st d).ec.pend = d.ec.pend ∧ (setStack x
    st d).ec.unack = d.ec.unack ∧ (setStack x st d).ec.modr = d.ec.modr ∧ (setStack x st d).ec.faults = d.ec.faults ∧ (setStack x st
    d).ec.coreWait = d.ec.coreWait ∧ (setStack x st d).ec.corePdWait = d.ec.corePdWait ∧ (setStack x st d).ec.woken = d.ec.woken ∧
    (setStack x st d).ec.signalled = d.ec.signalled ∧ (setStack x st d).ec.trapEntry = d.ec.trapEntry ∧ (setStack x st d).ec.claimAt =
    d.ec.claimAt ∧ (setStack x st d).ec.msix = d.ec.msix ∧ (setStack x st d).ec.messages = d.ec.messages :=
  ⟨rfl, rfl, rfl, rfl, rfl, rfl, rfl, rfl, rfl, rfl, rfl, rfl, rfl, rfl, rfl, rfl, rfl, rfl, rfl, rfl, rfl, rfl, rfl, rfl, rfl, rfl,
   rfl, rfl, rfl, rfl, rfl, rfl, rfl, rfl, rfl, rfl, rfl, rfl, rfl⟩
@[simp] theorem stackOf_setStack_same (x : Nat) (st : List (Nat × Nat)) (d : Dev) : stackOf (setStack x st d) x = st := by
  simp [stackOf, setStack]
theorem stackOf_setStack_ne {x j : Nat} (st : List (Nat × Nat)) (d : Dev) (h : j ≠ x) : stackOf (setStack x st d) j = stackOf d j := by
  simp [stackOf, setStack, tabGet_tabPut_ne, h]
@[simp] theorem setPend_keeps (s : Nat) (d : Dev) :
    (setPend s d).mail = d.mail ∧ (setPend s d).fw = d.fw ∧ (setPend s d).links = d.links ∧ (setPend s d).causes = d.causes ∧ (setPend
    s d).causeMs = d.causeMs ∧ (setPend s d).brakes = d.brakes ∧ (setPend s d).trust = d.trust ∧ (setPend s d).meas = d.meas ∧
    (setPend s d).bench = d.bench ∧ (setPend s d).power = d.power ∧ (setPend s d).pins = d.pins ∧ (setPend s d).clock = d.clock ∧
    (setPend s d).time = d.time ∧ (setPend s d).timeCfg = d.timeCfg ∧ (setPend s d).mem = d.mem ∧ (setPend s d).tx = d.tx ∧ (setPend s
    d).rx = d.rx ∧ (setPend s d).pool = d.pool ∧ (setPend s d).frames = d.frames ∧ (setPend s d).slots = d.slots ∧ (setPend s
    d).cipher = d.cipher ∧ (setPend s d).defects = d.defects ∧ (setPend s d).twins = d.twins ∧ (setPend s d).clients = d.clients ∧
    (setPend s d).ixtas = d.ixtas ∧ (setPend s d).free = d.free ∧ (setPend s d).ec.srcCfg = d.ec.srcCfg ∧ (setPend s d).ec.unack =
    d.ec.unack ∧ (setPend s d).ec.modr = d.ec.modr ∧ (setPend s d).ec.claimStacks = d.ec.claimStacks ∧ (setPend s d).ec.faults =
    d.ec.faults ∧ (setPend s d).ec.coreWait = d.ec.coreWait ∧ (setPend s d).ec.corePdWait = d.ec.corePdWait ∧ (setPend s d).ec.woken =
    d.ec.woken ∧ (setPend s d).ec.signalled = d.ec.signalled ∧ (setPend s d).ec.trapEntry = d.ec.trapEntry ∧ (setPend s d).ec.claimAt
    = d.ec.claimAt ∧ (setPend s d).ec.msix = d.ec.msix ∧ (setPend s d).ec.messages = d.ec.messages :=
  ⟨rfl, rfl, rfl, rfl, rfl, rfl, rfl, rfl, rfl, rfl, rfl, rfl, rfl, rfl, rfl, rfl, rfl, rfl, rfl, rfl, rfl, rfl, rfl, rfl, rfl, rfl,
   rfl, rfl, rfl, rfl, rfl, rfl, rfl, rfl, rfl, rfl, rfl, rfl, rfl⟩
@[simp] theorem clearPend_keeps (s : Nat) (d : Dev) :
    (clearPend s d).mail = d.mail ∧ (clearPend s d).fw = d.fw ∧ (clearPend s d).links = d.links ∧ (clearPend s d).causes = d.causes ∧
    (clearPend s d).causeMs = d.causeMs ∧ (clearPend s d).brakes = d.brakes ∧ (clearPend s d).trust = d.trust ∧ (clearPend s d).meas =
    d.meas ∧ (clearPend s d).bench = d.bench ∧ (clearPend s d).power = d.power ∧ (clearPend s d).pins = d.pins ∧ (clearPend s d).clock
    = d.clock ∧ (clearPend s d).time = d.time ∧ (clearPend s d).timeCfg = d.timeCfg ∧ (clearPend s d).mem = d.mem ∧ (clearPend s d).tx
    = d.tx ∧ (clearPend s d).rx = d.rx ∧ (clearPend s d).pool = d.pool ∧ (clearPend s d).frames = d.frames ∧ (clearPend s d).slots =
    d.slots ∧ (clearPend s d).cipher = d.cipher ∧ (clearPend s d).defects = d.defects ∧ (clearPend s d).twins = d.twins ∧ (clearPend s
    d).clients = d.clients ∧ (clearPend s d).ixtas = d.ixtas ∧ (clearPend s d).free = d.free ∧ (clearPend s d).ec.srcCfg = d.ec.srcCfg ∧
    (clearPend s d).ec.unack = d.ec.unack ∧ (clearPend s d).ec.modr = d.ec.modr ∧ (clearPend s d).ec.claimStacks = d.ec.claimStacks ∧
    (clearPend s d).ec.faults = d.ec.faults ∧ (clearPend s d).ec.coreWait = d.ec.coreWait ∧ (clearPend s d).ec.corePdWait =
    d.ec.corePdWait ∧ (clearPend s d).ec.woken = d.ec.woken ∧ (clearPend s d).ec.signalled = d.ec.signalled ∧ (clearPend s
    d).ec.trapEntry = d.ec.trapEntry ∧ (clearPend s d).ec.claimAt = d.ec.claimAt ∧ (clearPend s d).ec.msix = d.ec.msix ∧ (clearPend s
    d).ec.messages = d.ec.messages :=
  ⟨rfl, rfl, rfl, rfl, rfl, rfl, rfl, rfl, rfl, rfl, rfl, rfl, rfl, rfl, rfl, rfl, rfl, rfl, rfl, rfl, rfl, rfl, rfl, rfl, rfl, rfl,
   rfl, rfl, rfl, rfl, rfl, rfl, rfl, rfl, rfl, rfl, rfl, rfl, rfl⟩
@[simp] theorem setOut_keeps (vs : List Word) (d : Dev) :
    (setOut vs d).fw = d.fw ∧ (setOut vs d).links = d.links ∧ (setOut vs d).ec = d.ec ∧ (setOut vs d).causes = d.causes ∧ (setOut vs
    d).causeMs = d.causeMs ∧ (setOut vs d).brakes = d.brakes ∧ (setOut vs d).trust = d.trust ∧ (setOut vs d).meas = d.meas ∧ (setOut
    vs d).bench = d.bench ∧ (setOut vs d).power = d.power ∧ (setOut vs d).pins = d.pins ∧ (setOut vs d).clock = d.clock ∧ (setOut vs
    d).time = d.time ∧ (setOut vs d).timeCfg = d.timeCfg ∧ (setOut vs d).mem = d.mem ∧ (setOut vs d).tx = d.tx ∧ (setOut vs d).rx =
    d.rx ∧ (setOut vs d).pool = d.pool ∧ (setOut vs d).frames = d.frames ∧ (setOut vs d).slots = d.slots ∧ (setOut vs d).cipher =
    d.cipher ∧ (setOut vs d).defects = d.defects ∧ (setOut vs d).twins = d.twins ∧ (setOut vs d).clients = d.clients ∧ (setOut vs
    d).ixtas = d.ixtas ∧ (setOut vs d).free = d.free ∧ (setOut vs d).mail.boxes = d.mail.boxes ∧ (setOut vs d).mail.order =
    d.mail.order ∧ (setOut vs d).mail.posts = d.mail.posts ∧ (setOut vs d).mail.down = d.mail.down ∧ (setOut vs
    d).mail.smpWriteDisable = d.mail.smpWriteDisable ∧ (setOut vs d).mail.smpStrap = d.mail.smpStrap ∧ (setOut vs d).mail.smpPointer =
    d.mail.smpPointer ∧ (setOut vs d).mail.laser = d.mail.laser ∧ (setOut vs d).mail.transfers = d.mail.transfers :=
  ⟨rfl, rfl, rfl, rfl, rfl, rfl, rfl, rfl, rfl, rfl, rfl, rfl, rfl, rfl, rfl, rfl, rfl, rfl, rfl, rfl, rfl, rfl, rfl, rfl, rfl, rfl,
   rfl, rfl, rfl, rfl, rfl, rfl, rfl, rfl, rfl⟩
@[simp] theorem setCws_keeps (l : List PoolCw) (d : Dev) :
    (setCws l d).mail = d.mail ∧ (setCws l d).fw = d.fw ∧ (setCws l d).links = d.links ∧ (setCws l d).ec = d.ec ∧ (setCws l d).causes
    = d.causes ∧ (setCws l d).causeMs = d.causeMs ∧ (setCws l d).brakes = d.brakes ∧ (setCws l d).trust = d.trust ∧ (setCws l d).meas
    = d.meas ∧ (setCws l d).bench = d.bench ∧ (setCws l d).power = d.power ∧ (setCws l d).pins = d.pins ∧ (setCws l d).clock = d.clock ∧
    (setCws l d).time = d.time ∧ (setCws l d).timeCfg = d.timeCfg ∧ (setCws l d).mem = d.mem ∧ (setCws l d).tx = d.tx ∧ (setCws l
    d).rx = d.rx ∧ (setCws l d).frames = d.frames ∧ (setCws l d).slots = d.slots ∧ (setCws l d).cipher = d.cipher ∧ (setCws l
    d).defects = d.defects ∧ (setCws l d).twins = d.twins ∧ (setCws l d).clients = d.clients ∧ (setCws l d).ixtas = d.ixtas ∧ (setCws
    l d).free = d.free ∧ (setCws l d).pool.cfg = d.pool.cfg ∧ (setCws l d).pool.cfgNext = d.pool.cfgNext ∧ (setCws l d).pool.caps =
    d.pool.caps ∧ (setCws l d).pool.capsNext = d.pool.capsNext ∧ (setCws l d).pool.point = d.pool.point ∧ (setCws l d).pool.rail =
    d.pool.rail ∧ (setCws l d).pool.arrivals = d.pool.arrivals ∧ (setCws l d).pool.epochOn = d.pool.epochOn ∧ (setCws l d).pool.budget
    = d.pool.budget ∧ (setCws l d).pool.remaining = d.pool.remaining ∧ (setCws l d).pool.granted = d.pool.granted ∧ (setCws l
    d).pool.baseRun = d.pool.baseRun ∧ (setCws l d).pool.extraRun = d.pool.extraRun ∧ (setCws l d).pool.extSize = d.pool.extSize ∧
    (setCws l d).pool.lastBudget = d.pool.lastBudget ∧ (setCws l d).pool.lastSize = d.pool.lastSize ∧ (setCws l d).pool.extStarved =
    d.pool.extStarved ∧ (setCws l d).pool.demand = d.pool.demand ∧ (setCws l d).pool.window = d.pool.window ∧ (setCws l d).pool.quiet
    = d.pool.quiet ∧ (setCws l d).pool.now = d.pool.now ∧ (setCws l d).pool.last = d.pool.last ∧ (setCws l d).pool.raised =
    d.pool.raised :=
  ⟨rfl, rfl, rfl, rfl, rfl, rfl, rfl, rfl, rfl, rfl, rfl, rfl, rfl, rfl, rfl, rfl, rfl, rfl, rfl, rfl, rfl, rfl, rfl, rfl, rfl, rfl,
   rfl, rfl, rfl, rfl, rfl, rfl, rfl, rfl, rfl, rfl, rfl, rfl, rfl, rfl, rfl, rfl, rfl, rfl, rfl, rfl, rfl, rfl, rfl⟩
@[simp] theorem setMail_keeps (m : Mail) (d : Dev) :
    (setMail m d).fw = d.fw ∧ (setMail m d).links = d.links ∧ (setMail m d).ec = d.ec ∧ (setMail m d).causes = d.causes ∧ (setMail m
    d).causeMs = d.causeMs ∧ (setMail m d).brakes = d.brakes ∧ (setMail m d).trust = d.trust ∧ (setMail m d).meas = d.meas ∧ (setMail
    m d).bench = d.bench ∧ (setMail m d).power = d.power ∧ (setMail m d).pins = d.pins ∧ (setMail m d).clock = d.clock ∧ (setMail m
    d).time = d.time ∧ (setMail m d).timeCfg = d.timeCfg ∧ (setMail m d).mem = d.mem ∧ (setMail m d).tx = d.tx ∧ (setMail m d).rx =
    d.rx ∧ (setMail m d).pool = d.pool ∧ (setMail m d).frames = d.frames ∧ (setMail m d).slots = d.slots ∧ (setMail m d).cipher =
    d.cipher ∧ (setMail m d).defects = d.defects ∧ (setMail m d).twins = d.twins ∧ (setMail m d).clients = d.clients ∧ (setMail m
    d).ixtas = d.ixtas ∧ (setMail m d).free = d.free :=
  ⟨rfl, rfl, rfl, rfl, rfl, rfl, rfl, rfl, rfl, rfl, rfl, rfl, rfl, rfl, rfl, rfl, rfl, rfl, rfl, rfl, rfl, rfl, rfl, rfl, rfl, rfl⟩
@[simp] theorem setPool_keeps (p : Pool) (d : Dev) :
    (setPool p d).mail = d.mail ∧ (setPool p d).fw = d.fw ∧ (setPool p d).links = d.links ∧ (setPool p d).ec = d.ec ∧ (setPool p
    d).causes = d.causes ∧ (setPool p d).causeMs = d.causeMs ∧ (setPool p d).brakes = d.brakes ∧ (setPool p d).trust = d.trust ∧
    (setPool p d).meas = d.meas ∧ (setPool p d).bench = d.bench ∧ (setPool p d).power = d.power ∧ (setPool p d).pins = d.pins ∧
    (setPool p d).clock = d.clock ∧ (setPool p d).time = d.time ∧ (setPool p d).timeCfg = d.timeCfg ∧ (setPool p d).mem = d.mem ∧
    (setPool p d).tx = d.tx ∧ (setPool p d).rx = d.rx ∧ (setPool p d).frames = d.frames ∧ (setPool p d).slots = d.slots ∧ (setPool p
    d).cipher = d.cipher ∧ (setPool p d).defects = d.defects ∧ (setPool p d).twins = d.twins ∧ (setPool p d).clients = d.clients ∧
    (setPool p d).ixtas = d.ixtas ∧ (setPool p d).free = d.free :=
  ⟨rfl, rfl, rfl, rfl, rfl, rfl, rfl, rfl, rfl, rfl, rfl, rfl, rfl, rfl, rfl, rfl, rfl, rfl, rfl, rfl, rfl, rfl, rfl, rfl, rfl, rfl⟩
@[simp] theorem setPower_keeps (p : Power) (d : Dev) :
    (setPower p d).mail = d.mail ∧ (setPower p d).fw = d.fw ∧ (setPower p d).links = d.links ∧ (setPower p d).ec = d.ec ∧ (setPower p
    d).causes = d.causes ∧ (setPower p d).causeMs = d.causeMs ∧ (setPower p d).brakes = d.brakes ∧ (setPower p d).trust = d.trust ∧
    (setPower p d).meas = d.meas ∧ (setPower p d).bench = d.bench ∧ (setPower p d).pins = d.pins ∧ (setPower p d).clock = d.clock ∧
    (setPower p d).time = d.time ∧ (setPower p d).timeCfg = d.timeCfg ∧ (setPower p d).mem = d.mem ∧ (setPower p d).tx = d.tx ∧
    (setPower p d).rx = d.rx ∧ (setPower p d).pool = d.pool ∧ (setPower p d).frames = d.frames ∧ (setPower p d).slots = d.slots ∧
    (setPower p d).cipher = d.cipher ∧ (setPower p d).defects = d.defects ∧ (setPower p d).twins = d.twins ∧ (setPower p d).clients =
    d.clients ∧ (setPower p d).ixtas = d.ixtas ∧ (setPower p d).free = d.free :=
  ⟨rfl, rfl, rfl, rfl, rfl, rfl, rfl, rfl, rfl, rfl, rfl, rfl, rfl, rfl, rfl, rfl, rfl, rfl, rfl, rfl, rfl, rfl, rfl, rfl, rfl, rfl⟩
@[simp] theorem setPins_keeps (p : Pins) (d : Dev) :
    (setPins p d).mail = d.mail ∧ (setPins p d).fw = d.fw ∧ (setPins p d).links = d.links ∧ (setPins p d).ec = d.ec ∧ (setPins p
    d).causes = d.causes ∧ (setPins p d).causeMs = d.causeMs ∧ (setPins p d).brakes = d.brakes ∧ (setPins p d).trust = d.trust ∧
    (setPins p d).meas = d.meas ∧ (setPins p d).bench = d.bench ∧ (setPins p d).power = d.power ∧ (setPins p d).clock = d.clock ∧
    (setPins p d).time = d.time ∧ (setPins p d).timeCfg = d.timeCfg ∧ (setPins p d).mem = d.mem ∧ (setPins p d).tx = d.tx ∧ (setPins p
    d).rx = d.rx ∧ (setPins p d).pool = d.pool ∧ (setPins p d).frames = d.frames ∧ (setPins p d).slots = d.slots ∧ (setPins p
    d).cipher = d.cipher ∧ (setPins p d).defects = d.defects ∧ (setPins p d).twins = d.twins ∧ (setPins p d).clients = d.clients ∧
    (setPins p d).ixtas = d.ixtas ∧ (setPins p d).free = d.free :=
  ⟨rfl, rfl, rfl, rfl, rfl, rfl, rfl, rfl, rfl, rfl, rfl, rfl, rfl, rfl, rfl, rfl, rfl, rfl, rfl, rfl, rfl, rfl, rfl, rfl, rfl, rfl⟩
@[simp] theorem setBrakes_keeps (f : Brakes → Brakes) (d : Dev) :
    (setBrakes f d).mail = d.mail ∧ (setBrakes f d).fw = d.fw ∧ (setBrakes f d).links = d.links ∧ (setBrakes f d).ec = d.ec ∧
    (setBrakes f d).causes = d.causes ∧ (setBrakes f d).causeMs = d.causeMs ∧ (setBrakes f d).trust = d.trust ∧ (setBrakes f d).meas =
    d.meas ∧ (setBrakes f d).bench = d.bench ∧ (setBrakes f d).power = d.power ∧ (setBrakes f d).pins = d.pins ∧ (setBrakes f d).clock
    = d.clock ∧ (setBrakes f d).time = d.time ∧ (setBrakes f d).timeCfg = d.timeCfg ∧ (setBrakes f d).mem = d.mem ∧ (setBrakes f d).tx
    = d.tx ∧ (setBrakes f d).rx = d.rx ∧ (setBrakes f d).pool = d.pool ∧ (setBrakes f d).frames = d.frames ∧ (setBrakes f d).slots =
    d.slots ∧ (setBrakes f d).cipher = d.cipher ∧ (setBrakes f d).defects = d.defects ∧ (setBrakes f d).twins = d.twins ∧ (setBrakes f
    d).clients = d.clients ∧ (setBrakes f d).ixtas = d.ixtas ∧ (setBrakes f d).free = d.free :=
  ⟨rfl, rfl, rfl, rfl, rfl, rfl, rfl, rfl, rfl, rfl, rfl, rfl, rfl, rfl, rfl, rfl, rfl, rfl, rfl, rfl, rfl, rfl, rfl, rfl, rfl, rfl⟩

end Sys2Proof.Machine
end

