-- ==== Sys2Proof/Laws/Ops.lean ====
section
/-! SUPPORT. What each shared operation changes: one lemma for each field of the device that it keeps, and what it writes. -/

namespace Sys2Proof.Machine

/-! ## Counting, raising, posting -/

/-- What every step of a fold keeps, the fold keeps. -/
theorem foldl_keeps {α β : Type} (p : Dev → β) (f : Dev → α → Dev) (h : ∀ d a, p (f d a) = p d) (l : List α) (d : Dev) :
    p (l.foldl f d) = p d := by
  induction l generalizing d with
  | nil => rfl
  | cons a t ih => rw [List.foldl_cons, ih, h]

@[simp] theorem bump_mail (k n : Nat) (d : Dev) : (bump k n d).mail = d.mail := by unfold bump; split <;> rfl
@[simp] theorem bump_fw (k n : Nat) (d : Dev) : (bump k n d).fw = d.fw := by unfold bump; split <;> rfl
@[simp] theorem bump_links (k n : Nat) (d : Dev) : (bump k n d).links = d.links := by unfold bump; split <;> rfl
@[simp] theorem bump_ec (k n : Nat) (d : Dev) : (bump k n d).ec = d.ec := by unfold bump; split <;> rfl
@[simp] theorem bump_causes (k n : Nat) (d : Dev) : (bump k n d).causes = d.causes := by unfold bump; split <;> rfl
@[simp] theorem bump_causeMs (k n : Nat) (d : Dev) : (bump k n d).causeMs = d.causeMs := by unfold bump; split <;> rfl
@[simp] theorem bump_brakes (k n : Nat) (d : Dev) : (bump k n d).brakes = d.brakes := by unfold bump; split <;> rfl
@[simp] theorem bump_trust (k n : Nat) (d : Dev) : (bump k n d).trust = d.trust := by unfold bump; split <;> rfl
@[simp] theorem bump_bench (k n : Nat) (d : Dev) : (bump k n d).bench = d.bench := by unfold bump; split <;> rfl
@[simp] theorem bump_power (k n : Nat) (d : Dev) : (bump k n d).power = d.power := by unfold bump; split <;> rfl
@[simp] theorem bump_pins (k n : Nat) (d : Dev) : (bump k n d).pins = d.pins := by unfold bump; split <;> rfl
@[simp] theorem bump_clock (k n : Nat) (d : Dev) : (bump k n d).clock = d.clock := by unfold bump; split <;> rfl
@[simp] theorem bump_time (k n : Nat) (d : Dev) : (bump k n d).time = d.time := by unfold bump; split <;> rfl
@[simp] theorem bump_timeCfg (k n : Nat) (d : Dev) : (bump k n d).timeCfg = d.timeCfg := by unfold bump; split <;> rfl
@[simp] theorem bump_mem (k n : Nat) (d : Dev) : (bump k n d).mem = d.mem := by unfold bump; split <;> rfl
@[simp] theorem bump_tx (k n : Nat) (d : Dev) : (bump k n d).tx = d.tx := by unfold bump; split <;> rfl
@[simp] theorem bump_rx (k n : Nat) (d : Dev) : (bump k n d).rx = d.rx := by unfold bump; split <;> rfl
@[simp] theorem bump_pool (k n : Nat) (d : Dev) : (bump k n d).pool = d.pool := by unfold bump; split <;> rfl
@[simp] theorem bump_frames (k n : Nat) (d : Dev) : (bump k n d).frames = d.frames := by unfold bump; split <;> rfl
@[simp] theorem bump_slots (k n : Nat) (d : Dev) : (bump k n d).slots = d.slots := by unfold bump; split <;> rfl
@[simp] theorem bump_cipher (k n : Nat) (d : Dev) : (bump k n d).cipher = d.cipher := by unfold bump; split <;> rfl
@[simp] theorem bump_defects (k n : Nat) (d : Dev) : (bump k n d).defects = d.defects := by unfold bump; split <;> rfl
@[simp] theorem bump_twins (k n : Nat) (d : Dev) : (bump k n d).twins = d.twins := by unfold bump; split <;> rfl
@[simp] theorem bump_clients (k n : Nat) (d : Dev) : (bump k n d).clients = d.clients := by unfold bump; split <;> rfl
@[simp] theorem bump_ixtas (k n : Nat) (d : Dev) : (bump k n d).ixtas = d.ixtas := by unfold bump; split <;> rfl
@[simp] theorem bump_free (k n : Nat) (d : Dev) : (bump k n d).free = d.free := by unfold bump; split <;> rfl
@[simp] theorem tally_mail (b e ent n : Nat) (d : Dev) : (tally b e ent n d).mail = d.mail := foldl_keeps (·.mail) _ (fun d k => by split <;> simp) _ d
@[simp] theorem tally_fw (b e ent n : Nat) (d : Dev) : (tally b e ent n d).fw = d.fw := foldl_keeps (·.fw) _ (fun d k => by split <;> simp) _ d
@[simp] theorem tally_links (b e ent n : Nat) (d : Dev) : (tally b e ent n d).links = d.links := foldl_keeps (·.links) _ (fun d k => by split <;> simp) _ d
@[simp] theorem tally_ec (b e ent n : Nat) (d : Dev) : (tally b e ent n d).ec = d.ec := foldl_keeps (·.ec) _ (fun d k => by split <;> simp) _ d
@[simp] theorem tally_causes (b e ent n : Nat) (d : Dev) : (tally b e ent n d).causes = d.causes := foldl_keeps (·.causes) _ (fun d k => by split <;> simp) _ d
@[simp] theorem tally_causeMs (b e ent n : Nat) (d : Dev) : (tally b e ent n d).causeMs = d.causeMs := foldl_keeps (·.causeMs) _ (fun d k => by split <;> simp) _ d
@[simp] theorem tally_brakes (b e ent n : Nat) (d : Dev) : (tally b e ent n d).brakes = d.brakes := foldl_keeps (·.brakes) _ (fun d k => by split <;> simp) _ d
@[simp] theorem tally_trust (b e ent n : Nat) (d : Dev) : (tally b e ent n d).trust = d.trust := foldl_keeps (·.trust) _ (fun d k => by split <;> simp) _ d
@[simp] theorem tally_bench (b e ent n : Nat) (d : Dev) : (tally b e ent n d).bench = d.bench := foldl_keeps (·.bench) _ (fun d k => by split <;> simp) _ d
@[simp] theorem tally_power (b e ent n : Nat) (d : Dev) : (tally b e ent n d).power = d.power := foldl_keeps (·.power) _ (fun d k => by split <;> simp) _ d
@[simp] theorem tally_pins (b e ent n : Nat) (d : Dev) : (tally b e ent n d).pins = d.pins := foldl_keeps (·.pins) _ (fun d k => by split <;> simp) _ d
@[simp] theorem tally_clock (b e ent n : Nat) (d : Dev) : (tally b e ent n d).clock = d.clock := foldl_keeps (·.clock) _ (fun d k => by split <;> simp) _ d
@[simp] theorem tally_time (b e ent n : Nat) (d : Dev) : (tally b e ent n d).time = d.time := foldl_keeps (·.time) _ (fun d k => by split <;> simp) _ d
@[simp] theorem tally_timeCfg (b e ent n : Nat) (d : Dev) : (tally b e ent n d).timeCfg = d.timeCfg := foldl_keeps (·.timeCfg) _ (fun d k => by split <;> simp) _ d
@[simp] theorem tally_mem (b e ent n : Nat) (d : Dev) : (tally b e ent n d).mem = d.mem := foldl_keeps (·.mem) _ (fun d k => by split <;> simp) _ d
@[simp] theorem tally_tx (b e ent n : Nat) (d : Dev) : (tally b e ent n d).tx = d.tx := foldl_keeps (·.tx) _ (fun d k => by split <;> simp) _ d
@[simp] theorem tally_rx (b e ent n : Nat) (d : Dev) : (tally b e ent n d).rx = d.rx := foldl_keeps (·.rx) _ (fun d k => by split <;> simp) _ d
@[simp] theorem tally_pool (b e ent n : Nat) (d : Dev) : (tally b e ent n d).pool = d.pool := foldl_keeps (·.pool) _ (fun d k => by split <;> simp) _ d
@[simp] theorem tally_frames (b e ent n : Nat) (d : Dev) : (tally b e ent n d).frames = d.frames := foldl_keeps (·.frames) _ (fun d k => by split <;> simp) _ d
@[simp] theorem tally_slots (b e ent n : Nat) (d : Dev) : (tally b e ent n d).slots = d.slots := foldl_keeps (·.slots) _ (fun d k => by split <;> simp) _ d
@[simp] theorem tally_cipher (b e ent n : Nat) (d : Dev) : (tally b e ent n d).cipher = d.cipher := foldl_keeps (·.cipher) _ (fun d k => by split <;> simp) _ d
@[simp] theorem tally_defects (b e ent n : Nat) (d : Dev) : (tally b e ent n d).defects = d.defects := foldl_keeps (·.defects) _ (fun d k => by split <;> simp) _ d
@[simp] theorem tally_twins (b e ent n : Nat) (d : Dev) : (tally b e ent n d).twins = d.twins := foldl_keeps (·.twins) _ (fun d k => by split <;> simp) _ d
@[simp] theorem tally_clients (b e ent n : Nat) (d : Dev) : (tally b e ent n d).clients = d.clients := foldl_keeps (·.clients) _ (fun d k => by split <;> simp) _ d
@[simp] theorem tally_ixtas (b e ent n : Nat) (d : Dev) : (tally b e ent n d).ixtas = d.ixtas := foldl_keeps (·.ixtas) _ (fun d k => by split <;> simp) _ d
@[simp] theorem tally_free (b e ent n : Nat) (d : Dev) : (tally b e ent n d).free = d.free := foldl_keeps (·.free) _ (fun d k => by split <;> simp) _ d
@[simp] theorem raise_mail (s : Nat) (d : Dev) : (raise s d).mail = d.mail := by simp [raise]
@[simp] theorem raise_fw (s : Nat) (d : Dev) : (raise s d).fw = d.fw := by simp [raise]
@[simp] theorem raise_links (s : Nat) (d : Dev) : (raise s d).links = d.links := by simp [raise]
@[simp] theorem raise_causes (s : Nat) (d : Dev) : (raise s d).causes = d.causes := by simp [raise]
@[simp] theorem raise_causeMs (s : Nat) (d : Dev) : (raise s d).causeMs = d.causeMs := by simp [raise]
@[simp] theorem raise_brakes (s : Nat) (d : Dev) : (raise s d).brakes = d.brakes := by simp [raise]
@[simp] theorem raise_trust (s : Nat) (d : Dev) : (raise s d).trust = d.trust := by simp [raise]
@[simp] theorem raise_bench (s : Nat) (d : Dev) : (raise s d).bench = d.bench := by simp [raise]
@[simp] theorem raise_power (s : Nat) (d : Dev) : (raise s d).power = d.power := by simp [raise]
@[simp] theorem raise_pins (s : Nat) (d : Dev) : (raise s d).pins = d.pins := by simp [raise]
@[simp] theorem raise_clock (s : Nat) (d : Dev) : (raise s d).clock = d.clock := by simp [raise]
@[simp] theorem raise_time (s : Nat) (d : Dev) : (raise s d).time = d.time := by simp [raise]
@[simp] theorem raise_timeCfg (s : Nat) (d : Dev) : (raise s d).timeCfg = d.timeCfg := by simp [raise]
@[simp] theorem raise_mem (s : Nat) (d : Dev) : (raise s d).mem = d.mem := by simp [raise]
@[simp] theorem raise_tx (s : Nat) (d : Dev) : (raise s d).tx = d.tx := by simp [raise]
@[simp] theorem raise_rx (s : Nat) (d : Dev) : (raise s d).rx = d.rx := by simp [raise]
@[simp] theorem raise_pool (s : Nat) (d : Dev) : (raise s d).pool = d.pool := by simp [raise]
@[simp] theorem raise_frames (s : Nat) (d : Dev) : (raise s d).frames = d.frames := by simp [raise]
@[simp] theorem raise_slots (s : Nat) (d : Dev) : (raise s d).slots = d.slots := by simp [raise]
@[simp] theorem raise_cipher (s : Nat) (d : Dev) : (raise s d).cipher = d.cipher := by simp [raise]
@[simp] theorem raise_defects (s : Nat) (d : Dev) : (raise s d).defects = d.defects := by simp [raise]
@[simp] theorem raise_twins (s : Nat) (d : Dev) : (raise s d).twins = d.twins := by simp [raise]
@[simp] theorem raise_clients (s : Nat) (d : Dev) : (raise s d).clients = d.clients := by simp [raise]
@[simp] theorem raise_ixtas (s : Nat) (d : Dev) : (raise s d).ixtas = d.ixtas := by simp [raise]
@[simp] theorem raise_free (s : Nat) (d : Dev) : (raise s d).free = d.free := by simp [raise]
@[simp] theorem raiseCause_mail (r : CauseReg) (b : Nat) (d : Dev) : (raiseCause r b d).mail = d.mail := by simp [raiseCause]
@[simp] theorem raiseCause_fw (r : CauseReg) (b : Nat) (d : Dev) : (raiseCause r b d).fw = d.fw := by simp [raiseCause]
@[simp] theorem raiseCause_links (r : CauseReg) (b : Nat) (d : Dev) : (raiseCause r b d).links = d.links := by simp [raiseCause]
@[simp] theorem raiseCause_causeMs (r : CauseReg) (b : Nat) (d : Dev) : (raiseCause r b d).causeMs = d.causeMs := by simp [raiseCause]
@[simp] theorem raiseCause_brakes (r : CauseReg) (b : Nat) (d : Dev) : (raiseCause r b d).brakes = d.brakes := by simp [raiseCause]
@[simp] theorem raiseCause_trust (r : CauseReg) (b : Nat) (d : Dev) : (raiseCause r b d).trust = d.trust := by simp [raiseCause]
@[simp] theorem raiseCause_bench (r : CauseReg) (b : Nat) (d : Dev) : (raiseCause r b d).bench = d.bench := by simp [raiseCause]
@[simp] theorem raiseCause_power (r : CauseReg) (b : Nat) (d : Dev) : (raiseCause r b d).power = d.power := by simp [raiseCause]
@[simp] theorem raiseCause_pins (r : CauseReg) (b : Nat) (d : Dev) : (raiseCause r b d).pins = d.pins := by simp [raiseCause]
@[simp] theorem raiseCause_clock (r : CauseReg) (b : Nat) (d : Dev) : (raiseCause r b d).clock = d.clock := by simp [raiseCause]
@[simp] theorem raiseCause_time (r : CauseReg) (b : Nat) (d : Dev) : (raiseCause r b d).time = d.time := by simp [raiseCause]
@[simp] theorem raiseCause_timeCfg (r : CauseReg) (b : Nat) (d : Dev) : (raiseCause r b d).timeCfg = d.timeCfg := by simp [raiseCause]
@[simp] theorem raiseCause_mem (r : CauseReg) (b : Nat) (d : Dev) : (raiseCause r b d).mem = d.mem := by simp [raiseCause]
@[simp] theorem raiseCause_tx (r : CauseReg) (b : Nat) (d : Dev) : (raiseCause r b d).tx = d.tx := by simp [raiseCause]
@[simp] theorem raiseCause_rx (r : CauseReg) (b : Nat) (d : Dev) : (raiseCause r b d).rx = d.rx := by simp [raiseCause]
@[simp] theorem raiseCause_pool (r : CauseReg) (b : Nat) (d : Dev) : (raiseCause r b d).pool = d.pool := by simp [raiseCause]
@[simp] theorem raiseCause_frames (r : CauseReg) (b : Nat) (d : Dev) : (raiseCause r b d).frames = d.frames := by simp [raiseCause]
@[simp] theorem raiseCause_slots (r : CauseReg) (b : Nat) (d : Dev) : (raiseCause r b d).slots = d.slots := by simp [raiseCause]
@[simp] theorem raiseCause_cipher (r : CauseReg) (b : Nat) (d : Dev) : (raiseCause r b d).cipher = d.cipher := by simp [raiseCause]
@[simp] theorem raiseCause_defects (r : CauseReg) (b : Nat) (d : Dev) : (raiseCause r b d).defects = d.defects := by simp [raiseCause]
@[simp] theorem raiseCause_twins (r : CauseReg) (b : Nat) (d : Dev) : (raiseCause r b d).twins = d.twins := by simp [raiseCause]
@[simp] theorem raiseCause_clients (r : CauseReg) (b : Nat) (d : Dev) : (raiseCause r b d).clients = d.clients := by simp [raiseCause]
@[simp] theorem raiseCause_ixtas (r : CauseReg) (b : Nat) (d : Dev) : (raiseCause r b d).ixtas = d.ixtas := by simp [raiseCause]
@[simp] theorem raiseCause_free (r : CauseReg) (b : Nat) (d : Dev) : (raiseCause r b d).free = d.free := by simp [raiseCause]
@[simp] theorem raiseCauseMs_mail (r : CauseReg) (b : Nat) (d : Dev) : (raiseCauseMs r b d).mail = d.mail := by simp only [raiseCauseMs]; split <;> simp
@[simp] theorem raiseCauseMs_fw (r : CauseReg) (b : Nat) (d : Dev) : (raiseCauseMs r b d).fw = d.fw := by simp only [raiseCauseMs]; split <;> simp
@[simp] theorem raiseCauseMs_links (r : CauseReg) (b : Nat) (d : Dev) : (raiseCauseMs r b d).links = d.links := by simp only [raiseCauseMs]; split <;> simp
@[simp] theorem raiseCauseMs_brakes (r : CauseReg) (b : Nat) (d : Dev) : (raiseCauseMs r b d).brakes = d.brakes := by simp only [raiseCauseMs]; split <;> simp
@[simp] theorem raiseCauseMs_trust (r : CauseReg) (b : Nat) (d : Dev) : (raiseCauseMs r b d).trust = d.trust := by simp only [raiseCauseMs]; split <;> simp
@[simp] theorem raiseCauseMs_bench (r : CauseReg) (b : Nat) (d : Dev) : (raiseCauseMs r b d).bench = d.bench := by simp only [raiseCauseMs]; split <;> simp
@[simp] theorem raiseCauseMs_power (r : CauseReg) (b : Nat) (d : Dev) : (raiseCauseMs r b d).power = d.power := by simp only [raiseCauseMs]; split <;> simp
@[simp] theorem raiseCauseMs_pins (r : CauseReg) (b : Nat) (d : Dev) : (raiseCauseMs r b d).pins = d.pins := by simp only [raiseCauseMs]; split <;> simp
@[simp] theorem raiseCauseMs_clock (r : CauseReg) (b : Nat) (d : Dev) : (raiseCauseMs r b d).clock = d.clock := by simp only [raiseCauseMs]; split <;> simp
@[simp] theorem raiseCauseMs_time (r : CauseReg) (b : Nat) (d : Dev) : (raiseCauseMs r b d).time = d.time := by simp only [raiseCauseMs]; split <;> simp
@[simp] theorem raiseCauseMs_timeCfg (r : CauseReg) (b : Nat) (d : Dev) : (raiseCauseMs r b d).timeCfg = d.timeCfg := by simp only [raiseCauseMs]; split <;> simp
@[simp] theorem raiseCauseMs_mem (r : CauseReg) (b : Nat) (d : Dev) : (raiseCauseMs r b d).mem = d.mem := by simp only [raiseCauseMs]; split <;> simp
@[simp] theorem raiseCauseMs_tx (r : CauseReg) (b : Nat) (d : Dev) : (raiseCauseMs r b d).tx = d.tx := by simp only [raiseCauseMs]; split <;> simp
@[simp] theorem raiseCauseMs_rx (r : CauseReg) (b : Nat) (d : Dev) : (raiseCauseMs r b d).rx = d.rx := by simp only [raiseCauseMs]; split <;> simp
@[simp] theorem raiseCauseMs_pool (r : CauseReg) (b : Nat) (d : Dev) : (raiseCauseMs r b d).pool = d.pool := by simp only [raiseCauseMs]; split <;> simp
@[simp] theorem raiseCauseMs_frames (r : CauseReg) (b : Nat) (d : Dev) : (raiseCauseMs r b d).frames = d.frames := by simp only [raiseCauseMs]; split <;> simp
@[simp] theorem raiseCauseMs_slots (r : CauseReg) (b : Nat) (d : Dev) : (raiseCauseMs r b d).slots = d.slots := by simp only [raiseCauseMs]; split <;> simp
@[simp] theorem raiseCauseMs_cipher (r : CauseReg) (b : Nat) (d : Dev) : (raiseCauseMs r b d).cipher = d.cipher := by simp only [raiseCauseMs]; split <;> simp
@[simp] theorem raiseCauseMs_defects (r : CauseReg) (b : Nat) (d : Dev) : (raiseCauseMs r b d).defects = d.defects := by simp only [raiseCauseMs]; split <;> simp
@[simp] theorem raiseCauseMs_twins (r : CauseReg) (b : Nat) (d : Dev) : (raiseCauseMs r b d).twins = d.twins := by simp only [raiseCauseMs]; split <;> simp
@[simp] theorem raiseCauseMs_clients (r : CauseReg) (b : Nat) (d : Dev) : (raiseCauseMs r b d).clients = d.clients := by simp only [raiseCauseMs]; split <;> simp
@[simp] theorem raiseCauseMs_ixtas (r : CauseReg) (b : Nat) (d : Dev) : (raiseCauseMs r b d).ixtas = d.ixtas := by simp only [raiseCauseMs]; split <;> simp
@[simp] theorem raiseCauseMs_free (r : CauseReg) (b : Nat) (d : Dev) : (raiseCauseMs r b d).free = d.free := by simp only [raiseCauseMs]; split <;> simp
@[simp] theorem clearCause_mail (r : CauseReg) (clear : Bool) (d : Dev) : (clearCause r clear d).mail = d.mail := by unfold clearCause; split <;> rfl
@[simp] theorem clearCause_fw (r : CauseReg) (clear : Bool) (d : Dev) : (clearCause r clear d).fw = d.fw := by unfold clearCause; split <;> rfl
@[simp] theorem clearCause_links (r : CauseReg) (clear : Bool) (d : Dev) : (clearCause r clear d).links = d.links := by unfold clearCause; split <;> rfl
@[simp] theorem clearCause_ec (r : CauseReg) (clear : Bool) (d : Dev) : (clearCause r clear d).ec = d.ec := by unfold clearCause; split <;> rfl
@[simp] theorem clearCause_causeMs (r : CauseReg) (clear : Bool) (d : Dev) : (clearCause r clear d).causeMs = d.causeMs := by unfold clearCause; split <;> rfl
@[simp] theorem clearCause_brakes (r : CauseReg) (clear : Bool) (d : Dev) : (clearCause r clear d).brakes = d.brakes := by unfold clearCause; split <;> rfl
@[simp] theorem clearCause_trust (r : CauseReg) (clear : Bool) (d : Dev) : (clearCause r clear d).trust = d.trust := by unfold clearCause; split <;> rfl
@[simp] theorem clearCause_meas (r : CauseReg) (clear : Bool) (d : Dev) : (clearCause r clear d).meas = d.meas := by unfold clearCause; split <;> rfl
@[simp] theorem clearCause_bench (r : CauseReg) (clear : Bool) (d : Dev) : (clearCause r clear d).bench = d.bench := by unfold clearCause; split <;> rfl
@[simp] theorem clearCause_power (r : CauseReg) (clear : Bool) (d : Dev) : (clearCause r clear d).power = d.power := by unfold clearCause; split <;> rfl
@[simp] theorem clearCause_pins (r : CauseReg) (clear : Bool) (d : Dev) : (clearCause r clear d).pins = d.pins := by unfold clearCause; split <;> rfl
@[simp] theorem clearCause_clock (r : CauseReg) (clear : Bool) (d : Dev) : (clearCause r clear d).clock = d.clock := by unfold clearCause; split <;> rfl
@[simp] theorem clearCause_time (r : CauseReg) (clear : Bool) (d : Dev) : (clearCause r clear d).time = d.time := by unfold clearCause; split <;> rfl
@[simp] theorem clearCause_timeCfg (r : CauseReg) (clear : Bool) (d : Dev) : (clearCause r clear d).timeCfg = d.timeCfg := by unfold clearCause; split <;> rfl
@[simp] theorem clearCause_mem (r : CauseReg) (clear : Bool) (d : Dev) : (clearCause r clear d).mem = d.mem := by unfold clearCause; split <;> rfl
@[simp] theorem clearCause_tx (r : CauseReg) (clear : Bool) (d : Dev) : (clearCause r clear d).tx = d.tx := by unfold clearCause; split <;> rfl
@[simp] theorem clearCause_rx (r : CauseReg) (clear : Bool) (d : Dev) : (clearCause r clear d).rx = d.rx := by unfold clearCause; split <;> rfl
@[simp] theorem clearCause_pool (r : CauseReg) (clear : Bool) (d : Dev) : (clearCause r clear d).pool = d.pool := by unfold clearCause; split <;> rfl
@[simp] theorem clearCause_frames (r : CauseReg) (clear : Bool) (d : Dev) : (clearCause r clear d).frames = d.frames := by unfold clearCause; split <;> rfl
@[simp] theorem clearCause_slots (r : CauseReg) (clear : Bool) (d : Dev) : (clearCause r clear d).slots = d.slots := by unfold clearCause; split <;> rfl
@[simp] theorem clearCause_cipher (r : CauseReg) (clear : Bool) (d : Dev) : (clearCause r clear d).cipher = d.cipher := by unfold clearCause; split <;> rfl
@[simp] theorem clearCause_defects (r : CauseReg) (clear : Bool) (d : Dev) : (clearCause r clear d).defects = d.defects := by unfold clearCause; split <;> rfl
@[simp] theorem clearCause_twins (r : CauseReg) (clear : Bool) (d : Dev) : (clearCause r clear d).twins = d.twins := by unfold clearCause; split <;> rfl
@[simp] theorem clearCause_clients (r : CauseReg) (clear : Bool) (d : Dev) : (clearCause r clear d).clients = d.clients := by unfold clearCause; split <;> rfl
@[simp] theorem clearCause_ixtas (r : CauseReg) (clear : Bool) (d : Dev) : (clearCause r clear d).ixtas = d.ixtas := by unfold clearCause; split <;> rfl
@[simp] theorem clearCause_free (r : CauseReg) (clear : Bool) (d : Dev) : (clearCause r clear d).free = d.free := by unfold clearCause; split <;> rfl
@[simp] theorem brakeRefuses_mail (n : Nat) (d : Dev) : (brakeRefuses n d).mail = d.mail := by simp [brakeRefuses]
@[simp] theorem brakeRefuses_fw (n : Nat) (d : Dev) : (brakeRefuses n d).fw = d.fw := by simp [brakeRefuses]
@[simp] theorem brakeRefuses_links (n : Nat) (d : Dev) : (brakeRefuses n d).links = d.links := by simp [brakeRefuses]
@[simp] theorem brakeRefuses_causes (n : Nat) (d : Dev) : (brakeRefuses n d).causes = d.causes := by simp [brakeRefuses]
@[simp] theorem brakeRefuses_causeMs (n : Nat) (d : Dev) : (brakeRefuses n d).causeMs = d.causeMs := by simp [brakeRefuses]
@[simp] theorem brakeRefuses_trust (n : Nat) (d : Dev) : (brakeRefuses n d).trust = d.trust := by simp [brakeRefuses]
@[simp] theorem brakeRefuses_bench (n : Nat) (d : Dev) : (brakeRefuses n d).bench = d.bench := by simp [brakeRefuses]
@[simp] theorem brakeRefuses_power (n : Nat) (d : Dev) : (brakeRefuses n d).power = d.power := by simp [brakeRefuses]
@[simp] theorem brakeRefuses_pins (n : Nat) (d : Dev) : (brakeRefuses n d).pins = d.pins := by simp [brakeRefuses]
@[simp] theorem brakeRefuses_clock (n : Nat) (d : Dev) : (brakeRefuses n d).clock = d.clock := by simp [brakeRefuses]
@[simp] theorem brakeRefuses_time (n : Nat) (d : Dev) : (brakeRefuses n d).time = d.time := by simp [brakeRefuses]
@[simp] theorem brakeRefuses_timeCfg (n : Nat) (d : Dev) : (brakeRefuses n d).timeCfg = d.timeCfg := by simp [brakeRefuses]
@[simp] theorem brakeRefuses_mem (n : Nat) (d : Dev) : (brakeRefuses n d).mem = d.mem := by simp [brakeRefuses]
@[simp] theorem brakeRefuses_tx (n : Nat) (d : Dev) : (brakeRefuses n d).tx = d.tx := by simp [brakeRefuses]
@[simp] theorem brakeRefuses_rx (n : Nat) (d : Dev) : (brakeRefuses n d).rx = d.rx := by simp [brakeRefuses]
@[simp] theorem brakeRefuses_pool (n : Nat) (d : Dev) : (brakeRefuses n d).pool = d.pool := by simp [brakeRefuses]
@[simp] theorem brakeRefuses_frames (n : Nat) (d : Dev) : (brakeRefuses n d).frames = d.frames := by simp [brakeRefuses]
@[simp] theorem brakeRefuses_slots (n : Nat) (d : Dev) : (brakeRefuses n d).slots = d.slots := by simp [brakeRefuses]
@[simp] theorem brakeRefuses_cipher (n : Nat) (d : Dev) : (brakeRefuses n d).cipher = d.cipher := by simp [brakeRefuses]
@[simp] theorem brakeRefuses_defects (n : Nat) (d : Dev) : (brakeRefuses n d).defects = d.defects := by simp [brakeRefuses]
@[simp] theorem brakeRefuses_twins (n : Nat) (d : Dev) : (brakeRefuses n d).twins = d.twins := by simp [brakeRefuses]
@[simp] theorem brakeRefuses_clients (n : Nat) (d : Dev) : (brakeRefuses n d).clients = d.clients := by simp [brakeRefuses]
@[simp] theorem brakeRefuses_ixtas (n : Nat) (d : Dev) : (brakeRefuses n d).ixtas = d.ixtas := by simp [brakeRefuses]
@[simp] theorem brakeRefuses_free (n : Nat) (d : Dev) : (brakeRefuses n d).free = d.free := by simp [brakeRefuses]
@[simp] theorem post_fw (mb : Nat) (r : Reply) (d : Dev) : (post mb r d).fw = d.fw := by simp [post]
@[simp] theorem post_links (mb : Nat) (r : Reply) (d : Dev) : (post mb r d).links = d.links := by simp [post]
@[simp] theorem post_causes (mb : Nat) (r : Reply) (d : Dev) : (post mb r d).causes = d.causes := by simp [post]
@[simp] theorem post_causeMs (mb : Nat) (r : Reply) (d : Dev) : (post mb r d).causeMs = d.causeMs := by simp [post]
@[simp] theorem post_brakes (mb : Nat) (r : Reply) (d : Dev) : (post mb r d).brakes = d.brakes := by simp [post]
@[simp] theorem post_trust (mb : Nat) (r : Reply) (d : Dev) : (post mb r d).trust = d.trust := by simp [post]
@[simp] theorem post_bench (mb : Nat) (r : Reply) (d : Dev) : (post mb r d).bench = d.bench := by simp [post]
@[simp] theorem post_power (mb : Nat) (r : Reply) (d : Dev) : (post mb r d).power = d.power := by simp [post]
@[simp] theorem post_pins (mb : Nat) (r : Reply) (d : Dev) : (post mb r d).pins = d.pins := by simp [post]
@[simp] theorem post_clock (mb : Nat) (r : Reply) (d : Dev) : (post mb r d).clock = d.clock := by simp [post]
@[simp] theorem post_time (mb : Nat) (r : Reply) (d : Dev) : (post mb r d).time = d.time := by simp [post]
@[simp] theorem post_timeCfg (mb : Nat) (r : Reply) (d : Dev) : (post mb r d).timeCfg = d.timeCfg := by simp [post]
@[simp] theorem post_mem (mb : Nat) (r : Reply) (d : Dev) : (post mb r d).mem = d.mem := by simp [post]
@[simp] theorem post_tx (mb : Nat) (r : Reply) (d : Dev) : (post mb r d).tx = d.tx := by simp [post]
@[simp] theorem post_rx (mb : Nat) (r : Reply) (d : Dev) : (post mb r d).rx = d.rx := by simp [post]
@[simp] theorem post_pool (mb : Nat) (r : Reply) (d : Dev) : (post mb r d).pool = d.pool := by simp [post]
@[simp] theorem post_frames (mb : Nat) (r : Reply) (d : Dev) : (post mb r d).frames = d.frames := by simp [post]
@[simp] theorem post_slots (mb : Nat) (r : Reply) (d : Dev) : (post mb r d).slots = d.slots := by simp [post]
@[simp] theorem post_cipher (mb : Nat) (r : Reply) (d : Dev) : (post mb r d).cipher = d.cipher := by simp [post]
@[simp] theorem post_defects (mb : Nat) (r : Reply) (d : Dev) : (post mb r d).defects = d.defects := by simp [post]
@[simp] theorem post_twins (mb : Nat) (r : Reply) (d : Dev) : (post mb r d).twins = d.twins := by simp [post]
@[simp] theorem post_clients (mb : Nat) (r : Reply) (d : Dev) : (post mb r d).clients = d.clients := by simp [post]
@[simp] theorem post_ixtas (mb : Nat) (r : Reply) (d : Dev) : (post mb r d).ixtas = d.ixtas := by simp [post]
@[simp] theorem post_free (mb : Nat) (r : Reply) (d : Dev) : (post mb r d).free = d.free := by simp [post]
@[simp] theorem keepWaiting_fw (mb : Nat) (d : Dev) : (keepWaiting mb d).fw = d.fw := by simp [keepWaiting]
@[simp] theorem keepWaiting_links (mb : Nat) (d : Dev) : (keepWaiting mb d).links = d.links := by simp [keepWaiting]
@[simp] theorem keepWaiting_ec (mb : Nat) (d : Dev) : (keepWaiting mb d).ec = d.ec := by simp [keepWaiting]
@[simp] theorem keepWaiting_causes (mb : Nat) (d : Dev) : (keepWaiting mb d).causes = d.causes := by simp [keepWaiting]
@[simp] theorem keepWaiting_causeMs (mb : Nat) (d : Dev) : (keepWaiting mb d).causeMs = d.causeMs := by simp [keepWaiting]
@[simp] theorem keepWaiting_brakes (mb : Nat) (d : Dev) : (keepWaiting mb d).brakes = d.brakes := by simp [keepWaiting]
@[simp] theorem keepWaiting_trust (mb : Nat) (d : Dev) : (keepWaiting mb d).trust = d.trust := by simp [keepWaiting]
@[simp] theorem keepWaiting_meas (mb : Nat) (d : Dev) : (keepWaiting mb d).meas = d.meas := by simp [keepWaiting]
@[simp] theorem keepWaiting_bench (mb : Nat) (d : Dev) : (keepWaiting mb d).bench = d.bench := by simp [keepWaiting]
@[simp] theorem keepWaiting_power (mb : Nat) (d : Dev) : (keepWaiting mb d).power = d.power := by simp [keepWaiting]
@[simp] theorem keepWaiting_pins (mb : Nat) (d : Dev) : (keepWaiting mb d).pins = d.pins := by simp [keepWaiting]
@[simp] theorem keepWaiting_clock (mb : Nat) (d : Dev) : (keepWaiting mb d).clock = d.clock := by simp [keepWaiting]
@[simp] theorem keepWaiting_time (mb : Nat) (d : Dev) : (keepWaiting mb d).time = d.time := by simp [keepWaiting]
@[simp] theorem keepWaiting_timeCfg (mb : Nat) (d : Dev) : (keepWaiting mb d).timeCfg = d.timeCfg := by simp [keepWaiting]
@[simp] theorem keepWaiting_mem (mb : Nat) (d : Dev) : (keepWaiting mb d).mem = d.mem := by simp [keepWaiting]
@[simp] theorem keepWaiting_tx (mb : Nat) (d : Dev) : (keepWaiting mb d).tx = d.tx := by simp [keepWaiting]
@[simp] theorem keepWaiting_rx (mb : Nat) (d : Dev) : (keepWaiting mb d).rx = d.rx := by simp [keepWaiting]
@[simp] theorem keepWaiting_pool (mb : Nat) (d : Dev) : (keepWaiting mb d).pool = d.pool := by simp [keepWaiting]
@[simp] theorem keepWaiting_frames (mb : Nat) (d : Dev) : (keepWaiting mb d).frames = d.frames := by simp [keepWaiting]
@[simp] theorem keepWaiting_slots (mb : Nat) (d : Dev) : (keepWaiting mb d).slots = d.slots := by simp [keepWaiting]
@[simp] theorem keepWaiting_cipher (mb : Nat) (d : Dev) : (keepWaiting mb d).cipher = d.cipher := by simp [keepWaiting]
@[simp] theorem keepWaiting_defects (mb : Nat) (d : Dev) : (keepWaiting mb d).defects = d.defects := by simp [keepWaiting]
@[simp] theorem keepWaiting_twins (mb : Nat) (d : Dev) : (keepWaiting mb d).twins = d.twins := by simp [keepWaiting]
@[simp] theorem keepWaiting_clients (mb : Nat) (d : Dev) : (keepWaiting mb d).clients = d.clients := by simp [keepWaiting]
@[simp] theorem keepWaiting_ixtas (mb : Nat) (d : Dev) : (keepWaiting mb d).ixtas = d.ixtas := by simp [keepWaiting]
@[simp] theorem keepWaiting_free (mb : Nat) (d : Dev) : (keepWaiting mb d).free = d.free := by simp [keepWaiting]
@[simp] theorem answerFront_fw (l : List Nat) (d : Dev) : (answerFront l d).fw = d.fw := by
  induction l generalizing d with
  | nil => rfl
  | cons a t ih => unfold answerFront; split; exact ih d; split; rw [ih]; simp; rfl
@[simp] theorem answerFront_links (l : List Nat) (d : Dev) : (answerFront l d).links = d.links := by
  induction l generalizing d with
  | nil => rfl
  | cons a t ih => unfold answerFront; split; exact ih d; split; rw [ih]; simp; rfl
@[simp] theorem answerFront_causes (l : List Nat) (d : Dev) : (answerFront l d).causes = d.causes := by
  induction l generalizing d with
  | nil => rfl
  | cons a t ih => unfold answerFront; split; exact ih d; split; rw [ih]; simp; rfl
@[simp] theorem answerFront_causeMs (l : List Nat) (d : Dev) : (answerFront l d).causeMs = d.causeMs := by
  induction l generalizing d with
  | nil => rfl
  | cons a t ih => unfold answerFront; split; exact ih d; split; rw [ih]; simp; rfl
@[simp] theorem answerFront_brakes (l : List Nat) (d : Dev) : (answerFront l d).brakes = d.brakes := by
  induction l generalizing d with
  | nil => rfl
  | cons a t ih => unfold answerFront; split; exact ih d; split; rw [ih]; simp; rfl
@[simp] theorem answerFront_trust (l : List Nat) (d : Dev) : (answerFront l d).trust = d.trust := by
  induction l generalizing d with
  | nil => rfl
  | cons a t ih => unfold answerFront; split; exact ih d; split; rw [ih]; simp; rfl
@[simp] theorem answerFront_bench (l : List Nat) (d : Dev) : (answerFront l d).bench = d.bench := by
  induction l generalizing d with
  | nil => rfl
  | cons a t ih => unfold answerFront; split; exact ih d; split; rw [ih]; simp; rfl
@[simp] theorem answerFront_power (l : List Nat) (d : Dev) : (answerFront l d).power = d.power := by
  induction l generalizing d with
  | nil => rfl
  | cons a t ih => unfold answerFront; split; exact ih d; split; rw [ih]; simp; rfl
@[simp] theorem answerFront_pins (l : List Nat) (d : Dev) : (answerFront l d).pins = d.pins := by
  induction l generalizing d with
  | nil => rfl
  | cons a t ih => unfold answerFront; split; exact ih d; split; rw [ih]; simp; rfl
@[simp] theorem answerFront_clock (l : List Nat) (d : Dev) : (answerFront l d).clock = d.clock := by
  induction l generalizing d with
  | nil => rfl
  | cons a t ih => unfold answerFront; split; exact ih d; split; rw [ih]; simp; rfl
@[simp] theorem answerFront_time (l : List Nat) (d : Dev) : (answerFront l d).time = d.time := by
  induction l generalizing d with
  | nil => rfl
  | cons a t ih => unfold answerFront; split; exact ih d; split; rw [ih]; simp; rfl
@[simp] theorem answerFront_timeCfg (l : List Nat) (d : Dev) : (answerFront l d).timeCfg = d.timeCfg := by
  induction l generalizing d with
  | nil => rfl
  | cons a t ih => unfold answerFront; split; exact ih d; split; rw [ih]; simp; rfl
@[simp] theorem answerFront_mem (l : List Nat) (d : Dev) : (answerFront l d).mem = d.mem := by
  induction l generalizing d with
  | nil => rfl
  | cons a t ih => unfold answerFront; split; exact ih d; split; rw [ih]; simp; rfl
@[simp] theorem answerFront_tx (l : List Nat) (d : Dev) : (answerFront l d).tx = d.tx := by
  induction l generalizing d with
  | nil => rfl
  | cons a t ih => unfold answerFront; split; exact ih d; split; rw [ih]; simp; rfl
@[simp] theorem answerFront_rx (l : List Nat) (d : Dev) : (answerFront l d).rx = d.rx := by
  induction l generalizing d with
  | nil => rfl
  | cons a t ih => unfold answerFront; split; exact ih d; split; rw [ih]; simp; rfl
@[simp] theorem answerFront_pool (l : List Nat) (d : Dev) : (answerFront l d).pool = d.pool := by
  induction l generalizing d with
  | nil => rfl
  | cons a t ih => unfold answerFront; split; exact ih d; split; rw [ih]; simp; rfl
@[simp] theorem answerFront_frames (l : List Nat) (d : Dev) : (answerFront l d).frames = d.frames := by
  induction l generalizing d with
  | nil => rfl
  | cons a t ih => unfold answerFront; split; exact ih d; split; rw [ih]; simp; rfl
@[simp] theorem answerFront_slots (l : List Nat) (d : Dev) : (answerFront l d).slots = d.slots := by
  induction l generalizing d with
  | nil => rfl
  | cons a t ih => unfold answerFront; split; exact ih d; split; rw [ih]; simp; rfl
@[simp] theorem answerFront_cipher (l : List Nat) (d : Dev) : (answerFront l d).cipher = d.cipher := by
  induction l generalizing d with
  | nil => rfl
  | cons a t ih => unfold answerFront; split; exact ih d; split; rw [ih]; simp; rfl
@[simp] theorem answerFront_defects (l : List Nat) (d : Dev) : (answerFront l d).defects = d.defects := by
  induction l generalizing d with
  | nil => rfl
  | cons a t ih => unfold answerFront; split; exact ih d; split; rw [ih]; simp; rfl
@[simp] theorem answerFront_twins (l : List Nat) (d : Dev) : (answerFront l d).twins = d.twins := by
  induction l generalizing d with
  | nil => rfl
  | cons a t ih => unfold answerFront; split; exact ih d; split; rw [ih]; simp; rfl
@[simp] theorem answerFront_clients (l : List Nat) (d : Dev) : (answerFront l d).clients = d.clients := by
  induction l generalizing d with
  | nil => rfl
  | cons a t ih => unfold answerFront; split; exact ih d; split; rw [ih]; simp; rfl
@[simp] theorem answerFront_ixtas (l : List Nat) (d : Dev) : (answerFront l d).ixtas = d.ixtas := by
  induction l generalizing d with
  | nil => rfl
  | cons a t ih => unfold answerFront; split; exact ih d; split; rw [ih]; simp; rfl
@[simp] theorem answerFront_free (l : List Nat) (d : Dev) : (answerFront l d).free = d.free := by
  induction l generalizing d with
  | nil => rfl
  | cons a t ih => unfold answerFront; split; exact ih d; split; rw [ih]; simp; rfl
@[simp] theorem takeRefused_fw (d : Dev) : (takeRefused d).fw = d.fw := by unfold takeRefused; split <;> simp
@[simp] theorem takeRefused_links (d : Dev) : (takeRefused d).links = d.links := by unfold takeRefused; split <;> simp
@[simp] theorem takeRefused_causes (d : Dev) : (takeRefused d).causes = d.causes := by unfold takeRefused; split <;> simp
@[simp] theorem takeRefused_causeMs (d : Dev) : (takeRefused d).causeMs = d.causeMs := by unfold takeRefused; split <;> simp
@[simp] theorem takeRefused_brakes (d : Dev) : (takeRefused d).brakes = d.brakes := by unfold takeRefused; split <;> simp
@[simp] theorem takeRefused_trust (d : Dev) : (takeRefused d).trust = d.trust := by unfold takeRefused; split <;> simp
@[simp] theorem takeRefused_bench (d : Dev) : (takeRefused d).bench = d.bench := by unfold takeRefused; split <;> simp
@[simp] theorem takeRefused_power (d : Dev) : (takeRefused d).power = d.power := by unfold takeRefused; split <;> simp
@[simp] theorem takeRefused_pins (d : Dev) : (takeRefused d).pins = d.pins := by unfold takeRefused; split <;> simp
@[simp] theorem takeRefused_clock (d : Dev) : (takeRefused d).clock = d.clock := by unfold takeRefused; split <;> simp
@[simp] theorem takeRefused_time (d : Dev) : (takeRefused d).time = d.time := by unfold takeRefused; split <;> simp
@[simp] theorem takeRefused_timeCfg (d : Dev) : (takeRefused d).timeCfg = d.timeCfg := by unfold takeRefused; split <;> simp
@[simp] theorem takeRefused_mem (d : Dev) : (takeRefused d).mem = d.mem := by unfold takeRefused; split <;> simp
@[simp] theorem takeRefused_tx (d : Dev) : (takeRefused d).tx = d.tx := by unfold takeRefused; split <;> simp
@[simp] theorem takeRefused_rx (d : Dev) : (takeRefused d).rx = d.rx := by unfold takeRefused; split <;> simp
@[simp] theorem takeRefused_pool (d : Dev) : (takeRefused d).pool = d.pool := by unfold takeRefused; split <;> simp
@[simp] theorem takeRefused_frames (d : Dev) : (takeRefused d).frames = d.frames := by unfold takeRefused; split <;> simp
@[simp] theorem takeRefused_slots (d : Dev) : (takeRefused d).slots = d.slots := by unfold takeRefused; split <;> simp
@[simp] theorem takeRefused_cipher (d : Dev) : (takeRefused d).cipher = d.cipher := by unfold takeRefused; split <;> simp
@[simp] theorem takeRefused_defects (d : Dev) : (takeRefused d).defects = d.defects := by unfold takeRefused; split <;> simp
@[simp] theorem takeRefused_twins (d : Dev) : (takeRefused d).twins = d.twins := by unfold takeRefused; split <;> simp
@[simp] theorem takeRefused_clients (d : Dev) : (takeRefused d).clients = d.clients := by unfold takeRefused; split <;> simp
@[simp] theorem takeRefused_ixtas (d : Dev) : (takeRefused d).ixtas = d.ixtas := by unfold takeRefused; split <;> simp
@[simp] theorem takeRefused_free (d : Dev) : (takeRefused d).free = d.free := by unfold takeRefused; split <;> simp

/-! ## Pending bits -/

@[simp] theorem tally_pend (b e ent n : Nat) (d : Dev) : (tally b e ent n d).ec.pend = d.ec.pend := by rw [tally_ec]
/-- A raise sets the pending bit of its source and keeps every other. -/
theorem raise_pend (s : Nat) (d : Dev) : (raise s d).ec.pend = d.ec.pend ||| BitVec.twoPow 2048 s := by simp [raise, setPend]
theorem raise_pend_self (s : Nat) (h : s < 2048) (d : Dev) : (raise s d).ec.pend.getLsbD s = true := by
  simp [raise_pend, h]
theorem raise_pend_mono (s i : Nat) (d : Dev) (h : d.ec.pend.getLsbD i = true) : (raise s d).ec.pend.getLsbD i = true := by
  simp [raise_pend, h]
/-- A cause raise sets its bit in its register. -/
theorem raiseCause_causeOf (r : CauseReg) (b : Nat) (d : Dev) : causeOf (raiseCause r b d) r = causeOf d r ||| BitVec.twoPow 32 b := by
  have h : (raiseCause r b d).causes = tabMod (fun _ => 0) d.causes r.key (· ||| BitVec.twoPow 32 b) := by
    simp only [raiseCause, raise, setPend]; rw [tally_causes]
  simp [causeOf, h]
theorem raiseCause_pend (r : CauseReg) (b : Nat) (d : Dev) :
    (raiseCause r b d).ec.pend = d.ec.pend ||| BitVec.twoPow 2048 (r.source b) := by simp [raiseCause, raise_pend]

/-! ## Counts -/

@[simp] theorem countOf_setCount_same (k v : Nat) (d : Dev) : countOf (setCount k v d) k = v % 2 ^ 48 := by simp [countOf, setCount]
theorem countOf_setCount_ne {k i : Nat} (v : Nat) (d : Dev) (h : i ≠ k) : countOf (setCount k v d) i = countOf d i := by
  simp [countOf, setCount, tabGet_tabPut_ne, h]

/-! ## Outcomes -/

@[simp] theorem lift_next (f : Act) (s : State) : lift f s = .next { s with dev := f s.dev } := rfl
@[simp] theorem guard_pos {p : Bool} (f : Act) (d : Dev) (h : p = true) : guard p f d = f d := by simp [guard, h]
@[simp] theorem guard_neg {p : Bool} (f : Act) (d : Dev) (h : p = false) : guard p f d = d := by simp [guard, h]

end Sys2Proof.Machine
end

