-- ==== Sys2Proof/Laws/Access.lean ====
section
/-! SUPPORT. What the wrappers of a command answer, what a register access does, what counting does, and that no command touches the
queue. -/

namespace Sys2Proof.Machine

/-! ## Commands with operands of a fixed size -/

theorem liftIf_ok {p : Bool} (f : Act) (s : State) (h : p = true) : liftIf p f s = .next { s with dev := f s.dev } := by
  simp [liftIf, h]
theorem liftIf_ill {p : Bool} (f : Act) (s : State) (h : p = false) : liftIf p f s = .fault .illFormed := by simp [liftIf, h]

/-! ## Register accesses (R438, R453, R455) -/

theorem regWrite_lands {b : Nat} {w : RegWrite} (f : Word → Act) {d : Dev} (h1 : writeLands w d = true) (h2 : blockDown d b = false) :
    regWrite b w f d = f w.value d := by simp [regWrite, h1, h2]
theorem regWrite_down {b : Nat} {w : RegWrite} (f : Word → Act) {d : Dev} (h1 : writeLands w d = true) (h2 : blockDown d b = true) :
    regWrite b w f d = noteDown b d := by simp [regWrite, h1, h2]
theorem regWrite_lost {b : Nat} {w : RegWrite} (f : Word → Act) {d : Dev} (h : writeLands w d = false) : regWrite b w f d = d := by
  simp [regWrite, h]
theorem hostWrite_firmware {b : Nat} {w : RegWrite} (f : Word → Act) (d : Dev) (h : w.who = .firmware) : hostWrite b w f d = d := by
  simp [hostWrite, h]
theorem hostWrite_host {b : Nat} {w : RegWrite} (f : Word → Act) (h : w.who ≠ .firmware) : hostWrite b w f = regWrite b w f := by
  simp [hostWrite, h]
theorem hostWrite_lands {b : Nat} {w : RegWrite} (f : Word → Act) {d : Dev} (h : HostLands b w d) : hostWrite b w f d = f w.value d := by
  rw [hostWrite_host f h.1, regWrite_lands f h.2.1 h.2.2]
theorem regRead_lands {b : Nat} {r : RegRead} (v : Dev → Word) (f : Act) {d : Dev} (h : ReadLands b r.who d) :
    regRead b r v f d = setOut [addressed r.enables (v d)] (f d) := by simp [regRead, h.1, h.2]
theorem regRead_down {b : Nat} {r : RegRead} (v : Dev → Word) (f : Act) {d : Dev} (h1 : reaches r.who d = true)
    (h2 : blockDown d b = true) : regRead b r v f d = noteDown b (setOut [addressed r.enables downValue] d) := by simp [regRead, h1, h2]
theorem regRead_lost {b : Nat} {r : RegRead} (v : Dev → Word) (f : Act) {d : Dev} (h : reaches r.who d = false) :
    regRead b r v f d = d := by simp [regRead, h]

/-! ## Counts (R484, R486) -/

theorem counts_bump (k n : Nat) (d : Dev) : Counts k n d (bump k n d) := by
  unfold Counts bump; split <;> simp_all
theorem countOf_bump_ne {k i : Nat} (n : Nat) (d : Dev) (h : i ≠ k) : countOf (bump k n d) i = countOf d i := by
  unfold bump; split
  · rfl
  · exact countOf_setCount_ne _ _ h
theorem countOf_frozen {d : Dev} (k n i : Nat) (h : d.meas.frozen = true) : countOf (bump k n d) i = countOf d i := by simp [bump, h]

/-! ## The queue -/

theorem lift_pending {f : Act} {s t : State} (h : lift f s = .next t) : t.pending = s.pending := by
  simp only [lift, Host.Outcome.next.injEq] at h; rw [← h]
theorem liftIf_pending {p : Bool} {f : Act} {s t : State} (h : liftIf p f s = .next t) : t.pending = s.pending := by
  unfold liftIf at h; split at h
  · exact lift_pending h
  · cases h
theorem refusedOr_pending {p : Prop} [Decidable p] {r : Refusal} {f : Act} {s t : State}
    (h : (if p then Host.Outcome.refused r else lift f s) = .next t) : t.pending = s.pending := by
  split at h
  · cases h
  · exact lift_pending h

/-- No command touches the queue. -/
theorem exec_pending (i : Instr) (s t : State) (h : exec i s = .next t) : t.pending = s.pending := by
  cases i <;> dsimp only [exec,
    execHello, execLaserConfig, execLaserXfer, execFwStage, execFwActivate, execEngTxConfig, execCoachConfig, execCoachEval,
    execHitchConfig, execTxPreemph, execBiasConfig, execEngTxStatus, execEngRxConfig, execCoachRxConfig, execRxEqConfig,
    execRxReacquire, execEngRxStatus, execCoachRxStatus, execPoolConfig, execPoolCoachConfig, execPoolStatus, execPoolCoachStatus,
    execFrameConfig, execFrameStatus, execDefectConfig, execDefectStatus, execPmConfig, execPmRead, execPmClear, execQueueConfig,
    execQueueStatus, execSlotWrite, execSlotRead, execSlotCopy, execSlotArm, execRxSlotArm, execSlotCancel, execSlotSwapStatus,
    execQueueFlush, execSpillConfig, execCliPortConfig, execCliLaneConfig, execCliLaneStatus, execCliLaneTest, execCliRecclk,
    execCipherConfig, execCipherKeyLoad, execCipherStatus, execCipherJob, execCipherCtx, execSecCertRead, execSecAttest,
    execKeyGenerate, execKeyImport, execKeyExport, execKeyDestroy, execKekEstablish, execKeyPolicy, execKaStart, execKaStatus,
    execZeroize, execTagWrite, execTagLock, execSvnCommit, execTwinConfig, execTwinStatus, execTwinCommandForce,
    execTwinCommandRestart, execYardConfig, execIxtasEngConfig, execIxtasCoachConfig, execIxtasEngStatus, execIxtasPartnerStatus,
    execIxtasSend, execIxtasRecv, execWakeSend, execTimeRefConfig, execTimeConfig, execTimeSelect, execTimeStatus, execTimeAdjust,
    execTimeSteer, execMemFill, execMemStatus, execScrubConfig, execMemDiag, execDmaResume, execSnapRead, execSnapQueueRead,
    execCtrSelect, execCalConfig, execCalRun, execCalStatus, execCalRead, execCalRestore, execPwrState, execPwrDomain,
    execPwrConfig, execPwrStatus, execRegisterWrite, execDevtimeLoRead, execFwRestart, execMbDoorbell, execMbRelease,
    execMailboxWindowWrite, execBrakeLock, execEngBrake, execBiasWindow, execBiasSlew, execKeyCeiling, execSlotBrake,
    execFreezeCtrl, execSecureMask, execTimeCtrl, execSteerFreq, execSteerSlew, execEcClaim, execEcComplete, execEcSetpend,
    execEcPend, execEcPendClr, execEcHostClaim, execEcHostUnack, execEcSrcCfg, execMiFlipCtrl, execFirstInfo, execOverflowRead,
    execMiCeSram, execMiCeHbm, execLinkRetries, execLinkExhaust, execTallyCount, execTrackReset, execTallyClear, execTelUrgent,
    execTelStatus, execTelCtrl, execSequencerRow, execSnapTake, execSnapFreeze, execSnapUser, execTripLatchedClear, execSmpWrite,
    execSmpPointer, execSmpRead, execPowerOnReset, execDeviceReset, execPerstN, execPcieReset, execTxmuteNLow, execTxmuteNHigh,
    execUnmuted, execZeroizeN, execSnapPin, execPpsinEdge, execTestmode, execWakePin, execSmpMatch, execLight, execClientSignal,
    execWakeTimer, execThermalTrip, execThermalWarn, execSurgeHot, execLaserLow, execLaserRestored, execLosSet, execLosClear,
    execFlitReceived, execFlitAckTimeout, execRetryExhaustion, execLinkRetrainDone, execMemoryBlockReceived, execRetryWarn,
    execBiasSweepEnd, execBiasLocked, execBiasFail, execBiasUnlock, execFirstFrameBoundary, execTxFrame, execLegCut, execAcqStart,
    execCdSearchComplete, execPolConverged, execCarrierLock, execWarmLock, execAcqRetry, execWarmFail, execCwLock, execCwFail,
    execLocSet, execFrameHuntTimeout, execCycleSlip, execChgApplied, execCodewordArrival, execBaseComplete, execEpochStart,
    execExtensionRound, execEpochEnd, execSurgeWithdraw, execCodewordRelease, execPoolInterval, execSurgeGrant, execVidSettle,
    execPowerEstimate, execExhausted, execCandidateTest, execHbMiss, execSegmentVerdict, execLegFrameDemap, execReasmGap,
    execQueueWordArrival, execPauseRepeat, execTwinCopyArrival, execTwinDue, execTwinHeartbeatSend, execTwinHeartbeatReceive,
    execIxtasHbMiss, execDefectSample, execSecondClassify, execBinRollover, execCommaBlock, execTrainingFrame, execNegRetry,
    execRateFallback, execEyeScore, execRsCodeword, execCellReceived, execCellSend, execSentCell, execAisCell, execEthFrameRx,
    execEthFrameTx, execPreDetect, execPreExpired, execSyncMatch, execHdrReject, execRxOk, execFragTimeout, execIxtasPacketStart,
    execHelloPeriod, execHelloPacket, execCapability, execTrace, execCapRequest, execHostMsg, execPartnerLost, execWakeSeen,
    execKaInit, execKaResp, execKaConfirm, execKaSettle, execKaConfirmRepeat, execKaTimeout, execKaRetry, execRotatePeriod,
    execRefLost, execRefOffsetMeasure, execDriftEstimate, execRefQualified, execRefDisagree, execTimingLocked, execHoldoverSample,
    execSteerStale, execPpsLost, execAtPpsTimeout, execUncorrectableRead, execCorrectedRead, execCeRate, execScrubPass,
    execFillDone, execCalTemperatureEval, execCalStart, execCalDone, execTelRow, execSnapshotTick, execSnapshotPublish,
    execModerationRelease, execIdleEntry, execIdleExit, execAbortPoint, execReturnToRun, execDomainChange, execWatchdog,
    execBootStage, execReattachment, execRestartFailed, execPcsAlignment, execRefActivityBack, execGainLimit, execOffsetWarn,
    execHitchWalkoff, execLockLoopEdge] at h <;>
  first | exact lift_pending h | exact liftIf_pending h | exact refusedOr_pending h |
    (split at h <;> first | exact refusedOr_pending h | exact lift_pending h)

end Sys2Proof.Machine
end

