-- ==== Sys2Proof/Laws/Mailbox.lean ====
section
/-! SUPPORT. What posting an answer leaves in a mailbox, and what serving an accepted or refused request answers. -/

namespace Sys2Proof.Machine

/-! ## The posted window -/

theorem tabGet_cellsFrom (l : List Byte) (i k : Nat) :
    tabGet (fun _ => 0) (cellsFrom i l) k = if i ≤ k ∧ k < i + l.length then l.getD (k - i) 0 else 0 := by
  induction l generalizing i with
  | nil => simp [cellsFrom, tabGet]
  | cons v t ih =>
    have key : ∀ x : Byte, (if i = k then v else tabGet (fun _ => 0) (cellsFrom (i + 1) t) k) =
        if i ≤ k ∧ k < i + (v :: t).length then (v :: t).getD (k - i) 0 else 0 := by
      intro _
      rw [ih]
      by_cases h : i = k
      · subst h; simp
      · simp only [h, if_false, List.length_cons]
        by_cases h2 : i ≤ k
        · have h3 : k - i = (k - (i + 1)) + 1 := by omega
          rw [h3]
          simp only [List.getD_cons_succ]
          have e : (i + 1 ≤ k ∧ k < i + 1 + t.length) ↔ (i ≤ k ∧ k < i + (t.length + 1)) := by omega
          simp only [e]
        · have e1 : ¬ (i + 1 ≤ k ∧ k < i + 1 + t.length) := by omega
          have e2 : ¬ (i ≤ k ∧ k < i + (t.length + 1)) := by omega
          rw [if_neg e1, if_neg e2]
    unfold cellsFrom
    split
    · rename_i h0
      rw [← key 0, h0]
      split
      · rename_i h; subst h; rw [ih]; simp <;> omega
      · rfl
    · exact key 0

/-- A byte of a posted message. -/
theorem windowByte_posted (stamp : Nat) (b : MailboxState) (r : Reply) (k : Nat) (h : k < (responseBytes b r).length) :
    windowByte (postedBox stamp b r) k = (responseBytes b r).getD k 0 := by
  have hu : (undefFrom (responseBytes b r).length).getLsbD k = false := by
    simp [undefFrom, BitVec.getLsbD_shiftLeft, h]
  have hc : windowByte (postedBox stamp b r) k = if (undefFrom (responseBytes b r).length).getLsbD k then
      Config.windowByte stamp k else tabGet (fun _ => 0) (cellsFrom 0 (responseBytes b r)) k := rfl
  rw [hc, if_neg (by simp [hu]), tabGet_cellsFrom]
  simp [h]

theorem windowBytes_eq (b : MailboxState) (l : List Byte) (i n : Nat) (h : i + n ≤ l.length)
    (hb : ∀ k, k < l.length → windowByte b k = l.getD k 0) : windowBytes b i n = (l.drop i).take n := by
  induction n generalizing i with
  | zero => simp [windowBytes]
  | succ n ih =>
    rw [windowBytes, ih (i + 1) (by omega), hb i (by omega)]
    have hi : i < l.length := by omega
    rw [List.drop_eq_getElem_cons hi, List.take_succ_cons]
    simp [List.getD, hi]

@[simp] theorem length_windowBytes (b : MailboxState) (i n : Nat) : (windowBytes b i n).length = n := by
  induction n generalizing i with
  | zero => rfl
  | succ n ih => simp [windowBytes, ih]

@[simp] theorem length_le (n v : Nat) : (le n v).length = n := by
  induction n generalizing v with
  | zero => rfl
  | succ n ih => simp [le, ih]

/-- A part of a posted window is that part of the message. -/
theorem windowBytes_posted (stamp : Nat) (b : MailboxState) (r : Reply) (i n : Nat) (h : i + n ≤ (responseBytes b r).length) :
    windowBytes (postedBox stamp b r) i n = ((responseBytes b r).drop i).take n :=
  windowBytes_eq _ _ i n h (fun k hk => windowByte_posted stamp b r k hk)

theorem length_responseBytes (b : MailboxState) (r : Reply) : (responseBytes b r).length = 16 + r.body.length := by
  simp [responseBytes, zeros]; omega

/-- A list of known length is skipped whole by a drop that reaches past it. -/
theorem drop_past {α : Type} (l m : List α) (n : Nat) (h : l.length ≤ n) : (l ++ m).drop n = m.drop (n - l.length) := by
  rw [List.drop_append, List.drop_eq_nil_of_le h, List.nil_append]
theorem take_exact {α : Type} (l m : List α) (n : Nat) (h : l.length = n) : (l ++ m).take n = l := by
  subst h; simp

/-- OPCODE and TAG are echoed (R444). -/
theorem posted_echo (stamp : Nat) (b : MailboxState) (r : Reply) : windowBytes (postedBox stamp b r) 2 6 = windowBytes b 2 6 := by
  rw [windowBytes_posted _ _ _ _ _ (by rw [length_responseBytes]; omega)]
  simp only [responseBytes, List.append_assoc]
  rw [drop_past _ _ _ (by simp), drop_past _ _ _ (by simp)]
  simp only [length_le, Nat.sub_self, List.drop_zero]
  exact take_exact _ _ _ (by simp)

/-- STATUS and BLOCK_ID of the answer (R444). -/
theorem posted_status (stamp : Nat) (b : MailboxState) (r : Reply) :
    windowBytes (postedBox stamp b r) 10 2 = le 1 r.status.code ++ le 1 r.block := by
  rw [windowBytes_posted _ _ _ _ _ (by rw [length_responseBytes]; omega)]
  simp only [responseBytes, List.append_assoc]
  iterate 4 rw [drop_past _ _ _ (by simp)]
  simp only [length_le, length_windowBytes]
  rw [show 10 - 1 - 1 - 6 - 2 = 0 from rfl, List.drop_zero, ← List.append_assoc]
  exact take_exact _ _ _ (by simp)

/-- The STATUS byte of the answer (R444). -/
theorem posted_status_byte (stamp : Nat) (b : MailboxState) (r : Reply) :
    windowBytes (postedBox stamp b r) 10 1 = le 1 r.status.code := by
  rw [windowBytes_posted _ _ _ _ _ (by rw [length_responseBytes]; omega)]
  simp only [responseBytes, List.append_assoc]
  iterate 4 rw [drop_past _ _ _ (by simp)]
  simp only [length_le, length_windowBytes]
  rw [show 10 - 1 - 1 - 6 - 2 = 0 from rfl, List.drop_zero]
  exact take_exact _ _ _ (by simp)

/-- The answer's body stands after the header (R444). -/
theorem posted_body (stamp : Nat) (b : MailboxState) (r : Reply) :
    windowBytes (postedBox stamp b r) 16 r.body.length = r.body := by
  rw [windowBytes_posted _ _ _ _ _ (Nat.le_of_eq (length_responseBytes b r).symm)]
  simp only [responseBytes, List.append_assoc]
  iterate 7 rw [drop_past _ _ _ (by simp [zeros])]
  simp [zeros]

/-! ## Posting -/

theorem box_raise (s : Nat) (d : Dev) (mb : Nat) : box (raise s d) mb = box d mb := by simp [box]

theorem box_post_same (mb : Nat) (r : Reply) (d : Dev) : box (post mb r d) mb = postedBox d.mail.posts (box d mb) r := by
  unfold post; rw [box_raise]; simp [box, setBox]

theorem box_post_ne {mb x : Nat} (r : Reply) (d : Dev) (h : x ≠ mb) : box (post mb r d) x = box d x := by
  unfold post; rw [box_raise]; simp [box, setBox, tabGet_tabPut_ne, h]

theorem post_pend (mb : Nat) (r : Reply) (d : Dev) : (post mb r d).ec.pend = d.ec.pend ||| BitVec.twoPow 2048 (0x300 + mb) := by
  unfold post; rw [raise_pend]; rfl

/-- A mailbox that holds no refused request, or waits, stays as it is while refused requests are answered. -/
theorem box_answerFront (l : List Nat) (d : Dev) (mb : Nat) (h : (box d mb).waiting = true ∨ (box d mb).verdict = none) :
    box (answerFront l d) mb = box d mb := by
  induction l generalizing d with
  | nil => rfl
  | cons x t ih =>
    unfold answerFront
    split
    · exact ih d h
    · split
      · rename_i hw _ v hv
        have hx : mb ≠ x := by
          rintro rfl
          rcases h with h | h
          · exact hw h
          · rw [h] at hv; cases hv
        rw [ih _ (by rw [box_post_ne _ _ hx]; exact h), box_post_ne _ _ hx]
      · rfl

theorem box_takeRefused (d : Dev) (mb : Nat) (h : (box d mb).waiting = true ∨ (box d mb).verdict = none) :
    box (takeRefused d) mb = box d mb := by
  unfold takeRefused; split
  · exact box_answerFront _ d mb h
  · rfl

theorem answerFront_pend (l : List Nat) (d : Dev) (i : Nat) (h : d.ec.pend.getLsbD i = true) :
    (answerFront l d).ec.pend.getLsbD i = true := by
  induction l generalizing d with
  | nil => exact h
  | cons x t ih =>
    unfold answerFront
    split
    · exact ih d h
    · split
      · apply ih; rw [post_pend]; simp [h]
      · exact h

theorem takeRefused_pend (d : Dev) (i : Nat) (h : d.ec.pend.getLsbD i = true) : (takeRefused d).ec.pend.getLsbD i = true := by
  unfold takeRefused; split
  · exact answerFront_pend _ d i h
  · exact h

/-- A mailbox that waits in the doorbell order stays there while refused requests of others are answered. -/
theorem order_answerFront (l : List Nat) (d : Dev) (mb : Nat) (h : (box d mb).waiting = true ∨ (box d mb).verdict = none)
    (hm : mb ∈ d.mail.order) : mb ∈ (answerFront l d).mail.order := by
  induction l generalizing d with
  | nil => exact hm
  | cons x t ih =>
    unfold answerFront
    split
    · exact ih d h hm
    · split
      · rename_i hw _ v hv
        have hx : mb ≠ x := by
          rintro rfl
          rcases h with h | h
          · exact hw h
          · rw [h] at hv; cases hv
        apply ih
        · rw [box_post_ne _ _ hx]; exact h
        · unfold post; rw [raise_mail]
          exact (List.mem_erase_of_ne hx).2 hm
      · exact hm

theorem order_takeRefused (d : Dev) (mb : Nat) (h : (box d mb).waiting = true ∨ (box d mb).verdict = none)
    (hm : mb ∈ d.mail.order) : mb ∈ (takeRefused d).mail.order := by
  unfold takeRefused; split
  · exact order_answerFront _ d mb h hm
  · exact hm

/-- A device that equals another outside three fields, as an equation. -/
theorem frame_mail_ec_meas {d e : Dev} (h1 : e.fw = d.fw) (h2 : e.links = d.links) (h3 : e.causes = d.causes) (h4 : e.causeMs = d.causeMs)
    (h5 : e.brakes = d.brakes) (h6 : e.trust = d.trust) (h7 : e.bench = d.bench) (h8 : e.power = d.power) (h9 : e.pins = d.pins)
    (h10 : e.clock = d.clock) (h11 : e.time = d.time) (h12 : e.timeCfg = d.timeCfg) (h13 : e.mem = d.mem) (h14 : e.tx = d.tx)
    (h15 : e.rx = d.rx) (h16 : e.pool = d.pool) (h17 : e.frames = d.frames) (h18 : e.slots = d.slots) (h19 : e.cipher = d.cipher)
    (h20 : e.defects = d.defects) (h21 : e.twins = d.twins) (h22 : e.clients = d.clients) (h23 : e.ixtas = d.ixtas)
    (h24 : e.free = d.free) : e = { d with mail := e.mail, ec := e.ec, meas := e.meas } := by
  cases d; cases e; simp_all

theorem takeRefused_frame (d : Dev) :
    takeRefused d = { d with mail := (takeRefused d).mail, ec := (takeRefused d).ec, meas := (takeRefused d).meas } := by
  apply frame_mail_ec_meas <;> simp
theorem post_frame (mb : Nat) (r : Reply) (d : Dev) :
    post mb r d = { d with mail := (post mb r d).mail, ec := (post mb r d).ec, meas := (post mb r d).meas } := by
  apply frame_mail_ec_meas <;> simp

/-! ## Serving -/

/-- Serving an accepted request: its effect, then its answer. -/
theorem serve_accepted (sv : Service) (mb : Nat) (d : Dev) (h1 : takes sv.opcode mb d = true)
    (h2 : judge sv (requestBody mb d) d = none) :
    serve sv mb d = takeRefused (complete mb (sv.run mb (requestBody mb d) d)) := by
  unfold serve; unfold requestBody at *; rw [if_pos h1]; simp only [h2]

/-- Serving a refused request: its answer alone. -/
theorem serve_refused (sv : Service) (mb : Nat) (d : Dev) (v : Verdict) (h1 : takes sv.opcode mb d = true)
    (h2 : judge sv (requestBody mb d) d = some v) :
    serve sv mb d = takeRefused (refuse (fullSize sv.opcode (requestBody mb d)) mb v (sv.refused v (requestBody mb d) d)) := by
  unfold serve; unfold requestBody at *; rw [if_pos h1]; simp only [h2]

/-- A request that firmware does not take is left as it is. -/
theorem serve_untaken (sv : Service) (mb : Nat) (d : Dev) (h : takes sv.opcode mb d = false) : serve sv mb d = d := by
  unfold serve; simp [h]

end Sys2Proof.Machine
end

