-- ==== Sys2Proof/Laws/Complete.lean ====
section
/-! SUPPORT. How an accepted request ends: what serving one does, once for every Virman command. -/

namespace Sys2Proof.Machine

/-- A request that firmware takes and no check refuses, run to the device `e` with an OK answer, completes. -/
theorem completes_of {i : Instr} {sv : Service} {mb : Mailbox} {b body : List Byte} {s : State} {e : Dev}
    (hi : exec i s = .next { s with dev := serve sv mb s.dev }) (ha : Asked mb sv.opcode b s.dev) (hj : judge sv b s.dev = none)
    (hr : sv.run mb b s.dev = (e, some { body := body })) : Completes i mb body e s := by
  obtain ⟨ht, rfl⟩ := ha
  refine ⟨_, hi, rfl, ?_⟩
  · have hs : serve sv mb s.dev = takeRefused (post mb { body := body } e) := by
      rw [serve_accepted _ _ _ ht hj]
      show takeRefused (complete mb (sv.run mb (requestBody mb s.dev) s.dev)) = _
      rw [hr]; rfl
    simp only [hs]
    have h2 := box_takeRefused (post mb { body := body } e) mb (.inr (by rw [box_post_same]; rfl))
    rw [box_post_same] at h2
    refine ⟨?_, ?_, ?_, ?_, ?_⟩
    · rw [h2]; rfl
    · apply takeRefused_pend; rw [post_pend]; simp; omega
    · rw [h2, posted_status]; rfl
    · rw [h2, posted_body]
    · apply frame_mail_ec_meas <;> simp

/-- A request that firmware takes and no check refuses, whose work goes on and answers later, is left waiting. -/
theorem starts_of {i : Instr} {sv : Service} {mb : Mailbox} {b : List Byte} {s : State} {e : Dev}
    (hi : exec i s = .next { s with dev := serve sv mb s.dev }) (ha : Asked mb sv.opcode b s.dev) (hj : judge sv b s.dev = none)
    (hr : sv.run mb b s.dev = (e, none)) : Starts i mb e s := by
  obtain ⟨ht, rfl⟩ := ha
  refine ⟨_, hi, rfl, ?_, ?_⟩
  · simp only [serve_accepted _ _ _ ht hj]
    rw [hr, box_takeRefused] <;> simp [complete, keepWaiting, box_setBox_same]
  · simp only [serve_accepted _ _ _ ht hj]
    rw [hr]
    apply frame_mail_ec_meas <;> simp [complete, keepWaiting]

/-- No check of the service refuses the body, every block it needs has power, and no freeze in force stops it. -/
theorem judge_none {sv : Service} {b : List Byte} {d : Dev} (h1 : firstDown d (sv.targets d b) = none)
    (h2 : firstOf (sv.checks d b) = none) (h3 : sv.freeze = .last → freezeOn d = false) : judge sv b d = none := by
  simp only [judge, h1, h2]
  cases hf : sv.freeze <;> simp_all

end Sys2Proof.Machine
end

