-- ==== Sys2Proof/Machine/Shaping.lean ====
section
/-! DEFINITION. The line symbols of a coach: pilots, the PRBS-15 that sets them, and the shaped data symbols (R51 to R53). -/

namespace Sys2Proof.Machine

/-! ## Pilots (R51, R52) -/

/-- One step of the PRBS-15 x¹⁵ + x¹⁴ + 1: the bit and the next state. DEDUCED: the register is read and shifted as the scrambler of R162 is, and the
seed is its first state; the manual gives the polynomial alone. -/
def prbs15Step (s : BitVec 15) : Bool × BitVec 15 :=
  let o := s.getLsbD 14 ^^ s.getLsbD 13
  (o, (s <<< 1) ||| (BitVec.ofBool o).setWidth 15)
/-- The state after `n` pilots, each of which advances the generator by two bits. -/
def prbs15State (seed : BitVec 15) : Nat → BitVec 15
  | 0 => seed
  | n + 1 => (prbs15Step (prbs15Step (prbs15State seed n)).2).2
/-- The two bits of pilot `n`. DESIGN CHOICE: the first is the sign of the in-phase component, the second that of the quadrature component; 1 is
negative. -/
def pilotBits (seed : BitVec 15) (n : Nat) : Bool × Bool :=
  let a := prbs15Step (prbs15State seed n)
  (a.1, (prbs15Step a.2).1)
/-- Symbol `i` of the coach's counter is a pilot, in both polarisations. -/
def isPilot (i : Nat) : Bool := i % 32 == 0

/-! ## Shaping (R53) -/

/-- A component of a data symbol: its amplitude level, 1 or 3 in PCS-16QAM and 1, 3, 5 or 7 in PCS-64QAM, from the matcher, and its sign. -/
structure Component where
  level : Nat
  negative : Bool
  deriving DecidableEq, Repr
/-- A symbol of one polarisation: a QPSK pilot of the data's mean power, or a data symbol. -/
inductive LineSymbol
  | pilot (i q : Bool)
  | data (i q : Component)
  deriving DecidableEq, Repr
/-- Component `k` of the `n` data symbols that carry a codeword, which starts the matcher anew (R53). The last 4 n bits of the codeword, the parity and
the information bits before it, set the signs, one each; the information bits left over go to the matcher, whose mapping is a free value. DESIGN CHOICE:
which information bits set signs, and that they are taken in order; H below 2 has fewer bits than signs, and the signs are free values too. -/
def componentOf (h : Nat) (n : Nat) (word : BitVec 30720) (k : Nat) : Component :=
  let mapped := 30720 - 4 * n
  let a := (Config.amplitude h (constellation h) (bitsFrom word 0 mapped) k).toNat
  { level := 2 * (if constellation h = 1 then a % 2 else a) + 1
    negative := if 4 * n ≤ 30720 then word.getLsbD (mapped + k) else Config.lowSign h k }
/-- H in 1/64 bit of the frame last sent by coach c: a change of H takes effect at the first codeword of the frame at which it applies. -/
def sentH (d : Dev) (c : Nat) (f : SentFrame) : Nat := needH (engTx d (engineOf c)).rate f.header.profile f.header.slots
/-- Data symbols before symbol `i` of the counter, one in each 32 being a pilot. -/
def dataBefore (i : Nat) : Nat := i - ceilDiv i 32
/-- DESIGN CHOICE: where a COACH_CONFIG with APPLY_MODE 0 changes a seed under running frames, the pilots go on as though the new seed had run since
symbol 0; R52 and R78 do not say. The symbol of coach c numbered `i`, one of the frame `f` that it sent, on polarisation Y or X. The codeword is the one in which the symbol begins; a
codeword's data symbols number 983,040 / H64, four components each, X before Y and in-phase first (DESIGN CHOICE: the order is not stated). -/
def lineSymbol (d : Dev) (c : Nat) (f : SentFrame) (y : Bool) (i : Nat) : LineSymbol :=
  let q := (coachTx d c).cfg
  if isPilot i then
    let p := pilotBits (BitVec.ofNat 15 (if y then q.seedY else q.seedX)) (i / 32)
    .pilot p.1 p.2
  else
    let h := sentH d c f
    let j := dataBefore i - ceilDiv (f.symbol.1 * 31) (f.symbol.2 * 32)
    let w := min (j * h / 983040) 15
    let first := ceilDiv (w * 983040) h
    let n := ceilDiv ((w + 1) * 983040) h - first
    let k := 4 * (j - first) + (if y then 2 else 0)
    let word := ((frameCodewords f)[w]?).getD 0
    .data (componentOf h n word k) (componentOf h n word (k + 1))

end Sys2Proof.Machine
end

