-- ==== Sys2Proof/WellFormed.lean ====
section
/-! DEFINITION. Which commands the manual has: the three events that carry a message of a fixed size carry one of that size. Every
other operand has only legal values by its type. -/

namespace Sys2Proof

/-- A flit is 256 bytes (R16), a block of a memory link 8 words (R430), a cell on a client lane 260 bytes (R261). -/
def Instr.wf : Instr → Bool
  | .flitReceived _ _ bytes => bytes.length == 256
  | .memoryBlockReceived _ _ _ words _ => words.length == 8
  | .cellReceived _ cell => cell.bytes.length == 260
  | .hello _ | .laserConfig _ | .laserXfer _ _ | .fwStage _ | .fwActivate _ | .engTxConfig _ | .coachConfig _ | .coachEval _
  | .hitchConfig _ | .txPreemph _ | .biasConfig _ | .engTxStatus _ | .engRxConfig _ | .coachRxConfig _ | .rxEqConfig _
  | .rxReacquire _ | .engRxStatus _ | .coachRxStatus _ | .poolConfig _ | .poolCoachConfig _ | .poolStatus _
  | .poolCoachStatus _ | .frameConfig _ | .frameStatus _ | .defectConfig _ | .defectStatus _ | .pmConfig _ | .pmRead _
  | .pmClear _ | .queueConfig _ | .queueStatus _ | .slotWrite _ | .slotRead _ | .slotCopy _ | .slotArm _ | .rxSlotArm _
  | .slotCancel _ | .slotSwapStatus _ | .queueFlush _ | .spillConfig _ | .cliPortConfig _ | .cliLaneConfig _
  | .cliLaneStatus _ | .cliLaneTest _ | .cliRecclk _ | .cipherConfig _ | .cipherKeyLoad _ | .cipherStatus _ | .cipherJob _
  | .cipherCtx _ | .secCertRead _ | .secAttest _ | .keyGenerate _ | .keyImport _ | .keyExport _ | .keyDestroy _
  | .kekEstablish _ | .keyPolicy _ | .kaStart _ | .kaStatus _ | .zeroize _ | .tagWrite _ | .tagLock _ | .svnCommit _
  | .twinConfig _ | .twinStatus _ | .twinCommandForce _ | .twinCommandRestart _ | .yardConfig _ | .ixtasEngConfig _
  | .ixtasCoachConfig _ | .ixtasEngStatus _ | .ixtasPartnerStatus _ | .ixtasSend _ | .ixtasRecv _ | .wakeSend _
  | .timeRefConfig _ | .timeConfig _ | .timeSelect _ | .timeStatus _ | .timeAdjust _ | .timeSteer _ | .memFill _
  | .memStatus _ | .scrubConfig _ | .memDiag _ | .dmaResume _ | .snapRead _ | .snapQueueRead _ | .ctrSelect _ | .calConfig _
  | .calRun _ | .calStatus _ | .calRead _ | .calRestore _ | .pwrState _ | .pwrDomain _ | .pwrConfig _ | .pwrStatus _
  | .registerWrite _ _ _ | .devtimeLoRead _ | .fwRestart _ | .mbDoorbell _ _ | .mbRelease _ _ | .mailboxWindowWrite _ _ _
  | .brakeLock _ | .engBrake _ _ | .biasWindow _ _ | .biasSlew _ _ | .keyCeiling _ | .slotBrake _ | .freezeCtrl _
  | .secureMask _ _ | .timeCtrl _ | .steerFreq _ | .steerSlew _ | .ecClaim _ | .ecComplete _ _ | .ecSetpend _ _ | .ecPend _ _
  | .ecPendClr _ _ _ | .ecHostClaim _ _ | .ecHostUnack _ _ | .ecSrcCfg _ _ | .miFlipCtrl _ | .firstInfo _ _
  | .overflowRead _ _ | .miCeSram _ | .miCeHbm _ | .linkRetries _ _ | .linkExhaust _ _ | .tallyCount _ _ | .trackReset _
  | .tallyClear _ | .telUrgent _ _ | .telStatus _ | .telCtrl _ | .sequencerRow _ _ _ | .snapTake _ | .snapFreeze _
  | .snapUser _ _ | .tripLatchedClear _ | .smpWrite _ _ | .smpPointer _ | .smpRead _ | .powerOnReset _ _ | .deviceReset _ _
  | .perstN _ | .pcieReset | .txmuteNLow | .txmuteNHigh | .unmuted _ | .zeroizeN _ | .snapPin | .ppsinEdge | .testmode _
  | .wakePin | .smpMatch | .light _ | .clientSignal _ | .wakeTimer | .thermalTrip _ | .thermalWarn _ | .surgeHot _
  | .laserLow _ | .laserRestored _ | .losSet _ | .losClear _ | .flitAckTimeout _ _ _ | .retryExhaustion _ _ _
  | .linkRetrainDone _ _ | .retryWarn _ | .biasSweepEnd _ _ | .biasLocked _ | .biasFail _ | .biasUnlock _
  | .firstFrameBoundary _ | .txFrame _ | .legCut _ _ | .acqStart _ | .cdSearchComplete _ _ _ | .polConverged _
  | .carrierLock _ | .warmLock _ | .acqRetry _ | .warmFail _ | .cwLock _ | .cwFail _ | .locSet _ | .frameHuntTimeout _
  | .cycleSlip _ | .chgApplied _ | .codewordArrival _ _ | .baseComplete _ _ | .epochStart | .extensionRound _ | .epochEnd
  | .surgeWithdraw | .codewordRelease _ | .poolInterval | .surgeGrant | .vidSettle | .powerEstimate _ _ _ | .exhausted
  | .candidateTest _ | .hbMiss _ | .segmentVerdict _ _ | .legFrameDemap _ _ | .reasmGap _ | .queueWordArrival _ _
  | .pauseRepeat _ | .twinCopyArrival _ _ _ | .twinDue _ | .twinHeartbeatSend _ | .twinHeartbeatReceive _ _ | .ixtasHbMiss _
  | .defectSample | .secondClassify | .binRollover | .commaBlock _ _ _ | .trainingFrame _ _ | .negRetry _ | .rateFallback _
  | .eyeScore _ _ | .rsCodeword _ _ | .cellSend _ | .sentCell _ | .aisCell _ | .ethFrameRx _ _ | .ethFrameTx _
  | .preDetect _ _ _ | .preExpired _ _ _ | .syncMatch _ _ _ _ _ | .hdrReject _ _ _ | .rxOk _ _ _ | .fragTimeout _ _ _
  | .ixtasPacketStart _ _ | .helloPeriod _ | .helloPacket _ | .capability _ | .trace _ | .capRequest _ | .hostMsg _
  | .partnerLost _ | .wakeSeen _ _ _ | .kaInit _ _ | .kaResp _ _ | .kaConfirm _ _ | .kaSettle _ _ | .kaConfirmRepeat _
  | .kaTimeout _ | .kaRetry _ | .rotatePeriod _ | .refLost _ _ | .refOffsetMeasure _ _ _ | .driftEstimate _ _ _
  | .refQualified _ | .refDisagree _ _ _ | .timingLocked | .holdoverSample | .steerStale | .ppsLost | .atPpsTimeout
  | .uncorrectableRead _ | .correctedRead _ | .ceRate _ | .scrubPass _ | .fillDone _ | .calTemperatureEval | .calStart _
  | .calDone _ | .telRow _ | .snapshotTick _ | .snapshotPublish | .moderationRelease _ _ | .idleEntry | .idleExit
  | .abortPoint _ | .returnToRun _ | .domainChange | .watchdog | .bootStage _ | .reattachment _ _ | .restartFailed _
  | .pcsAlignment _ _ _ | .refActivityBack _ | .gainLimit _ _ | .offsetWarn _ _ | .hitchWalkoff _ _ | .lockLoopEdge _ _ => true

end Sys2Proof
end

