-- ==== Sys2Proof/Tests/Slice0.lean ====
section
/-! SUPPORT. The model's own tests: small devices, check values of the manual, one-step tests, the requests that firmware accepts, and
for each statement of Obligations.lean states and operands that meet the hypotheses of its clauses (`witness_<Name>`). -/

open Sys2Proof Sys2Proof.Machine

namespace Sys2Proof.Tests
set_option Elab.async false
/-! ## Devices and readers -/

/-- The device with firmware running, power on, the bins started. -/
def live : Dev :=
  { Dev.reset with fw.state := .running, fw.stage := 5, fw.mailboxReady := true, defects.cleared := true, pins.perstLow := false, mem.everRan := true
                   trust := { identityErased := false, svnFloor := 0, tagLocked := 0 } }
/-- A request of opcode `op` with this body waits in mailbox 0, its checks 1 to 5 passed. -/
def asking (op : Nat) (body : List Byte) (d : Dev) : Dev :=
  let window := [3, 0] ++ le 2 op ++ le 4 7 ++ le 2 body.length ++ zeros 6 ++ body
  { d with mail := { d.mail with order := [0], boxes := [(0, { cells := cellsFrom 0 window, state := .pending, negMajor := 3 })] } }
/-- A body from fields: bytes, value. -/
def body (fs : List (Nat × Nat)) : List Byte := fs.flatMap (fun f => le f.1 f.2)
/-- A whole write by the PCIe host. -/
def wr (v : Word) : RegWrite := { who := .pcie, enables := 0xF, value := v }
/-- `HostLands`, `ReadLands`, `Accepted`, `RefusedWith`, `Asked` and `LimitsFit` as Booleans. -/
def landsB (b : Nat) (w : RegWrite) (d : Dev) : Bool := w.who != .firmware && writeLands w d && !blockDown d b
def readB (b : Nat) (who : Accessor) (d : Dev) : Bool := reaches who d && !blockDown d b
def acceptedB (r : Request) (d : Dev) : Bool :=
  r.applies d && takes r.service.opcode r.mailbox d && judge r.service (requestBody r.mailbox d) d == none
def refusedB (r : Request) (v : Verdict) (d : Dev) : Bool :=
  r.applies d && takes r.service.opcode r.mailbox d && judge r.service (requestBody r.mailbox d) d == some v
def askedB (mb : Mailbox) (op : Nat) (b : List Byte) (d : Dev) : Bool := takes op mb d && requestBody mb d == b
/-- A command answers a next state. -/
def runs {φ ρ : Type} : Host.Outcome State φ ρ → Bool
  | .next _ => true
  | _ => false
def limitsB (b : Brakes) : Bool :=
  (List.range 16).all (fun n => let x := tabGet engBrakeReset b.engines n; within 1 63 x.1 && within 1 100 x.2.1 && within 2 30 x.2.2) &&
  (List.range 96).all (fun o => let w := tabGet biasWindowReset b.window o
    decide (w.1 ≤ w.2) && decide (w.2 ≤ 14000) && within 1 1000 (tabGet (fun _ => 100) b.slew o)) &&
  within 1 1000 b.minSwapMs && within 0xFFFFF 0xFFFFFFFF b.ceilingM1
/-- A codeword of coach 0 in the pool, its base beads failed. -/
def cw0 : PoolCw := { coach := 0, seq := 5, profile := 1, siq := 9, resync := false, hChange := false, order := 0, cap := 24, signs := 0, hard := [] }
def lineEntry : VaultEntry := { used := true, kind := 2, attr := 3, limit := 2 ^ 20, key := 5 }
def jobEntry : VaultEntry := { used := true, kind := 5, attr := 2, limit := 2 ^ 20 }
def wrapEntry : VaultEntry := { used := true, kind := 4, attr := 2, limit := 2 ^ 20 }
/-- The blob of the line key under the KEK. -/
def wrapped0 : List Byte :=
  [88, 214, 67, 246, 254, 234, 18, 77, 224, 245, 233, 103, 185, 62, 97, 44, 52, 36, 164, 182, 36, 71, 43, 217, 185, 36,
 78, 153, 69, 227, 15, 10, 149, 154, 39, 49, 174, 221, 74, 149, 222, 91, 242, 82, 75, 195, 143, 122]
/-- A line key, a job key and a KEK of the host in entries 0, 1 and 2; the identity keys are there. -/
def keyed : Dev :=
  { live with trust := { live.trust with vault := [(0, lineEntry), (1, jobEntry), (2, wrapEntry)], identityErased := false, svnFloor := 3 } }
def sentHeader : Header :=
  { version := 3, profile := 1, slots := 30, keyIndex := 0, cipher := false, fc := 4, source := 0, trace := 0, stat := 0, bdi := false }
/-- Engine 0 launches with coach 0 lit and its frames running. -/
def launching : Dev :=
  { keyed with
    tx := { live.tx with engines := [(0, { enable := true, state := .running, gateOpen := true })]
                         coaches := [(0, { coachTxReset 0 with cfg := { (coachTxReset 0).cfg with slots := 30 }, framesRun := true })] }
    frames := { live.frames with tx := [(0, { sent := some { header := sentHeader, legs := [], key := none, time := 0 }, next := 5 })] } }

/-- A codeword released cleared, its information bits those of a header. -/
def rel0 : Released := { seq := 0, profile := 1, outcome := 0, beads := 1, resync := false, hChange := false, info := (headerBits sentHeader).setWidth 30720 }
/-- A clear segment with its check. -/
def seg0 : Segment := { g := 0, header := sentHeader, body := [], tag := clearTag [], uncorr := 0, erased := 0, good := [] }
/-- A delivered frame with no data and one leg of tributary 5 to take. -/
def demap0 : DemapFrame :=
  { fc := 0, slots := 30, page1 := false, profile := 1, segments := List.replicate 4 { plain := none, good := [], hold := false }, todo := [(5, [0])] }
/-- A valid training word. -/
def word0 : QWord := BitVec.ofNat 64 (0x3C + 2 ^ 56 * (crc8 (le 7 0x3C)).toNat)
/-- An SLP link of lanes 126 and 127 that owns tributary 5, up. -/
def slp0 : Group := { protocol := 2, width := 2, enable := true, first := 5, count := 1, up := true }
/-- An Ethernet port of lane 0 that owns tributary 5, up. -/
def eth0 : Group := { protocol := 1, width := 1, enable := true, first := 5, count := 1, up := true }

/-- Engine 0 launches, and its Ixtas transmitter and receiver are on. -/
def talking : Dev := { launching with ixtas.engines := [(0, { tx := true, rx := true })] }
/-- A message of an Ixtas kind to coach 0. -/
def msg (k : Nat) (bs : List Byte) : Message := { engine := 0, coach := 0, kind := k, source := 0, dest := 0, prot := false, body := bs, at_ := 0 }
/-- A copy of block 7 of a twin tributary. -/
def copy0 : HeldCopy := { pathB := false, seq := 7, arrived := 0, due := 0, valid := true, recut := false, restart := false, words := [] }
/-- A frame in progress that lacks one codeword. -/
def frame15 : InFrame := { header := sentHeader, fits := true, delivered := true, words := List.replicate 15 rel0 }
/-- A flit of zeros with its check. -/
def flit0 : List Byte := zeros 252 ++ le 4 (crc32 (zeros 252)).toNat
/-- A device on its way into SLEEP, in a stage. -/
def entering (stage : Nat) : Dev := { live with power.state := .entering, power.stage := stage, pins.target := .sleep, pins.entryMailbox := some 7 }
/-- An uncorrectable word read by the framer. -/
def bad0 : BadRead :=
  { region := 2, consumer := 1, source := 0, addr := 0, syndrome := 3, returned := 0, journal := false, rejected := false, byDma := false, hostChannel := false
    descriptor := 0, offset := 0, place := none }
/-- The confirmation tags of an agreement that has no messages and no derived bytes yet. -/
def tagI : List Byte := [17, 222, 84, 100, 151, 136, 124, 226, 252, 222, 89, 236, 31, 122, 198, 200]
def tagS : List Byte := [48, 68, 144, 42, 152, 207, 80, 198, 182, 62, 134, 35, 186, 35, 225, 77]

/-- The body with zeros up to the length that its opcode gives it. -/
def sized (op : Nat) (bs : List Byte) : List Byte :=
  match layoutOf op with
  | some l => (bs ++ zeros 2000).take (l.length bs)
  | none => []
/-- Firmware accepts the request of this command with this body, its length and reserved bytes being right. -/
def accepts (d : Dev) (i : Instr) (fields : List (Nat × Nat)) : Bool :=
  match request i with
  | some r =>
    let bs := sized r.service.opcode (body fields)
    let e := asking r.service.opcode bs d
    (layoutOf r.service.opcode).any (fun l => l.length bs == bs.length && l.reservedZero bs) &&
      r.mailbox == 0 && acceptedB r e && !(box (effectOf r e) r.mailbox).releaseAtPost
  | none => false
/-- The device with a laser source on port 0. -/
def laser1 : Dev := { live with mail.laser := [(0, { address := [0x50, 0xFF, 0xFF, 0xFF] })] }

/-- The device that one command leaves satisfies `p`. -/
def after (i : Instr) (d : Dev) (p : Dev → Bool) : Bool :=
  match exec i { pending := [], dev := d } with
  | .next t => p t.dev
  | _ => false

/-- A command stops as ill-formed. -/
def stops (i : Instr) (d : Dev) : Bool :=
  match exec i { pending := [], dev := d } with
  | .fault .illFormed => true
  | _ => false

/-! ## Ill-formed commands, the queue, the opcode table -/

theorem test_short_flit_refused : (Instr.flitReceived 0 true (zeros 255)).wf = false ∧
    stops (.flitReceived 0 true (zeros 255)) live = true := by decide +kernel
theorem test_long_block_refused : (Instr.memoryBlockReceived 0 false 0 (List.replicate 9 0) 0).wf = false ∧
    stops (.memoryBlockReceived 0 false 0 (List.replicate 9 0) 0) live = true := by decide +kernel
theorem test_short_cell_refused : (Instr.cellReceived 0 { bytes := zeros 259, uncorrectable := false }).wf = false ∧
    stops (.cellReceived 0 { bytes := zeros 259, uncorrectable := false }) live = true := by decide +kernel
theorem test_wellformed_flit : (Instr.flitReceived 0 true (zeros 256)).wf = true := by decide +kernel
theorem test_no_word_is_a_command : decodeTableWord 32 0 = none := rfl
theorem test_fetch_word_keeps_the_state (s : State) : s.withFetchWord 32 7 = s := rfl
/-- Commands run first in, first out. -/
theorem test_front_first : (match step ⟨[.txmuteNHigh, .txmuteNLow], live⟩ with
    | .next t => t.pending == [.txmuteNLow] && !t.dev.pins.txmuteLow
    | _ => false) = true := by decide +kernel

/-! ## Algorithms: check values of the manual and of the published standards -/

/-- R548: the CRC-8 of "123456789" is 0xF4. -/
theorem test_crc8 : crc8 [0x31, 0x32, 0x33, 0x34, 0x35, 0x36, 0x37, 0x38, 0x39] = 0xF4 := by decide +kernel
/-- Chapter 5: the CRC-32C of "123456789" is 0xE3069283 (each byte least significant bit first). -/
theorem test_crc32c : crc32c ([0x31, 0x32, 0x33, 0x34, 0x35, 0x36, 0x37, 0x38, 0x39].flatMap
    (fun b : Byte => (List.range 8).map (b.getLsbD ·))) = 0xE3069283 := by decide +kernel
/-- Chapter 14: data 1 has the check byte 0x83, data 0 has 0x00. -/
theorem test_check_byte : checkByte 1 = 0x83 ∧ checkByte 0 = 0 := by decide +kernel
/-- Chapter 4: column 10 at L85 has rows 2, 5, 8 with shifts 473, 41, 247. -/
theorem test_code_column : rowsOf 1 10 = [2, 5, 8] ∧ shiftOf 2 10 = 473 ∧ shiftOf 5 10 = 41 ∧ shiftOf 8 10 = 247 := by decide +kernel
/-- The encoder's output satisfies the parity checks, and one wrong bit fails three of them. -/
theorem test_encoder : isCodeword 2 (placeBlocks 0x123456789 54 (parityBlocks 2 0x123456789)) = true := by decide +kernel
theorem test_one_wrong_bit : unsatisfied 1 1 = 3 := by decide +kernel
/-- Chapter 2: H of coaches 183 to 186, and the limit at half rate. -/
theorem test_entropy : needH 0 1 40 = 312 ∧ needH 0 0 40 = 331 ∧ needH 0 2 40 = 294 ∧ needH 0 0 15 = 124 ∧
    entropyOver 1 1 24 = true ∧ needH 1 1 23 = 358 := by decide +kernel
/-- Chapter 5: at L85 segment 0 holds 13,008 bytes, each later one 13,040. -/
theorem test_segments : bodyBytes 1 0 = 13008 ∧ bodyBytes 1 1 = 13040 := by decide +kernel
/-- R377: 78 bytes take 4.7375 ms at class D. -/
theorem test_airtime : packetAir 3 78 = 4737500 := by decide +kernel
/-- Chapter 0: slot 7,335 lies on coach 183 of engine E11. -/
theorem test_engine_of : engineOf (7335 / 40) = 11 := by decide +kernel
/-- FIPS 197, appendix C.3. -/
theorem test_aes : aes256 0x000102030405060708090a0b0c0d0e0f101112131415161718191a1b1c1d1e1f 0x00112233445566778899aabbccddeeff =
    0x8ea2b7ca516745bfeafc49904b496089 := by decide +kernel
theorem test_aes_inverse : aes256Inv 0x000102030405060708090a0b0c0d0e0f101112131415161718191a1b1c1d1e1f
    0x8ea2b7ca516745bfeafc49904b496089 = 0x00112233445566778899aabbccddeeff := by decide +kernel
/-- FIPS 180-4: SHA-384 of "abc". -/
theorem test_sha384 : sha384 [0x61, 0x62, 0x63] =
    0xcb00753f45a35e8bb5a03d699ac65007272c32ab0eded1631a8b605a43ff5bed8086072ba1e7cc2358baeca134c825a7 := by decide +kernel
/-- A frame's header survives its bits. -/
theorem test_header_bits : headerFits (headerBits sentHeader) = true ∧ headerOf (headerBits sentHeader) = sentHeader := by decide +kernel

/-! ## One step -/

/-- R333: LOW_MV 15,000 with HIGH_MV 14,500 is discarded; 13,000 with 15,000 gives 13,000 to 14,000; WRITE_ERR each time. -/
theorem test_window_discarded : after (.biasWindow 0 (wr (14500 <<< 16 ||| 15000))) live
    (fun d => biasLow d 0 == 0 && biasHigh d 0 == 14000 && d.brakes.writeErr) = true := by decide +kernel
theorem test_window_clamped : after (.biasWindow 0 (wr (15000 <<< 16 ||| 13000))) live
    (fun d => biasLow d 0 == 13000 && biasHigh d 0 == 14000 && d.brakes.writeErr) = true := by decide +kernel
/-- R333: a locked register is not written, and WRITE_ERR stays. -/
theorem test_locked_window : after (.biasWindow 0 (wr (15000 <<< 16 ||| 13000))) { live with brakes.lock := 2 }
    (fun d => biasLow d 0 == 0 && !d.brakes.writeErr) = true := by decide +kernel
/-- R438: a write without all byte enables is discarded. -/
theorem test_partial_write : after (.biasWindow 0 { wr 0x00020001 with enables := 7 }) live (fun d => biasLow d 0 == 0) = true := by
  decide +kernel
/-- R61, R62: TXMUTE_N low closes the gate of a launching engine at once. -/
theorem test_mute : after .txmuteNLow launching (fun d => (engTx d 0).state == .muted && !(engTx d 0).gateOpen && (engTx d 0).mute == 1) = true := by
  decide +kernel
/-- R471, R481: the claim of source 5 at priority 3 reads 0x80003005 and is pushed. -/
theorem test_claim : after (.ecClaim 0) { live with ec.pend := 1 <<< 5, ec.srcCfg := [(5, 0x803)] }
    (fun d => d.mail.out == [0x80003005] && stackOf d 0 == [(5, 3)]) = true := by decide +kernel
/-- R472: a completion that does not name the top of the stack is counted and pops nothing. -/
theorem test_wrong_complete : after (.ecComplete 0 6) { live with ec.claimStacks := [(0, [(5, 3)])] }
    (fun d => stackOf d 0 == [(5, 3)]) = true := by decide +kernel
set_option maxRecDepth 100000 in
/-- R327: ZEROIZE_N low erases the identity keys. -/
theorem test_zeroize_pin : after (.zeroizeN true) keyed (fun d => d.trust.identityErased) = true := by
  decide +kernel
/-- R24: the read of the low word latches the high word. -/
theorem test_devtime_latch : after (.devtimeLoRead { who := .pcie, enables := 15 }) { live with clock.frac := (5 * 2 ^ 32 + 9) * 2 ^ 48 }
    (fun d => d.mail.out == [9] && d.clock.latchHi == 5) = true := by decide +kernel
/-- R423: a fill that ends sets the bits of its GiB that did not fail. -/
theorem test_fill : after (.fillDone 2) { live with mem.fill := some (0, 3) }
    (fun d => d.mem.fillMap == 5 && d.mem.fill == none) = true := by decide +kernel
/-- R449: PERST_N releases a DONE mailbox that PCIe holds, and leaves one that the SMP holds. -/
theorem test_perst : after .pcieReset { live with mail.boxes := [(0, { state := .done }), (1, { state := .done, port := .smp })] }
    (fun d => (box d 0).state == .idle && (box d 1).state == .done) = true := by decide +kernel
/-- R526: the thermal trip latches and starts an entry to SLEEP. -/
theorem test_trip : after (.thermalTrip 0) live (fun d => d.power.tripLatched && d.pins.tripEntry && d.power.state == .entering) = true := by
  decide +kernel
/-- A diagnostic window that is open has no meaning in the manual (R439). -/
theorem test_open_diagnostic_window : exec (.registerWrite .bar0 0x01000000 (wr 1)) ⟨[], { live with pins.testmode := true }⟩ =
    .refused .diagnosticWindow := by rfl
/-- R439: locked, the window discards the write. -/
theorem test_locked_diagnostic_window : runs (exec (.registerWrite .bar0 0x01000000 (wr 1)) ⟨[], live⟩) = true := by decide +kernel

/-! ## Requests that firmware accepts, with their fields as (bytes, value) -/

/-- Requests of the management family that firmware accepts. -/
theorem test_accepts_management : ([
    (laser1, .hello 0, []),
    (laser1, .laserConfig 0, [(1, 0), (1, 0), (2, 9), (4, 0xFFFFFFFF)]),
    (laser1, .laserXfer 0 .addressNack, [(1, 0), (1, 0), (1, 1)]),
    (laser1, .fwStage 0, [(4, 8), (4, 0), (2, 4), (1, 1)])] :
    List (Dev × Instr × List (Nat × Nat))).all (fun e => accepts e.1 e.2.1 e.2.2) = true := by decide +kernel

/-- Requests of the transmit family that firmware accepts. -/
theorem test_accepts_transmit : ([
    (laser1, .engTxConfig 0, [(1, 0), (1, 1), (1, 0), (1, 48), (16, 0)]),
    (laser1, .coachConfig 0, [(2, 0), (1, 30), (1, 1), (1, 3), (1, 0), (2, 0), (2, 1), (2, 1)]),
    (laser1, .coachEval 0, [(2, 0), (1, 30), (1, 1), (1, 3), (1, 0), (2, 0), (2, 1), (2, 1)]),
    (laser1, .hitchConfig 0, [(8, 0), (2, 64), (2, 0), (4, 4000)]),
    (laser1, .txPreemph 0, []),
    (laser1, .biasConfig 0, [(1, 0), (1, 0xFF), (2, 0), (2, 0), (2, 10)]),
    (laser1, .engTxStatus 0, [])] :
    List (Dev × Instr × List (Nat × Nat))).all (fun e => accepts e.1 e.2.1 e.2.2) = true := by decide +kernel

/-- Requests of the receive family that firmware accepts. -/
theorem test_accepts_receive : ([
    (laser1, .engRxConfig 0, [(1, 0), (1, 1), (1, 0), (1, 32), (2, 0), (2, 65536 - 1000), (2, 100)]),
    (laser1, .coachRxConfig 0, [(2, 0), (1, 30), (1, 1), (1, 3), (1, 1), (2, 1), (2, 1), (2, 50)]),
    (laser1, .rxEqConfig 0, [(2, 0), (2, 0), (4, 0), (4, 0), (4, 1), (4, 4000)]),
    (laser1, .rxReacquire 0, []),
    (laser1, .engRxStatus 0, []),
    (laser1, .coachRxStatus 0, [])] :
    List (Dev × Instr × List (Nat × Nat))).all (fun e => accepts e.1 e.2.1 e.2.2) = true := by decide +kernel

/-- Requests of the pool family that firmware accepts. -/
theorem test_accepts_pool : ([
    (laser1, .poolConfig 0, [(1, 0), (1, 1), (1, 32), (1, 16), (1, 4)]),
    (laser1, .poolCoachConfig 0, [(2, 0), (1, 24), (1, 0)]),
    (laser1, .poolStatus 0, []),
    (laser1, .poolCoachStatus 0, [])] :
    List (Dev × Instr × List (Nat × Nat))).all (fun e => accepts e.1 e.2.1 e.2.2) = true := by decide +kernel

/-- Requests of the frames and defects family that firmware accepts. -/
theorem test_accepts_frames_and_defects : ([
    (laser1, .frameConfig 0, []),
    (laser1, .frameStatus 0, []),
    (laser1, .defectConfig 0, []),
    (laser1, .defectStatus 0, []),
    (laser1, .pmConfig 0, []),
    (laser1, .pmRead 0, []),
    (laser1, .pmClear 0, [])] :
    List (Dev × Instr × List (Nat × Nat))).all (fun e => accepts e.1 e.2.1 e.2.2) = true := by decide +kernel

/-- Requests of the slots family that firmware accepts. -/
theorem test_accepts_slots : ([
    (laser1, .queueConfig 0, [(2, 0), (2, 0), (2, 4), (1, 0), (1, 64), (4, 0), (4, 512), (4, 1024), (4, 2048), (4, 0)]),
    (laser1, .queueStatus 0, []),
    (laser1, .slotWrite 0, []),
    (laser1, .slotRead 0, []),
    (laser1, .slotCopy 0, []),
    (laser1, .rxSlotArm 0, []),
    (laser1, .slotSwapStatus 0, []),
    (laser1, .queueFlush 0, []),
    (launching, .slotArm 0, [(2, 1), (2, 0), (2, 0), (8, 200), (2, 0)]),
    ({ launching with slots := { launching.slots with engines := [(0, { armed := some { time := 10, mask := 1, frames := [] } })] } }, .slotCancel 0, [(1, 0), (1, 0), (2, 0)])] :
    List (Dev × Instr × List (Nat × Nat))).all (fun e => accepts e.1 e.2.1 e.2.2) = true := by decide +kernel

/-- Requests of the client family that firmware accepts. -/
theorem test_accepts_client : ([
    (laser1, .cliPortConfig 0, [(2, 0), (1, 1), (1, 2), (1, 1), (1, 1), (1, 1), (1, 96), (2, 0), (2, 16), (2, 1500), (1, 64), (1, 0)]),
    (laser1, .cliLaneConfig 0, [(2, 0), (2, 0), (4, 0x00340000)]),
    (laser1, .cliLaneStatus 0, []),
    (laser1, .cliLaneTest 0, []),
    (laser1, .cliRecclk 0, [(16, 2^128-1)])] :
    List (Dev × Instr × List (Nat × Nat))).all (fun e => accepts e.1 e.2.1 e.2.2) = true := by decide +kernel

/-- Requests of the cipher family that firmware accepts. -/
theorem test_accepts_cipher : ([
    (laser1, .cipherConfig 0, [(2, 0), (1, 0), (1, 0), (8, 2^20), (1, 90), (3, 0)]),
    (laser1, .cipherStatus 0, []),
    (launching, .cipherKeyLoad 0, [(2, 0), (1, 0), (1, 0), (4, 0), (8, handleOf 0 lineEntry), (8, 68)]),
    (keyed, .cipherJob 0, [(1, 0), (1, 0), (1, 0), (1, 3), (1, 0xFF), (3, 0), (8, handleOf 1 jobEntry), (32, 0), (4, 0)]),
    ({ keyed with cipher := { keyed.cipher with serials := [7] } }, .cipherCtx 0, [(1, 1), (3, 0), (8, 7)])] :
    List (Dev × Instr × List (Nat × Nat))).all (fun e => accepts e.1 e.2.1 e.2.2) = true := by decide +kernel

/-- Requests of the keys family that firmware accepts. -/
theorem test_accepts_keys : ([
    (laser1, .secCertRead 0, []),
    (laser1, .secAttest 0, []),
    (laser1, .keyPolicy 0, [(2, 0), (1, 1), (1, 0), (4, 3600), (2, 60), (2, 30), (4, 1000), (48, 0)]),
    (laser1, .kaStart 0, []),
    (laser1, .kaStatus 0, []),
    ({ laser1 with trust.tagWrites := [(0, 5)] }, .tagWrite 0, []),
    (laser1, .tagLock 0, []),
    (laser1, .svnCommit 0, []),
    (keyed, .keyGenerate 0, [(1, 5), (3, 0), (8, 2 ^ 32)]),
    (keyed, .keyExport 0, [(8, handleOf 0 lineEntry), (8, handleOf 2 wrapEntry)]),
    (keyed, .keyDestroy 0, [(8, handleOf 1 jobEntry)]),
    (keyed, .kekEstablish 0, [])] :
    List (Dev × Instr × List (Nat × Nat))).all (fun e => accepts e.1 e.2.1 e.2.2) = true := by decide +kernel

/-- Requests of the twins family that firmware accepts. -/
theorem test_accepts_twins : ([
    (laser1, .twinStatus 0, []),
    (laser1, .twinCommandRestart 0, [(1,0),(1,1),(2,0)]),
    (laser1, .yardConfig 0, []),
    ({ live with twins := { live.twins with rx := [(0, { a := { state := .inService } })] } }, .twinCommandForce 0, [])] :
    List (Dev × Instr × List (Nat × Nat))).all (fun e => accepts e.1 e.2.1 e.2.2) = true := by decide +kernel

/-- Requests of the ixtas family that firmware accepts. -/
theorem test_accepts_ixtas : ([
    (laser1, .ixtasEngConfig 0, [(1, 0), (1, 3), (1, 2), (1, 15), (1, 60), (1, 64), (1, 4), (1, 0), (4, 0)]),
    (laser1, .ixtasCoachConfig 0, [(2, 0), (1, 0), (1, 2), (2, 600), (2, 0), (64, 0)]),
    (laser1, .ixtasEngStatus 0, []),
    (laser1, .ixtasPartnerStatus 0, []),
    (laser1, .ixtasSend 0, []),
    (laser1, .ixtasRecv 0, []),
    ({ launching with ixtas := { launching.ixtas with engines := [(0, { tx := true })] } }, .wakeSend 0, [(1, 0), (1, 15), (1, 8), (1, 0)])] :
    List (Dev × Instr × List (Nat × Nat))).all (fun e => accepts e.1 e.2.1 e.2.2) = true := by decide +kernel

/-- Requests of the timing family that firmware accepts. -/
theorem test_accepts_timing : ([
    (laser1, .timeRefConfig 0, [(1, 4), (1, 1), (1, 0), (1, 0), (4, 0), (2, 100), (2, 100), (2, 10), (2, 1), (1, 1), (1, 0), (2, 1)]),
    (laser1, .timeConfig 0, [(1, 0), (1, 0), (2, 0), (2, 10), (2, 10), (1, 0), (1, 0), (1, 0), (1, 0), (2, 0), (2, 0)]),
    (laser1, .timeStatus 0, []),
    (laser1, .timeAdjust 0, [(1, 2), (1, 1), (2, 0), (8, 0), (4, 1)]),
    (laser1, .timeSteer 0, []),
    ({ live with time := { live.time with refs := [(27, { q := .qualified })] } }, .timeSelect 0, [(1, 27), (3, 0)])] :
    List (Dev × Instr × List (Nat × Nat))).all (fun e => accepts e.1 e.2.1 e.2.2) = true := by decide +kernel

/-- Requests of the memory family that firmware accepts. -/
theorem test_accepts_memory : ([
    (laser1, .memStatus 0, []),
    (laser1, .scrubConfig 0, [(1, 168), (1, 30), (2, 0)]),
    (laser1, .memDiag 0, []),
    ({ live with mem := { live.mem with halted := 0x8000 } }, .dmaResume 0, [(1, 15), (3, 0)])] :
    List (Dev × Instr × List (Nat × Nat))).all (fun e => accepts e.1 e.2.1 e.2.2) = true := by decide +kernel

/-- Requests of the measure family that firmware accepts. -/
theorem test_accepts_measure : ([
    (laser1, .snapRead 0, []),
    (laser1, .snapQueueRead 0, [(2, 4033), (1, 63), (1, 1)]),
    (laser1, .ctrSelect 0, []),
    (laser1, .calConfig 0, [(1, 0), (1, 0), (1, 31), (1, 0), (2, 100), (2, 0)]),
    (laser1, .calRun 0, []),
    (laser1, .calStatus 0, []),
    (laser1, .calRead 0, [])] :
    List (Dev × Instr × List (Nat × Nat))).all (fun e => accepts e.1 e.2.1 e.2.2) = true := by decide +kernel

/-- Requests of the power family that firmware accepts. -/
theorem test_accepts_power : ([
    (laser1, .pwrState 0, [(1, 4), (3, 0)]),
    (laser1, .pwrDomain 0, []),
    (laser1, .pwrConfig 0, [(1,1),(1,0),(2,2000),(4,0)]),
    (laser1, .pwrStatus 0, [])] :
    List (Dev × Instr × List (Nat × Nat))).all (fun e => accepts e.1 e.2.1 e.2.2) = true := by decide +kernel

/-! ## Hypotheses that are met -/

/-- The Booleans of this file say what the statements' propositions say. -/
theorem landsB_iff (b : Nat) (w : RegWrite) (d : Dev) : landsB b w d = true ↔ HostLands b w d := by
  simp [landsB, HostLands, and_assoc]
theorem readB_iff (b : Nat) (who : Accessor) (d : Dev) : readB b who d = true ↔ ReadLands b who d := by simp [readB, ReadLands]
theorem askedB_iff (mb : Mailbox) (op : Nat) (b : List Byte) (d : Dev) : askedB mb op b d = true ↔ Asked mb op b d := by simp [askedB, Asked]

/-- An accepted request. -/
theorem witness_AcceptedRequestCompletes : ∃ r, request (.engTxConfig 0) = some r ∧
    Accepted r (asking 0x0201 (body [(1, 0), (1, 1), (1, 0), (1, 48), (16, 0)]) live) ∧
    (box (effectOf r (asking 0x0201 (body [(1, 0), (1, 1), (1, 0), (1, 48), (16, 0)]) live)) r.mailbox).releaseAtPost = false :=
  ⟨_, rfl, ⟨rfl, by decide +kernel, by decide +kernel⟩, by decide +kernel⟩
/-- A request refused for a field out of range, which changes nothing outside its answer. -/
theorem witness_RefusedRequestHasNoEffect : ∃ r, request (.engTxConfig 0) = some r ∧
    RefusedWith r { status := .badArg, reason := 9 } (asking 0x0201 (body [(1, 16), (1, 1), (1, 0), (1, 48), (16, 0)]) live) ∧
    r.service.refused { status := .badArg, reason := 9 } (requestBody r.mailbox (asking 0x0201 (body [(1, 16), (1, 1), (1, 0), (1, 48), (16, 0)]) live))
      (asking 0x0201 (body [(1, 16), (1, 1), (1, 0), (1, 48), (16, 0)]) live) = asking 0x0201 (body [(1, 16), (1, 1), (1, 0), (1, 48), (16, 0)]) live ∧
    (box (asking 0x0201 (body [(1, 16), (1, 1), (1, 0), (1, 48), (16, 0)]) live) r.mailbox).releaseAtPost = false :=
  ⟨_, rfl, ⟨rfl, by decide +kernel, by decide +kernel⟩, rfl, by decide +kernel⟩

/-- States and operands that meet the hypotheses of each clause of MailboxRegistersAndResetsFollowTheClaim. -/
theorem witness_MailboxRegistersAndResetsFollowTheClaim : ([
    (let mb : Mailbox := 7; let w : RegWrite := wr 1; let p : Port := .pcie;
     let s : State := { pending := [], dev := { live with mail.boxes := [(7, { cells := cellsFrom 0 ([3, 0] ++ le 2 0x0101 ++ le 4 7 ++ le 2 8) })] } };
     decide (writeLands w s.dev = true ∧ blockDown s.dev 1 = false ∧ w.value.getLsbD 0 = true ∧ portOf w.who = some p ∧
     (box s.dev mb).state = .idle ∧ headerVerdict (box s.dev mb) = none)),
    (let mb : Mailbox := 7; let w : RegWrite := { who := .smp, enables := 0xF, value := 1 }; let p : Port := .smp;
     let s : State := { pending := [], dev := { live with mail.boxes := [(7, { state := .done })] } }; decide (writeLands w s.dev = true ∧
     blockDown s.dev 1 = false ∧ w.value.getLsbD 0 = true ∧ portOf w.who = some p ∧ (box s.dev mb).state ≠ .idle)),
    (let w : RegWrite := wr 1; let p : Port := .pcie; let s : State := { pending := [], dev := live }; decide (writeLands w s.dev = true ∧
     blockDown s.dev 1 = false ∧ w.value.getLsbD 0 = true ∧ portOf w.who = some p)),
    (let s : State := { pending := [], dev := { live with mail.boxes := [(7, { state := .done, port := .smp })] } }; let mb : Mailbox := 7;
     decide ((box s.dev mb).state ≠ .idle ∧ (box s.dev mb).port = .smp)),
    (let s : State := { pending := [], dev := { live with mail.boxes := [(7, { state := .pending })], mail.order := [7] } };
     let mb : Mailbox := 7; decide ((box s.dev mb).state = .pending ∧ (box s.dev mb).port = .pcie)),
    (let s : State := { pending := [], dev := { live with mail.boxes := [(7, { state := .done })] } }; let mb : Mailbox := 7;
     decide ((box s.dev mb).state = .done ∧ (box s.dev mb).port = .pcie)),
    (let s : State := { pending := [], dev := live };
     decide (runs (exec .pcieReset { s with dev := { s.dev with pins := { s.dev.pins with perstLow := true } } }) = true ∧
     runs (exec (.perstN false) s) = true ∧ s.dev.pins.perstLow = false)),
    (let s : State := { pending := [], dev := { live with pins.perstLow := true } }; decide (s.dev.pins.perstLow = true))] : List Bool).all id = true := by decide +kernel

/-- States and operands that meet the hypotheses of each clause of RegisterWriteByOffsetIsItsRow. -/
theorem witness_RegisterWriteByOffsetIsItsRow : ([
    (let w : RegWrite := wr 1; decide (w.who ≠ .firmware))] : List Bool).all id = true := by decide +kernel

/-- States and operands that meet the hypotheses of each clause of MutingClosesTheGate. -/
theorem witness_MutingClosesTheGate : ([
    (let s : State := { pending := [], dev := { live with tx.engines := [(0, { state := .muted, mute := 0, laserLow := false, before := .running })] } };
     let n : Engine := 0; let m : Engine := 15; decide ((engTx s.dev n).state = .muted ∧ (engTx s.dev n).mute = 0 ∧ m ≠ n)),
    (let s : State := { pending := [], dev := { live with tx.engines := [(0, { state := .muted, mute := 0 })] } }; let n : Engine := 0;
     decide ((engTx s.dev n).state = .muted ∧ (engTx s.dev n).mute = 0 ∧ (engTx s.dev n).laserLow = true)),
    (let s : State := { pending := [], dev := { live with tx.engines := [(0, { state := .muted, mute := 0, laserLow := false, before := .running })] } };
     let n : Engine := 0; decide ((engTx s.dev n).state = .muted ∧ (engTx s.dev n).mute = 0 ∧ (engTx s.dev n).laserLow = false ∧
     (engTx s.dev n).before = .carrierOnly ∨ (engTx s.dev n).before = .running)),
    (let s : State := { pending := [], dev := { live with tx.engines := [(15, { state := .muted, mute := 0, laserLow := false, before := .biasAcq })] } };
     let n : Engine := 15; decide ((engTx s.dev n).state = .muted ∧ (engTx s.dev n).mute = 0 ∧ (engTx s.dev n).laserLow = false ∧
     (engTx s.dev n).before = .biasAcq ∨ (engTx s.dev n).before = .laserLow)),
    (let s : State := { pending := [], dev := live }; let n : Engine := 0;
     decide ((engTx s.dev n).state ≠ .muted ∨ (engTx s.dev n).mute ≠ 0))] : List Bool).all id = true := by decide +kernel

/-- States and operands that meet the hypotheses of each clause of BiasLoopEventsMoveOneOutput. -/
theorem witness_BiasLoopEventsMoveOneOutput : ([
    (let b : BiasOut := 0; let s : State := { pending := [], dev := live }; let x := biasOf s.dev b; decide (x.mode = .lock ∧
     (x.state = .locking ∨ x.state = .windowLimit) ∧ loopsRun s.dev b = true ∧
     (engTx s.dev (b / 6)).mute = 0 ∨ mutable (engTx s.dev (b / 6)).state = false)),
    (let b : BiasOut := 0;
     let s : State := { pending := [], dev := { live with tx.engines := [(0, { state := .biasAcq, mute := 0 })], tx.bias := (0, { state := .locking }) :: (List.range 5).map (fun i => (i + 1, { mode := .hold, state := .held })) } };
     let x := biasOf s.dev b; decide (x.mode = .lock ∧ (x.state = .locking ∨ x.state = .windowLimit) ∧ loopsRun s.dev b = true ∧
     (engTx s.dev (b / 6)).state = .biasAcq ∧ (engTx s.dev (b / 6)).mute = 0 ∧
     (∀ i ∈ List.range 6, 6 * (b.val / 6) + i ≠ b.val → biasReady (biasOf s.dev (6 * (b.val / 6) + i)) = true))),
    (let b : BiasOut := 5;
     let s : State := { pending := [], dev := { live with tx.engines := [(0, { state := .running })], tx.bias := [(5, { state := .locked })] } };
     let x := biasOf s.dev b; decide (x.state = .locked ∧ loopsRun s.dev b = true)),
    (let b : BiasOut := 0;
     let s : State := { pending := [], dev := { live with tx.engines := [(0, { state := .biasAcq, mute := 0 })], tx.bias := (0, { state := .locking }) :: (List.range 5).map (fun i => (i + 1, { mode := .hold, state := .held })) } };
     let x := biasOf s.dev b; decide (x.mode = .lock ∧ (x.state = .locking ∨ x.state = .locked) ∧ loopsRun s.dev b = true)),
    (let s : State := { pending := [], dev := { live with tx.engines := [(0, { state := .biasAcq, mute := 0 })], tx.bias := (0, { state := .locking }) :: (List.range 5).map (fun i => (i + 1, { mode := .hold, state := .held })) } };
     let n : Engine := 0; decide ((engTx s.dev n).state = .biasAcq))] : List Bool).all id = true := by decide +kernel

/-- States and operands that meet the hypotheses of each clause of ChosenEntropyIsTheLeastThatServes. -/
theorem witness_ChosenEntropyIsTheLeastThatServes : ([
    (let cls : Nat := 2; let profile : Nat := 2; let slots : Nat := 40; decide (cls ≤ 2 ∧ profile ≤ 2 ∧ 1 ≤ slots ∧ slots ≤ 40)),
    (let profile : Nat := 0; let slots : Nat := 0; decide (profile ≤ 2 ∧ slots ≤ 40))] : List Bool).all id = true := by decide +kernel

/-- States and operands that meet the hypotheses of each clause of PeakAboveTheCapIsRefusedLast. -/
theorem witness_PeakAboveTheCapIsRefusedLast : ([
    (let mb : Mailbox := 0;
     let s : State := { pending := [], dev := asking 0x0201 (body [(1, 0), (1, 1), (1, 0), (1, 49), (16, 0)]) live };
     decide (refusedB { mailbox := mb, service := engTxConfigService } (braked 1) s.dev = true ∧ (box s.dev mb).releaseAtPost = false))] : List Bool).all id = true := by decide +kernel

/-- States and operands that meet the hypotheses of each clause of AcquisitionMovesOneStageAtATime. -/
theorem witness_AcquisitionMovesOneStageAtATime : ([
    (let c : Coach := 0;
     let s : State := { pending := [], dev := { { live with tx.engines := [(0, { laserLow := false })], rx.engines := [(0, { los := false })], rx.coaches := [(0, { coachRxReset 0 with state := .waitLight, stored := some { time := 0, cd := 0, front := 0 } })] } with clock.frac := 2000000000 * 2 ^ 48 } };
     let d := s.dev; let x := coachRx d c; let n := engineOf c; let T := { time := 0, cd := 0, front := 0 }; decide (x.state = .waitLight ∧
     (engRx d n).los = false ∧ (engTx d n).laserLow = false ∧ (linkOf d (n / 4)).down = false ∧ engineOff d n = false ∧ x.stored = some T ∧
     nowNs d ≤ T.time + (engRx d n).warmHold * 1000000)),
    (let c : Coach := 0;
     let s : State := { pending := [], dev := { { live with tx.engines := [(0, { laserLow := false })], rx.engines := [(0, { los := false })], rx.coaches := [(0, { coachRxReset 0 with state := .waitLight, stored := some { time := 0, cd := 0, front := 0 } })] } with clock.frac := 2000000001 * 2 ^ 48 } };
     let d := s.dev; let x := coachRx d c; let n := engineOf c; let T := { time := 0, cd := 0, front := 0 }; decide (x.state = .waitLight ∧
     (engRx d n).los = false ∧ (engTx d n).laserLow = false ∧ (linkOf d (n / 4)).down = false ∧ engineOff d n = false ∧ x.stored = some T ∧
     T.time + (engRx d n).warmHold * 1000000 < nowNs d)),
    (let c : Coach := 0;
     let s : State := { pending := [], dev := { live with tx.engines := [(0, { laserLow := false })], rx.engines := [(0, { los := false })], rx.coaches := [(0, { coachRxReset 0 with state := .waitLight })] } };
     let d := s.dev; let x := coachRx d c; let n := engineOf c; decide (x.state = .waitLight ∧ (engRx d n).los = false ∧
     (engTx d n).laserLow = false ∧ (linkOf d (n / 4)).down = false ∧ engineOff d n = false ∧ x.stored = none)),
    (let c : Coach := 0; let s : State := { pending := [], dev := live }; let d := s.dev; let x := coachRx d c; let n := engineOf c;
     decide ((x.state ≠ .waitLight ∨ (engRx d n).los = true ∨ (engTx d n).laserLow = true))),
    (let c : Coach := 0; let best : Int := -500; let second : Int := 500;
     let s : State := { pending := [], dev := { { live with tx.engines := [(0, { laserLow := false })], rx.engines := [(0, { los := false })], rx.coaches := [(0, { coachRxReset 0 with state := .acqCd, window := (0, 2000) })] } with mem.everRan := true } };
     let d := s.dev; let x := coachRx d c; decide (x.state = .acqCd ∧ isCandidate d c best = true ∧ isCandidate d c second = true ∧
     best ≠ second)),
    (let c : Coach := 0;
     let s : State := { pending := [], dev := { { live with tx.engines := [(0, { laserLow := false })], rx.engines := [(0, { los := false })], rx.coaches := [(0, { coachRxReset 0 with state := .acqCd, window := (0, 2000) })] } with mem.everRan := true } };
     let d := s.dev; let x := coachRx d c; let m : Int := 4; let k : Int := 2000; decide (1 ≤ cdM d c ∧ -cdM d c ≤ m ∧ m ≤ cdM d c ∧
     x.window.2 * m = cdM d c * k)),
    (let c : Coach := 0; let best : Int := 0; let s : State := { pending := [], dev := live }; let d := s.dev;
     decide (isCandidate d c best = true)),
    (let c : Coach := 0; let s : State := { pending := [], dev := live }; let d := s.dev; let x := coachRx d c; decide (x.state ≠ .acqCd)),
    (let c : Coach := 0;
     let s : State := { pending := [], dev := { live with tx.engines := [(0, { laserLow := false })], rx.engines := [(0, { los := false })], rx.coaches := [(0, { coachRxReset 0 with state := .acqPol })] } };
     let d := s.dev; let x := coachRx d c; decide (x.state = .acqPol)),
    (let c : Coach := 0; let s : State := { pending := [], dev := live }; let d := s.dev; let x := coachRx d c; decide (x.state ≠ .acqPol)),
    (let c : Coach := 0;
     let s : State := { pending := [], dev := { live with tx.engines := [(0, { laserLow := false })], rx.engines := [(0, { los := false })], rx.coaches := [(0, { coachRxReset 0 with state := .acqPol })] } };
     let d := s.dev; let x := coachRx d c; decide ((x.state = .acqPol ∨ x.state = .acqCarrier))),
    (let c : Coach := 0;
     let s : State := { pending := [], dev := { live with tx.engines := [(0, { laserLow := false })], rx.engines := [(0, { los := false })], rx.coaches := [(0, { coachRxReset 0 with state := .acqCarrier })] } };
     let d := s.dev; let x := coachRx d c; decide (x.state = .acqCarrier)),
    (let c : Coach := 0; let s : State := { pending := [], dev := live }; let d := s.dev; let x := coachRx d c;
     decide (x.state ≠ .acqCarrier)),
    (let c : Coach := 0;
     let s : State := { pending := [], dev := { live with tx.engines := [(0, { laserLow := false })], rx.engines := [(0, { los := false })], rx.coaches := [(0, { coachRxReset 0 with state := .warm })] } };
     let d := s.dev; let x := coachRx d c; decide (x.state = .warm)),
    (let c : Coach := 0; let s : State := { pending := [], dev := live }; let d := s.dev; let x := coachRx d c; decide (x.state ≠ .warm)),
    (let c : Coach := 0;
     let s : State := { pending := [], dev := { live with tx.engines := [(0, { laserLow := false })], rx.engines := [(0, { los := false })], rx.coaches := [(0, { coachRxReset 0 with state := .cwHunt })] } };
     let d := s.dev; let x := coachRx d c; decide (x.state = .cwHunt ∧ x.cwFail = false)),
    (let c : Coach := 0;
     let s : State := { pending := [], dev := { live with tx.engines := [(0, { laserLow := false })], rx.engines := [(0, { los := false })], rx.coaches := [(0, { coachRxReset 0 with state := .cwHunt, cwFail := true })] } };
     let d := s.dev; let x := coachRx d c; decide (x.state = .cwHunt ∧ x.cwFail = true)),
    (let c : Coach := 0;
     let s : State := { pending := [], dev := { live with tx.engines := [(0, { laserLow := false })], rx.engines := [(0, { los := false })], rx.coaches := [(0, { coachRxReset 0 with state := .cwHunt })] } };
     let d := s.dev; let x := coachRx d c; decide ((x.state = .cwHunt ∨ x.state = .locked) ∧ x.state = .cwHunt)),
    (let c : Coach := 0;
     let s : State := { pending := [], dev := { live with tx.engines := [(0, { laserLow := false })], rx.engines := [(0, { los := false })], rx.coaches := [(0, { coachRxReset 0 with state := .cwHunt })] } };
     let d := s.dev; let x := coachRx d c; decide ((x.state = .cwHunt ∨ x.state = .locked) ∧ x.loc = false)),
    (let c : Coach := 0;
     let s : State := { pending := [], dev := { live with tx.engines := [(0, { laserLow := false })], rx.engines := [(0, { los := false })], rx.coaches := [(0, { coachRxReset 0 with state := .locked })] } };
     let d := s.dev; let x := coachRx d c; decide ((x.state = .cwHunt ∨ x.state = .locked) ∧ x.state = .locked)),
    (let c : Coach := 0; let s : State := { pending := [], dev := live }; let d := s.dev; let x := coachRx d c; decide (x.state ≠ .cwHunt ∧
     x.state ≠ .locked)),
    (let c : Coach := 0;
     let s : State := { pending := [], dev := { { live with tx.engines := [(0, { laserLow := false })], rx.engines := [(0, { los := false })], rx.coaches := [(0, { coachRxReset 0 with state := .locked })] } with frames.rx := [(0, { align := .hunt })] } };
     let d := s.dev; let x := coachRx d c; decide (x.state = .locked ∧ asleep d = false ∧ (frameRx d c).align = .hunt)),
    (let c : Coach := 0;
     let s : State := { pending := [], dev := { { live with tx.engines := [(0, { laserLow := false })], rx.engines := [(0, { los := false })], rx.coaches := [(0, { coachRxReset 0 with state := .locked, cwSeq := 77 })] } with frames.rx := [(0, { align := .sync, chg := some (12, 5, 77) })] } };
     let d := s.dev; let x := coachRx d c; let slots := 12; let a := 5; let q := 77; decide (x.state = .locked ∧ asleep d = false ∧
     (frameRx d c).chg = some (slots, a, q) ∧ (frameRx d c).chgApplied = false ∧ x.cwSeq = q)),
    (let c : Coach := 0; let s : State := { pending := [], dev := live }; let d := s.dev; let x := coachRx d c; decide (x.state ≠ .locked ∧
     x.state ≠ .cwHunt))] : List Bool).all id = true := by decide +kernel

/-- States and operands that meet the hypotheses of each clause of EngineConditionsSendCoachesBack. -/
theorem witness_EngineConditionsSendCoachesBack : ([
    (let n : Engine := 15; let s : State := { pending := [], dev := { live with rx.engines := [(15, { los := false })] } }; let d := s.dev;
     decide (engineOff d n = false ∧ (engRx d n).los = false)),
    (let n : Engine := 0; let s : State := { pending := [], dev := live }; let d := s.dev; decide (engineOff d n = false ∧
     (engRx d n).los = true)),
    (let n : Engine := 0;
     let s : State := { pending := [], dev := { live with tx.engines := [(0, { state := .running, laserLow := false })] } };
     let d := s.dev; decide (engineOff d n = false ∧ (engTx d n).laserLow = false ∧
     (engTx d n).state = .biasAcq ∨ (engTx d n).state = .carrierOnly ∨ (engTx d n).state = .running)),
    (let n : Engine := 0;
     let s : State := { pending := [], dev := { live with tx.engines := [(0, { state := .muted, laserLow := false })] } }; let d := s.dev;
     decide (engineOff d n = false ∧ (engTx d n).laserLow = false ∧
     (engTx d n).state = .disabled ∨ (engTx d n).state = .muted ∨ (engTx d n).state = .biasFail)),
    (let n : Engine := 15; let s : State := { pending := [], dev := { live with rx.engines := [(15, { los := false })] } }; let d := s.dev;
     let m : Engine := 0; decide (engineOff d n = false ∧ (engTx d n).laserLow = true ∧ m ≠ n)),
    (let n : Engine := 0; let s : State := { pending := [], dev := { live with tx.engines := [(0, { state := .laserLow, mute := 0 })] } };
     let d := s.dev; decide (engineOff d n = false ∧ (engTx d n).laserLow = true ∧ (engTx d n).state = .laserLow ∧ (engTx d n).mute = 0)),
    (let n : Engine := 0; let s : State := { pending := [], dev := live }; let d := s.dev; decide (engineOff d n = false ∧
     (engTx d n).laserLow = true ∧ (engTx d n).state = .disabled ∨ (engTx d n).state = .muted ∨ (engTx d n).state = .biasFail)),
    (let n : Engine := 0; let s : State := { pending := [], dev := { live with power.engineOn := 0xFFFE } }; let d := s.dev;
     decide (engineOff d n = true)),
    (let n : Engine := 0; let s : State := { pending := [], dev := live }; let d := s.dev; decide ((engRx d n).los = true)),
    (let n : Engine := 0; let s : State := { pending := [], dev := live }; let d := s.dev; decide ((engTx d n).laserLow = true)),
    (let n : Engine := 15; let k : Fin 15 := 14; let delta : Nat := 201;
     let s : State := { pending := [], dev := { live with rx.coaches := [(254, { coachRxReset 254 with state := .locked }), (255, { coachRxReset 255 with state := .locked })] } };
     let d := s.dev; let c := 16 * n.val + k.val; let e : Coach := 254; decide (e.val = c ∧ isLocked d c = true ∧
     isLocked d (c + 1) = true ∧ (if (engTx d n).rate = 0 then 200 else if (engTx d n).rate = 1 then 100 else 50) < delta ∧
     (coachRx d c).offsetWarn = false)),
    (let n : Engine := 15; let k : Fin 15 := 14;
     let s : State := { pending := [], dev := { live with rx.coaches := [(254, { coachRxReset 254 with state := .locked }), (255, { coachRxReset 255 with state := .locked })] } };
     let d := s.dev; let c := 16 * n.val + k.val; let e : Coach := 254; let j : Coach := 0; decide (e.val = c ∧ isLocked d c = true ∧
     isLocked d (c + 1) = true ∧ j.val ≠ c)),
    (let h : Hitch := 0; let g : Hitch := 7; decide (g ≠ h))] : List Bool).all id = true := by decide +kernel

/-- States and operands that meet the hypotheses of each clause of CodewordsPassThroughThePool. -/
theorem witness_CodewordsPassThroughThePool : ([
    (let c : Coach := 0;
     let f : CodewordFacts := { erased := false, llrs := { p0 := 0, p1 := 0, p2 := 0, p3 := 0, p4 := 0, p5 := 0 }, hard := [] };
     let s : State := { pending := [], dev := { live with tx.engines := [(0, { laserLow := false })], rx.engines := [(0, { los := false })], rx.coaches := [(0, { coachRxReset 0 with state := .locked })] } };
     let d := s.dev; decide (asleep d = false ∧ isLocked d c = true ∧ f.erased = false)),
    (let c : Coach := 0;
     let f : CodewordFacts := { erased := false, llrs := { p0 := 0, p1 := 0, p2 := 0, p3 := 0, p4 := 0, p5 := 0 }, hard := [] };
     let s : State := { pending := [], dev := { live with tx.engines := [(0, { laserLow := false })], rx.engines := [(0, { los := false })], rx.coaches := [(0, { coachRxReset 0 with state := .waitLight, cut := true })] } };
     let d := s.dev; let x := coachRx d c; decide (asleep d = false ∧ (isLocked d c = true ∧ f.erased = true ∨ isLocked d c = false ∧
     x.cut = true))),
    (let c : Coach := 0; let s : State := { pending := [], dev := live }; let d := s.dev; let x := coachRx d c;
     decide ((asleep d = true ∨ isLocked d c = false ∧ x.cut = false))),
    (let c : Coach := 0;
     let s : State := { pending := [], dev := { live with pool.cfg := { hopeless := 1 }, pool.cws := [{ cw0 with hard := [127], beads := 1 }] } };
     let d := s.dev; let w : PoolCw := { cw0 with hard := [127], beads := 1 }; let seq : Word := 5;
     let bad := unsatisfied w.profile (hardAfter w w.beads); decide (findFailed d c seq.toNat = some w ∧ (d.pool.cws.map (·.order)).Nodup ∧
     (d.pool.cfg.hopeless ≠ 0 ∧ d.pool.cfg.hopeless * (512 * blockRows w.profile) < 256 * bad))),
    (let c : Coach := 0;
     let s : State := { pending := [], dev := { live with pool.cfg := { hopeless := 0 }, pool.cws := [{ cw0 with cap := 4 }] } };
     let d := s.dev; let w : PoolCw := { cw0 with cap := 4 }; let seq : Word := 5; let bad := unsatisfied w.profile (hardAfter w w.beads);
     decide (findFailed d c seq.toNat = some w ∧ (d.pool.cws.map (·.order)).Nodup ∧ ¬ (d.pool.cfg.hopeless ≠ 0 ∧
     d.pool.cfg.hopeless * (512 * blockRows w.profile) < 256 * bad) ∧ w.cap = 4)),
    (let c : Coach := 0; let s : State := { pending := [], dev := { live with pool.cfg := { hopeless := 0 }, pool.cws := [cw0] } };
     let d := s.dev; let w : PoolCw := cw0; let seq : Word := 5; let bad := unsatisfied w.profile (hardAfter w w.beads);
     decide (findFailed d c seq.toNat = some w ∧ (d.pool.cws.map (·.order)).Nodup ∧ ¬ (d.pool.cfg.hopeless ≠ 0 ∧
     d.pool.cfg.hopeless * (512 * blockRows w.profile) < 256 * bad) ∧ w.cap ≠ 4 ∧ (collecting d).length < 1024)),
    (let c : Coach := 0; let s : State := { pending := [], dev := { live with pool.cws := [{ cw0 with state := .done 1 }] } };
     let d := s.dev; let w : PoolCw := { cw0 with state := .done 1 }; let o : Fin 3 := 1; decide (asleep d = false ∧
     d.pool.cws.find? (fun v => v.coach == c.val) = some w ∧ doneOutcome w = some o ∧ o = 1)),
    (let c : Coach := 0; let s : State := { pending := [], dev := { live with pool.cws := [{ cw0 with state := .done 2 }] } };
     let d := s.dev; let w : PoolCw := { cw0 with state := .done 2 }; let o : Fin 3 := 2; decide (asleep d = false ∧
     d.pool.cws.find? (fun v => v.coach == c.val) = some w ∧ doneOutcome w = some o ∧ o = 2)),
    (let c : Coach := 0; let s : State := { pending := [], dev := { live with pool.cws := [{ cw0 with state := .done 1 }] } };
     let d := s.dev; let w : PoolCw := { cw0 with state := .done 1 }; let o : Fin 3 := 1; decide (asleep d = false ∧
     d.pool.cws.find? (fun v => v.coach == c.val) = some w ∧ doneOutcome w = some o ∧ (frameRx d c).align = .off)),
    (let c : Coach := 0;
     let s : State := { pending := [], dev := { live with frames.rx := [(0, { align := .sync })], pool.cws := [{ cw0 with state := .done 2 }] } };
     let d := s.dev; let w : PoolCw := { cw0 with state := .done 2 }; let o : Fin 3 := 2; decide (asleep d = false ∧
     d.pool.cws.find? (fun v => v.coach == c.val) = some w ∧ doneOutcome w = some o ∧ (frameRx d c).align ≠ .off ∧ o = 2)),
    (let c : Coach := 0;
     let s : State := { pending := [], dev := { live with frames.rx := [(0, { align := .hunt })], pool.cws := [{ cw0 with state := .done 0 }] } };
     let d := s.dev; let w : PoolCw := { cw0 with state := .done 0 }; let o : Fin 3 := 0; decide (asleep d = false ∧
     d.pool.cws.find? (fun v => v.coach == c.val) = some w ∧ doneOutcome w = some o ∧ (frameRx d c).align ≠ .off ∧ o ≠ 2)),
    (let c : Coach := 0;
     let s : State := { pending := [], dev := { live with pool.cfg := { hopeless := 1 }, pool.cws := [{ cw0 with hard := [127], beads := 1 }] } };
     let d := s.dev; let w : PoolCw := { cw0 with hard := [127], beads := 1 };
     decide (d.pool.cws.find? (fun v => v.coach == c.val) = some w ∧ doneOutcome w = none))] : List Bool).all id = true := by decide +kernel

/-- States and operands that meet the hypotheses of each clause of EpochsSpendTheirBudgetInRankOrder. -/
theorem witness_EpochsSpendTheirBudgetInRankOrder : ([
    (let s : State := { pending := [], dev := live }; let d := s.dev; decide (asleep d = false ∧ d.pool.epochOn = false ∧
     d.pool.point ≤ d.pool.rail)),
    (let s : State := { pending := [], dev := { live with pool.epochOn := true } }; let d := s.dev;
     decide ((asleep d = true ∨ d.pool.epochOn = true))),
    (let late : Bool := true; let s : State := { pending := [], dev := { live with pool.epochOn := true } }; let d := s.dev;
     decide (asleep d = false ∧ d.pool.epochOn = true ∧ late = true ∧ (d.pool.cws.map (·.order)).Nodup)),
    (let s : State := { pending := [], dev := { live with pool.epochOn := true } }; let d := s.dev; decide (asleep d = false ∧
     d.pool.epochOn = true ∧ (d.pool.cws.map (·.order)).Nodup)),
    (let s : State := { pending := [], dev := { live with pool.epochOn := true } }; let d := s.dev; decide (asleep d = false ∧
     d.pool.epochOn = true ∧ d.pool.point ≤ 2)),
    (let s : State := { pending := [], dev := { live with pool.epochOn := true, pool.point := 3, pool.rail := 3 } }; let d := s.dev;
     decide (asleep d = false ∧ d.pool.epochOn = true ∧ 2 < d.pool.point)),
    (let s : State := { pending := [], dev := live }; let d := s.dev; decide (d.pool.epochOn = false)),
    (let s : State := { pending := [], dev := { live with power.surge := .requested, pool.quiet := 4000 } }; let d := s.dev;
     decide (d.pool.cfg.surgeMode = 1 ∧ d.power.surge ≠ .none ∧ 1000 * d.pool.cfg.hold ≤ d.pool.quiet)),
    (let s : State := { pending := [], dev := live }; let d := s.dev;
     decide ((d.pool.cfg.surgeMode ≠ 1 ∨ d.pool.quiet < 1000 * d.pool.cfg.hold)))] : List Bool).all id = true := by decide +kernel

/-- States and operands that meet the hypotheses of each clause of FramesAreSentFoundAndJudged. -/
theorem witness_FramesAreSentFoundAndJudged : ([
    (let c : Coach := 0; let s : State := { pending := [], dev := { launching with slots.txPage0 := [(29, 21)] } };
     let x := coachTx s.dev c; let y := frameTx s.dev c; decide ((asleep s.dev = false) ∧ x.framesRun = true ∧ x.atBoundary = none ∧
     swapsAt s.dev c y.next = false)),
    (let c : Coach := 0; let s : State := { pending := [], dev := live }; let x := coachTx s.dev c;
     decide ((x.framesRun = false ∨ asleep s.dev = true))),
    (let c : Coach := 0;
     let s : State := { pending := [], dev := { launching with tx.coaches := [(0, { coachTxReset 0 with cfg := { (coachTxReset 0).cfg with slots := 30 } })] } };
     let x := coachTx s.dev c; let y := frameTx s.dev c; decide (sending s.dev c = true ∧ x.framesRun = false ∧ y.sent.isSome = true)),
    (let c : Coach := 0;
     let s : State := { pending := [], dev := { launching with tx.coaches := [(0, { coachTxReset 0 with cfg := { (coachTxReset 0).cfg with slots := 30 } })] } };
     let x := coachTx s.dev c; decide (sending s.dev c = true ∧ x.framesRun = false ∧ (engineSwap s.dev (engineOf c)).armed = none)),
    (let c : Coach := 0; let s : State := { pending := [], dev := live }; let x := coachTx s.dev c;
     decide ((sending s.dev c = false ∨ x.framesRun = true))),
    (let c : Coach := 0;
     let s : State := { pending := [], dev := { launching with slots.txPage0 := [(29, 21)], brakes.secure := [(0, 32)] } };
     let leg : SlotPos := 29; let q : Nat := 5; let slots : List Nat := [29];
     decide ((nextLegs s.dev c).find? (fun l => l.2.head? == some leg.val) = some (q, slots) ∧ sending s.dev c = true ∧
     uncut s.dev c slots = true ∧ cutBlocked s.dev c q = true)),
    (let c : Coach := 0; let s : State := { pending := [], dev := { launching with slots.txPage0 := [(29, 21)] } };
     let leg : SlotPos := 29; let q : Nat := 5; let slots : List Nat := [29];
     decide ((nextLegs s.dev c).find? (fun l => l.2.head? == some leg.val) = some (q, slots) ∧ sending s.dev c = true ∧
     uncut s.dev c slots = true ∧ cutBlocked s.dev c q = false ∧ q < 4096 ∧ rawCsf s.dev q = true)),
    (let c : Coach := 0; let s : State := { pending := [], dev := { launching with slots.txPage0 := [(29, 21)], power.state := .sleep } };
     let leg : SlotPos := 29; let q : Nat := 5; let slots : List Nat := [29];
     decide ((nextLegs s.dev c).find? (fun l => l.2.head? == some leg.val) = some (q, slots) ∧
     (sending s.dev c = false ∨ uncut s.dev c slots = false))),
    (let c : Coach := 255;
     let s : State := { pending := [], dev := { live with frames.rx := [(255, { align := .hunt, inbox := [rel0] })] } };
     let r := frameRx s.dev c; let w : Released := rel0; let rest : List Released := []; let h := headerOf (headerBits sentHeader);
     decide ((asleep s.dev = false) ∧ r.inbox = w :: rest ∧ w.hChange = false ∧ w.resync = false ∧ r.align = .hunt ∧
     fitted (keptOf w) = some h)),
    (let c : Coach := 0;
     let s : State := { pending := [], dev := { live with frames.rx := [(0, { align := .hunt, inbox := [{ rel0 with outcome := 2 }, rel0] })] } };
     let r := frameRx s.dev c; let w : Released := { rel0 with outcome := 2 }; let rest : List Released := [rel0];
     decide ((asleep s.dev = false) ∧ r.inbox = w :: rest ∧ w.hChange = false ∧ w.resync = false ∧ r.align = .hunt ∧
     fitted (keptOf w) = none)),
    (let c : Coach := 0;
     let s : State := { pending := [], dev := { live with frames.rx := [(0, { align := .sync, inbox := [rel0], frame := some frame15 })] } };
     let r := frameRx s.dev c; let w : Released := rel0; let rest : List Released := []; let f : InFrame := frame15;
     let g := { f with words := f.words ++ [w] }; decide ((asleep s.dev = false) ∧ r.inbox = w :: rest ∧ w.hChange = false ∧
     w.resync = false ∧ r.align = .sync ∧ r.frame = some f ∧ decide (f.words.length < 16) = true ∧ f.delivered = true ∧
     (g.words.length == 16) = true)),
    (let c : Coach := 0; let s : State := { pending := [], dev := live }; let r := frameRx s.dev c;
     decide ((r.inbox = [] ∨ asleep s.dev = true))),
    (let c : Coach := 255;
     let s : State := { pending := [], dev := { live with frames.rx := [(255, { align := .hunt, inbox := [rel0] })] } };
     let r := frameRx s.dev c; decide ((asleep s.dev = false) ∧ r.align ≠ .off)),
    (let c : Coach := 0; let s : State := { pending := [], dev := live }; let r := frameRx s.dev c;
     decide ((asleep s.dev = true ∨ r.align = .off))),
    (let c : Coach := 0; let s : State := { pending := [], dev := { live with cipher.rx := [(0, { segs := [seg0] })] } };
     let g : Fin 4 := 0; let sg : Segment := seg0; let rest : List Segment := []; decide ((asleep s.dev = false) ∧
     (cipherRx s.dev c).segs = sg :: rest ∧ sg.g = g ∧ (verdictOf s.dev c sg).passed = true)),
    (let c : Coach := 0;
     let s : State := { pending := [], dev := { live with cipher.rx := [(0, { segs := [{ seg0 with g := 3, erased := 1 }] })] } };
     let g : Fin 4 := 3; let sg : Segment := { seg0 with g := 3, erased := 1 }; let rest : List Segment := [];
     decide ((asleep s.dev = false) ∧ (cipherRx s.dev c).segs = sg :: rest ∧ sg.g = g ∧ (verdictOf s.dev c sg).passed = false)),
    (let c : Coach := 0; let s : State := { pending := [], dev := { live with cipher.rx := [(0, { segs := [seg0] })] } };
     let g : Fin 4 := 1; let sg : Segment := seg0; let rest : List Segment := []; decide ((asleep s.dev = false) ∧
     (cipherRx s.dev c).segs = sg :: rest ∧ sg.g ≠ g)),
    (let c : Coach := 0; let s : State := { pending := [], dev := { live with slots.demap := [(0, [demap0])] } }; let leg : SlotPos := 0;
     let f : DemapFrame := demap0; let q : Nat := 5; let slots : List Nat := [0]; decide ((asleep s.dev = false) ∧
     legWaiting s.dev c leg = some (f, q, slots) ∧ (∃ b, readLeg f slots = .lost b))),
    (let c : Coach := 0; let s : State := { pending := [], dev := live }; let leg : SlotPos := 0; decide (legWaiting s.dev c leg = none))] : List Bool).all id = true := by decide +kernel

/-- States and operands that meet the hypotheses of each clause of SecondsBinsAndQueueWords. -/
theorem witness_SecondsBinsAndQueueWords : ([
    (let s : State := { pending := [], dev := { live with clock.frac := 1000000 * 2 ^ 48 } };
     let sampled := nowMs s.dev ≤ s.dev.defects.sampledMs; let c : Coach := 0; decide ((asleep s.dev = false) ∧ ¬ sampled ∧
     coachOff s.dev c = true)),
    (let s : State := { pending := [], dev := { live with clock.frac := 1000000 * 2 ^ 48, rx.engines := [(15, { enable := true })], rx.coaches := [(255, { coachRxReset 255 with enable := true, state := .waitLight })] } };
     let sampled := nowMs s.dev ≤ s.dev.defects.sampledMs; let c : Coach := 255; let i : Nat := 9;
     let f := defectOf (coachEntity s.dev c) i; decide ((asleep s.dev = false) ∧ ¬ sampled ∧ coachOff s.dev c = false ∧ f.declared = false)),
    (let s : State := { pending := [], dev := { live with clock.frac := 1000000 * 2 ^ 48, rx.engines := [(0, { enable := true })], rx.coaches := [(0, { coachRxReset 0 with enable := true, state := .locked })], defects.coaches := [(0, { defects := [(8, { declared := true, clears := 9999 })] })] } };
     let sampled := nowMs s.dev ≤ s.dev.defects.sampledMs; let c : Coach := 0; let i : Nat := 8; let f := defectOf (coachEntity s.dev c) i;
     let set := rawCoach s.dev c i || f.seen; decide ((asleep s.dev = false) ∧ ¬ sampled ∧ coachOff s.dev c = false ∧ f.declared = true ∧
     set = false ∧ f.clearTime ≤ sat 10000 (f.clears + 1))),
    (let s : State := { pending := [], dev := live }; let sampled := nowMs s.dev ≤ s.dev.defects.sampledMs;
     decide ((asleep s.dev = true ∨ sampled))),
    (let s : State := { pending := [], dev := { live with clock.frac := 1000000000 * 2 ^ 48, defects.sampledMs := 1000 } };
     let sampled := nowMs s.dev ≤ s.dev.defects.sampledMs; let ended := nowSec s.dev ≤ s.dev.defects.endedSec; let c : Coach := 0;
     let x := coachEntity s.dev c; decide ((asleep s.dev = false) ∧ ¬ ended ∧ sampled ∧ s.dev.defects.cleared = true ∧
     (x.absent = true ∨ coachOff s.dev c = true))),
    (let s : State := { pending := [], dev := { live with clock.frac := 1000000000 * 2 ^ 48, defects.sampledMs := 1000, rx.engines := [(0, { enable := true })], rx.coaches := [(0, { coachRxReset 0 with enable := true, state := .locked })], defects.coaches := [(0, { absent := false, pending := List.replicate 9 { es := false, ses := false, bbe := 0, feEs := false, feSes := false, feBbe := 0 } })] } };
     let sampled := nowMs s.dev ≤ s.dev.defects.sampledMs; let ended := nowSec s.dev ≤ s.dev.defects.endedSec; let c : Coach := 0;
     let x := coachEntity s.dev c; decide ((asleep s.dev = false) ∧ ¬ ended ∧ sampled ∧ s.dev.defects.cleared = true ∧ x.absent = false ∧
     coachOff s.dev c = false ∧ x.pending.length ≤ 9)),
    (let s : State := { pending := [], dev := { live with clock.frac := 1000000000 * 2 ^ 48, defects.sampledMs := 1000, rx.engines := [(0, { enable := true })], rx.coaches := [(0, { coachRxReset 0 with enable := true, state := .locked })], defects.coaches := [(0, { absent := false, pending := List.replicate 10 { es := false, ses := false, bbe := 0, feEs := false, feSes := false, feBbe := 0 } })] } };
     let sampled := nowMs s.dev ≤ s.dev.defects.sampledMs; let ended := nowSec s.dev ≤ s.dev.defects.endedSec; let c : Coach := 0;
     let x := coachEntity s.dev c; decide ((asleep s.dev = false) ∧ ¬ ended ∧ sampled ∧ s.dev.defects.cleared = true ∧ x.absent = false ∧
     coachOff s.dev c = false ∧ x.pending.length = 10)),
    (let s : State := { pending := [], dev := live }; let ended := nowSec s.dev ≤ s.dev.defects.endedSec;
     decide ((asleep s.dev = true ∨ ended))),
    (let s : State := { pending := [], dev := live }; let rollDue := s.dev.defects.rolledQuarter < nowNs s.dev / quarterNs;
     decide (¬ rollDue)),
    (let s : State := { pending := [], dev := { live with clock.frac := 900000000000 * 2 ^ 48, defects.sampledMs := 900000, defects.endedSec := 900 } };
     let sampled := nowMs s.dev ≤ s.dev.defects.sampledMs; let ended := nowSec s.dev ≤ s.dev.defects.endedSec;
     let rollDue := s.dev.defects.rolledQuarter < nowNs s.dev / quarterNs;
     let day := nowNs s.dev / quarterNs % 96 == s.dev.defects.dayStartNext; decide ((asleep s.dev = false) ∧ rollDue ∧ sampled ∧ ended ∧
     s.dev.defects.cleared = true ∧ day = false)),
    (let s : State := { pending := [], dev := { live with clock.frac := 900000000000 * 2 ^ 48, defects.sampledMs := 900000, defects.endedSec := 900, defects.dayStartNext := 1 } };
     let sampled := nowMs s.dev ≤ s.dev.defects.sampledMs; let ended := nowSec s.dev ≤ s.dev.defects.endedSec;
     let rollDue := s.dev.defects.rolledQuarter < nowNs s.dev / quarterNs;
     let day := nowNs s.dev / quarterNs % 96 == s.dev.defects.dayStartNext; decide ((asleep s.dev = false) ∧ rollDue ∧ sampled ∧ ended ∧
     s.dev.defects.cleared = true ∧ day = true)),
    (let s : State := { pending := [], dev := { live with clock.frac := 900000000000 * 2 ^ 48, defects.sampledMs := 900000, defects.endedSec := 900 } };
     let sampled := nowMs s.dev ≤ s.dev.defects.sampledMs; let ended := nowSec s.dev ≤ s.dev.defects.endedSec;
     let rollDue := s.dev.defects.rolledQuarter < nowNs s.dev / quarterNs; decide ((asleep s.dev = false) ∧ rollDue ∧ sampled ∧ ended ∧
     s.dev.defects.cleared = true)),
    (let s : State := { pending := [], dev := { live with clients.groups := [(126, slp0)] } }; let q : Queue := 5;
     let unit : List QWord := List.replicate 32 0; let j : Queue := 4095; decide (unitOk s.dev q unit = true ∧ (asleep s.dev = false) ∧
     j ≠ q)),
    (let s : State := { pending := [], dev := { live with clients.groups := [(126, slp0)] } }; let q : Queue := 5;
     let unit : List QWord := List.replicate 32 0; let x := txQueue s.dev q; let sp := spills s.dev x.cfg;
     let room := roomFor s.dev x.cfg (txStore x) (unit.foldl (pushWord x.cfg sp) (txStore x)); decide (unitOk s.dev q unit = true ∧
     (asleep s.dev = false) ∧ room = false)),
    (let s : State := { pending := [], dev := { live with clients.groups := [(126, slp0)], slots.tx := [(5, { cfg := { pages := 1, max := 32 } })] } };
     let q : Queue := 5; let unit : List QWord := List.replicate 32 0; let x := txQueue s.dev q; let sp := spills s.dev x.cfg;
     let room := roomFor s.dev x.cfg (txStore x) (unit.foldl (pushWord x.cfg sp) (txStore x)); decide (unitOk s.dev q unit = true ∧
     (asleep s.dev = false) ∧ room = true)),
    (let s : State := { pending := [], dev := { live with clients.groups := [(126, slp0)] } }; let q : Queue := 5;
     let unit : List QWord := List.replicate 32 0; let x := txQueue s.dev q; decide (x.cfg.max < (txStore x).total + unit.length)),
    (let s : State := { pending := [], dev := live }; let q : Queue := 0; let unit : List QWord := []; let x := txQueue s.dev q;
     let sp := spills s.dev x.cfg; decide (sp = false ∧ x.spill = [] ∧ x.late = [] ∧ x.depot.length + unit.length ≤ x.cfg.max ∧
     x.depot.length + unit.length ≤ 512 * x.cfg.pages ∧ spillUsed s.dev ≤ spillPages s.dev)),
    (let s : State := { pending := [], dev := live }; let q : Queue := 0; let unit : List QWord := [];
     decide ((unitOk s.dev q unit = false ∨ asleep s.dev = true))),
    (let s : State := { pending := [], dev := { live with clients.groups := [(0, eth0)], slots.tx := [(5, { backpressure := true })] } };
     let q : Queue := 5; let y := txQueue s.dev q; let l : Nat := 0; decide (y.backpressure = true ∧ groupOf s.dev q = some l ∧
     (group s.dev l).protocol = 1 ∧ (asleep s.dev = false))),
    (let s : State := { pending := [], dev := live }; let q : Queue := 0; let y := txQueue s.dev q;
     decide ((y.backpressure = false ∨ ethQueue s.dev q = false ∨ asleep s.dev = true))),
    (let s : State := { pending := [], dev := { live with clock.frac := 1000000000 * 2 ^ 48, slots.rx := [(4095, { expected := some 3, runs := [{ offset := 10, words := [], at_ := 0 }] })] } };
     let q : Queue := 4095; let x := rxQueue s.dev q; let e : Nat := 3; let j : Queue := 0; decide ((asleep s.dev = false) ∧
     twinOf s.dev true q = none ∧ x.expected = some e ∧ x.runs.any (hasWaited s.dev q) = true ∧ j ≠ q)),
    (let s : State := { pending := [], dev := { live with clock.frac := 1000000000 * 2 ^ 48, slots.rx := [(4095, { expected := some 3, runs := [{ offset := 10, words := [], at_ := 0 }] })] } };
     let q : Queue := 4095; let x := rxQueue s.dev q; let e : Nat := 3; let r : Run := { offset := 10, words := [], at_ := 0 };
     decide ((asleep s.dev = false) ∧ twinOf s.dev true q = none ∧ x.expected = some e ∧ x.runs.any (hasWaited s.dev q) = true ∧
     x.runs = [r] ∧ r.offset < 2 ^ 32)),
    (let s : State := { pending := [], dev := live }; let q : Queue := 0; let x := rxQueue s.dev q;
     decide ((asleep s.dev = true ∨ (twinOf s.dev true q = none ∧ (x.expected = none ∨ x.runs.any (hasWaited s.dev q) = false)))))] : List Bool).all id = true := by decide +kernel

/-- States and operands that meet the hypotheses of each clause of LanesNegotiateOneStepAtATime. -/
theorem witness_LanesNegotiateOneStepAtATime : ([
    (let l : Lane := 127;
     let s : State := { pending := [], dev := { live with clients.groups := [(126, slp0)], clients.lanes := [(127, { state := .adapt, commas := 2 })] } };
     let x := laneOf s.dev l; let comma (b : LaneBlock) : Bool := bitsFrom (uninvert x.rxInvert b) 0 132 == commaBits; let f : Nat := 126;
     let b : LaneBlock := boolsToBits 132 commaBits; decide (slpLink s.dev l = some f ∧ (x.state = .trainLow ∨ x.state = .adapt) ∧
     x.commas = 2 ∧ comma b = true)),
    (let l : Lane := 127;
     let s : State := { pending := [], dev := { live with clients.groups := [(126, slp0)], clients.lanes := [(127, { state := .up, commaLock := true, missed := 1 })] } };
     let x := laneOf s.dev l; let comma (b : LaneBlock) : Bool := bitsFrom (uninvert x.rxInvert b) 0 132 == commaBits; let f : Nat := 126;
     let b : LaneBlock := 0; decide (slpLink s.dev l = some f ∧ x.state = .up ∧ x.commaLock = true ∧ x.missed < 2 ∧ comma b = false)),
    (let l : Lane := 127;
     let s : State := { pending := [], dev := { live with clients.groups := [(126, slp0)], clients.lanes := [(127, { state := .up, commaLock := true, missed := 2 })] } };
     let x := laneOf s.dev l; let comma (b : LaneBlock) : Bool := bitsFrom (uninvert x.rxInvert b) 0 132 == commaBits; let f : Nat := 126;
     let g := group s.dev f; let b : LaneBlock := 0; decide (slpLink s.dev l = some f ∧ x.state = .up ∧ x.commaLock = true ∧ 2 ≤ x.missed ∧
     g.up = true ∧ comma b = false)),
    (let l : Lane := 126;
     let s : State := { pending := [], dev := { live with clients.groups := [(126, slp0)], clients.lanes := [(126, { state := .ready, commaLock := true })] } };
     let x := laneOf s.dev l; let word (b : LaneBlock) : Option QWord := trainWord (uninvert x.rxInvert b); let f : Nat := 126;
     let b : LaneBlock := 0; decide (slpLink s.dev l = some f ∧ isTraining x.state = true ∧ x.commaLock = true ∧
     (word b).all (fun w => !wordValid w) = true)),
    (let l : Lane := 126;
     let s : State := { pending := [], dev := { live with clients.groups := [(126, slp0)], clients.lanes := [(126, { state := .trainLow, commaLock := true, eyeRun := 100, valid := 15 })] } };
     let x := laneOf s.dev l; let word (b : LaneBlock) : Option QWord := trainWord (uninvert x.rxInvert b); let f : Nat := 126;
     let b : LaneBlock := boolsToBits 132 (trainBits word0); let w : QWord := word0; decide (slpLink s.dev l = some f ∧
     x.state = .trainLow ∧ x.commaLock = true ∧ 100 ≤ x.eyeRun ∧ 15 ≤ x.valid ∧ word b = some w ∧ wordValid w = true ∧
     (∃ j ∈ lanesOf s.dev f, j ≠ l ∧ (laneOf s.dev j).state ≠ .settle))),
    (let l : Lane := 126;
     let s : State := { pending := [], dev := { live with clients.groups := [(126, slp0)], clients.lanes := [(126, { state := .trainLow, commaLock := true, eyeRun := 100, valid := 15 }), (127, { state := .settle })] } };
     let x := laneOf s.dev l; let word (b : LaneBlock) : Option QWord := trainWord (uninvert x.rxInvert b); let f : Nat := 126;
     let b : LaneBlock := boolsToBits 132 (trainBits word0); let w : QWord := word0; decide (slpLink s.dev l = some f ∧
     x.state = .trainLow ∧ x.commaLock = true ∧ 100 ≤ x.eyeRun ∧ 15 ≤ x.valid ∧ word b = some w ∧ wordValid w = true ∧
     (∀ j ∈ lanesOf s.dev f, j ≠ l → (laneOf s.dev j).state = .settle))),
    (let l : Lane := 127;
     let s : State := { pending := [], dev := { live with clients.groups := [(126, slp0)], clients.lanes := [(127, { state := .adapt, commas := 2 })] } };
     let x := laneOf s.dev l; let f : Nat := 126; decide (slpLink s.dev l = some f ∧ (isTraining x.state = false ∨ x.commaLock = false))),
    (let l : Lane := 126;
     let s : State := { pending := [], dev := { live with clients.groups := [(126, slp0)], clients.lanes := [(126, { state := .trainLow, commaLock := true, eyeRun := 100, valid := 15 })] } };
     let x := laneOf s.dev l; let f : Nat := 126; decide (slpLink s.dev l = some f ∧ (x.state = .trainLow ∨ x.state = .settle))),
    (let l : Lane := 127;
     let s : State := { pending := [], dev := { live with clients.groups := [(126, slp0)], clients.lanes := [(127, { state := .adapt, commas := 2 })] } };
     let x := laneOf s.dev l; let f : Nat := 126; decide (slpLink s.dev l = some f ∧ x.state ≠ .trainLow ∧ x.state ≠ .settle)),
    (let l : Lane := 127;
     let s : State := { pending := [], dev := { live with clients.groups := [(126, slp0)], clients.lanes := [(127, { state := .adapt, commas := 2 })] } };
     let x := laneOf s.dev l; let f : Nat := 126; decide (slpLink s.dev l = some f ∧ x.state = .adapt)),
    (let l : Lane := 126;
     let s : State := { pending := [], dev := { live with clients.groups := [(126, slp0)], clients.lanes := [(126, { state := .ready, commaLock := true })] } };
     let x := laneOf s.dev l; let f : Nat := 126; decide (slpLink s.dev l = some f ∧ x.state ≠ .adapt)),
    (let l : Lane := 0; let s : State := { pending := [], dev := live }; decide (slpLink s.dev l = none)),
    (let l : Lane := 0; let s : State := { pending := [], dev := live }; decide (laneRuns s.dev l = true)),
    (let l : Lane := 127; let s : State := { pending := [], dev := { live with power.clientOn := 1 } }; decide (laneRuns s.dev l = false))] : List Bool).all id = true := by decide +kernel

/-- States and operands that meet the hypotheses of each clause of CellsAndFramesCrossTheClientSide. -/
theorem witness_CellsAndFramesCrossTheClientSide : ([
    (let s : State := { pending := [], dev := { live with clients.lanes := [(127, { state := .up })] } }; let l : Lane := 127;
     decide (laneRuns s.dev l = true ∧ (laneOf s.dev l).state = .up)),
    (let s : State := { pending := [], dev := live }; let l : Lane := 0; decide ((laneRuns s.dev l = false ∨ (laneOf s.dev l).state ≠ .up))),
    (let c : CellFacts := { bytes := [], uncorrectable := false }; decide (c.bytes.length ≠ 260)),
    (let s : State := { pending := [], dev := live }; let l : Lane := 0;
     let c : CellFacts := { bytes := zeros 260, uncorrectable := false }; decide (c.bytes.length = 260 ∧
     (∀ f : Nat, groupAt s.dev l = some f → slpUp s.dev f = false))),
    (let s : State := { pending := [], dev := { live with clients.groups := [(126, slp0)] } }; let f : Nat := 126; let l : Lane := 127;
     let c : CellFacts := { bytes := zeros 260, uncorrectable := false }; let bs := c.bytes; let g := group s.dev f;
     let due := cellLane g f g.cellsIn; decide (bs.length = 260 ∧ groupAt s.dev l = some f ∧ slpUp s.dev f = true ∧
     (laneOf s.dev due).inbox = [] ∧ l.val ≠ due)),
    (let s : State := { pending := [], dev := { live with clients.groups := [(126, slp0)] } }; let f : Nat := 126; let l : Lane := 126;
     let c : CellFacts := { bytes := zeros 260, uncorrectable := false }; let bs := c.bytes; let g := group s.dev f;
     let due := cellLane g f g.cellsIn; decide (bs.length = 260 ∧ groupAt s.dev l = some f ∧ slpUp s.dev f = true ∧
     (laneOf s.dev due).inbox = [] ∧ l.val = due ∧ (∀ j ∈ lanesOf s.dev f, (laneOf s.dev j).inbox = []))),
    (let s : State := { pending := [], dev := { live with clients.groups := [(126, slp0)], clients.channels := [(5, { limit := 1 })], slots.rx := [(5, { depot := (List.range 32).map (fun i => { no := i, value := some 0 }) })] } };
     let q : Queue := 5; let x := rxQueue s.dev q; let y := channelOf s.dev q; let f : Nat := 126; let n : Nat := 0;
     decide (slpOut s.dev q = some f ∧ egressFill s.dev q = 0 ∧ x.spill = [] ∧ x.late = [] ∧
     (x.depot.take 32).map (·.no) = (List.range 32).map (32 * n + ·) ∧ creditLeft y = true)),
    (let s : State := { pending := [], dev := { live with clients.groups := [(126, slp0)], slots.rx := [(5, { depot := (List.range 32).map (fun i => { no := i, value := some 0 }) })] } };
     let q : Queue := 5; let x := rxQueue s.dev q; let y := channelOf s.dev q; let f : Nat := 126; let n : Nat := 0;
     decide (slpOut s.dev q = some f ∧ egressFill s.dev q = 0 ∧ x.spill = [] ∧ x.late = [] ∧
     (x.depot.take 32).map (·.no) = (List.range 32).map (32 * n + ·) ∧ creditLeft y = false)),
    (let s : State := { pending := [], dev := live }; let q : Queue := 0; decide ((slpOut s.dev q = none ∨ egressFill s.dev q ≠ 0))),
    (let s : State := { pending := [], dev := { live with clients.groups := [(126, slp0)], slots.rx := [(5, { fillKind := 1 })] } };
     let q : Queue := 5; let f : Nat := 126; decide (slpOut s.dev q = some f ∧ egressFill s.dev q ≠ 0)),
    (let s : State := { pending := [], dev := live }; let q : Queue := 0; decide ((slpOut s.dev q = none ∨ egressFill s.dev q = 0))),
    (let s : State := { pending := [], dev := { live with clients.groups := [(126, slp0)], clients.channels := [(5, { traffic := true })] } };
     let l : Lane := 126; let qs := sentDue s.dev l; decide (slpUp s.dev l = true ∧ qs ≠ [])),
    (let s : State := { pending := [], dev := live }; let l : Lane := 0; let qs := sentDue s.dev l;
     decide ((slpUp s.dev l = false ∨ qs = []))),
    (let s : State := { pending := [], dev := { live with clients.groups := [(0, eth0)] } }; let l : Lane := 0;
     decide (ethUp s.dev l = true)),
    (let s : State := { pending := [], dev := live }; let l : Lane := 0; decide (ethUp s.dev l = false)),
    (let s : State := { pending := [], dev := { live with clients.groups := [(0, eth0)], slots.rx := [(5, { fillKind := 2 })] } };
     let q : Queue := 5; let f : Nat := 0; decide (groupOf s.dev q = some f ∧ ethUp s.dev f = true ∧ toLine s.dev q = false ∧
     egressFill s.dev q ≠ 0)),
    (let s : State := { pending := [], dev := { live with clients.groups := [(0, eth0)], slots.rx := [(5, { haltUntil := 1 })] } };
     let out (t : State) (l : Nat) : ClientOut := tabGet (fun _ => .idle) t.dev.clients.lastOut l; let q : Queue := 5; let f : Nat := 0;
     let x := rxQueue s.dev q; decide (groupOf s.dev q = some f ∧ ethUp s.dev f = true ∧ toLine s.dev q = false ∧ egressFill s.dev q = 0 ∧
     out s f ≠ .localFault ∧ nowNs s.dev < x.haltUntil)),
    (let s : State := { pending := [], dev := { live with clients.groups := [(0, eth0)], slots.rx := [(5, { hunting := false, depot := [{ no := 0, value := some (descriptor 64 false) }] })] } };
     let out (t : State) (l : Nat) : ClientOut := tabGet (fun _ => .idle) t.dev.clients.lastOut l; let q : Queue := 5; let f : Nat := 0;
     let x := rxQueue s.dev q; let w : RxWord := ({ no := 0, value := some (descriptor 64 false) } : RxWord);
     let v : QWord := descriptor 64 false; let ws : List RxWord := []; let n := 1 + ceilDiv (dLength v) 8;
     decide (groupOf s.dev q = some f ∧ ethUp s.dev f = true ∧ toLine s.dev q = false ∧ egressFill s.dev q = 0 ∧
     x.haltUntil ≤ nowNs s.dev ∧ x.hunting = false ∧ x.spill = [] ∧ x.late = [] ∧ out s f ≠ .localFault ∧ x.depot = w :: ws ∧
     w.value = some v ∧ descriptorOk (group s.dev f).maxFrame v = true ∧ x.depot.length < n)),
    (let s : State := { pending := [], dev := { live with clients.groups := [(0, eth0)], slots.rx := [(5, { hunting := false, depot := { no := 0, value := some (descriptor 64 false) } :: List.replicate 8 { no := 1, value := some 0 } })] } };
     let out (t : State) (l : Nat) : ClientOut := tabGet (fun _ => .idle) t.dev.clients.lastOut l; let q : Queue := 5; let f : Nat := 0;
     let x := rxQueue s.dev q; let w : RxWord := ({ no := 0, value := some (descriptor 64 false) } : RxWord);
     let v : QWord := descriptor 64 false; let ws : List RxWord := List.replicate 8 ({ no := 1, value := some 0 } : RxWord);
     let n := 1 + ceilDiv (dLength v) 8; decide (groupOf s.dev q = some f ∧ ethUp s.dev f = true ∧ toLine s.dev q = false ∧
     egressFill s.dev q = 0 ∧ x.haltUntil ≤ nowNs s.dev ∧ x.hunting = false ∧ x.spill = [] ∧ x.late = [] ∧ out s f ≠ .localFault ∧
     x.depot = w :: ws ∧ w.value = some v ∧ descriptorOk (group s.dev f).maxFrame v = true ∧ n ≤ x.depot.length)),
    (let s : State := { pending := [], dev := { live with clients.groups := [(0, eth0)] } }; let l : Lane := 0; let g := group s.dev l;
     decide (g.protocol = 1 ∧ g.enable = true ∧ laneRuns s.dev l = true)),
    (let s : State := { pending := [], dev := live }; let l : Lane := 0; let g := group s.dev l;
     decide ((g.protocol ≠ 1 ∨ g.enable = false ∨ laneRuns s.dev l = false)))] : List Bool).all id = true := by decide +kernel

/-- States and operands that meet the hypotheses of each clause of BrakeWritesAreHeldToTheirLimits. -/
theorem witness_BrakeWritesAreHeldToTheirLimits : ([
    (let w : RegWrite := { who := .firmware, enables := 0xF, value := 1 }; decide (w.who = .firmware)),
    (let w : RegWrite := wr 1; let s : State := { pending := [], dev := live }; let n : Engine := 0; let d := s.dev; let m : Engine := 15;
     decide (landsB 1 w d = true ∧ m ≠ n)),
    (let w : RegWrite := wr 1; let s : State := { pending := [], dev := live }; let b : BiasOut := 0; let d := s.dev;
     let m : BiasOut := 15; decide (landsB 1 w d = true ∧ m ≠ b))] : List Bool).all id = true := by decide +kernel

/-- States and operands that meet the hypotheses of each clause of BrakesActOnTheDeviceAtOnce. -/
theorem witness_BrakesActOnTheDeviceAtOnce : ([
    (let w : RegWrite := wr 1; let s : State := { pending := [], dev := live }; let n : Engine := 0; let d := s.dev; let m : Engine := 15;
     decide (landsB 1 w d = true ∧ m ≠ n)),
    (let w : RegWrite := wr 1; let s : State := { pending := [], dev := live }; let d := s.dev; decide (landsB 1 w d = true ∧
     locked d 4 = false)),
    (let w : RegWrite := wr 1; let s : State := { pending := [], dev := live }; let b : BiasOut := 0; let d := s.dev;
     decide (landsB 1 w d = true ∧ (biasOf d b).state = .off ∨ locked d 1 = true)),
    (let w : RegWrite := wr 1; let s : State := { pending := [], dev := live }; let b : BiasOut := 0; let d := s.dev;
     let m : BiasOut := 15; decide (landsB 1 w d = true ∧ (engTx d (b / 6)).mute = 0 ∨ mutable (engTx d (b / 6)).state = false ∧ m ≠ b)),
    (let w : RegWrite := wr 0x00010001; let s : State := { pending := [], dev := { live with tx.bias := [(95, { state := .locked })] } };
     let b : BiasOut := 95; let d := s.dev; decide (landsB 1 w d = true ∧ locked d 1 = false ∧
     w.value.toNat % 65536 ≤ w.value.toNat / 65536 ∧ (biasOf d b).state ≠ .off)),
    (let w : RegWrite := wr 1; let s : State := { pending := [], dev := live }; let k : Fin 128 := 0; let d := s.dev;
     let q : Queue := 4095; decide (landsB 1 w d = true ∧ q.val / 32 ≠ k.val)),
    (let w : RegWrite := wr 1; let s : State := { pending := [], dev := { live with brakes.lock := 4 } }; let d := s.dev;
     decide (landsB 1 w d = true ∧ locked d 2 = true)),
    (let w : RegWrite := wr 1; let s : State := { pending := [], dev := live }; let k : Fin 128 := 0; let d := s.dev; let q : Queue := 0;
     decide (landsB 1 w d = true ∧ locked d 2 = false ∧ q.val / 32 = k.val)),
    (let w : RegWrite := wr 1; let s : State := { pending := [], dev := { live with slots.txPage0 := [(0, 1)] } }; let k : Fin 128 := 0;
     let d := s.dev; let fresh := onlySecure k (w.value &&& ~~~ tabGet (fun _ => 0) d.brakes.secure k) d; decide (landsB 1 w d = true ∧
     locked d 2 = false ∧ (cipherOkTx fresh (judgedTx fresh 0) && cipherOkRx fresh (judgedRx fresh (fun _ => false))) = false)),
    (let w : RegWrite := wr 1; let s : State := { pending := [], dev := { live with brakes.lock := 64 } }; let d := s.dev;
     decide (landsB 1 w d = true ∧ locked d 6 = true)),
    (let w : RegWrite := wr 1; let s : State := { pending := [], dev := live }; let d := s.dev; decide (landsB 1 w d = true ∧
     locked d 6 = false ∧ w.value.getLsbD 0 = true)),
    (let w : RegWrite := wr 0; let s : State := { pending := [], dev := live }; let d := s.dev; decide (landsB 1 w d = true ∧
     locked d 6 = false ∧ w.value.getLsbD 0 = false))] : List Bool).all id = true := by decide +kernel

/-- States and operands that meet the hypotheses of each clause of ZeroisationErasesEveryKey. -/
theorem witness_ZeroisationErasesEveryKey : ([
    (let s : State := { pending := [], dev := live }; decide (s.dev.power.state ≠ .off)),
    (let s : State := { pending := [], dev := { live with power.state := .off } }; decide (s.dev.power.state = .off))] : List Bool).all id = true := by decide +kernel

set_option maxRecDepth 100000 in
/-- States and operands that meet the hypotheses of each clause of AgreementsStartEndAndKeyBothEnds. -/
theorem witness_AgreementsStartEndAndKeyBothEnds : ([
    (let c : Coach := 255;
     let s : State := { pending := [], dev := { live with trust.agree := [(255, { state := .respSent })], clock.frac := 1000000000000 * 2 ^ 48 } };
     let x := agreement s.dev c; decide (firmwareRuns s.dev = true ∧ x.state.running = true ∧
     x.began + (policyOf s.dev c).timeout * 1000000000 ≤ nowNs s.dev)),
    (let c : Coach := 0; let s : State := { pending := [], dev := live }; let x := agreement s.dev c;
     decide ((firmwareRuns s.dev = false ∨ x.state.running = false ∨ nowNs s.dev < x.began + (policyOf s.dev c).timeout * 1000000000))),
    (let c : Coach := 0;
     let s : State := { pending := [], dev := { live with trust.agree := [(0, { retryAt := some 0 })], cipher.tx := [(0, { current := some 0 })] } };
     let x := agreement s.dev c; decide (firmwareRuns s.dev = true ∧ x.retryAt.isSome = true ∧ nextDue s.dev c ≤ nowNs s.dev)),
    (let c : Coach := 0; let s : State := { pending := [], dev := live }; let x := agreement s.dev c;
     decide ((firmwareRuns s.dev = false ∨ x.retryAt = none ∨ nowNs s.dev < nextDue s.dev c))),
    (let c : Coach := 0;
     let s : State := { pending := [], dev := { live with cipher.tx := [(0, { current := some 0 })], clock.frac := 100000000000000 * 2 ^ 48 } };
     let x := agreement s.dev c; decide (firmwareRuns s.dev = true ∧ (cipherTx s.dev c).current.isSome = true ∧ x.retryAt = none ∧
     x.usedSince + (policyOf s.dev c).rotate * 1000000000 ≤ nowNs s.dev)),
    (let c : Coach := 0; let s : State := { pending := [], dev := live }; let x := agreement s.dev c;
     decide ((firmwareRuns s.dev = false ∨ (cipherTx s.dev c).current = none ∨ x.retryAt.isSome = true ∨ nowNs s.dev < x.usedSince + (policyOf s.dev c).rotate * 1000000000))),
    (let c : Coach := 0;
     let s : State := { pending := [], dev := { live with ixtas.inbox := [msg 0x13 (zeros 17 ++ tagS)], trust.agree := [(0, { state := .confirmSent, startFc := 64 })] } };
     let x := agreement s.dev c; decide (firmwareRuns s.dev = true ∧ x.state = .confirmSent ∧
     x.confirmAt + 4 * confirmAir s.dev c ≤ nowNs s.dev ∧ 64 ≤ loadLead s.dev c 0 x.startFc ∧
     2 * loadLead s.dev c 0 x.startFc < loadMod s.dev c 0)),
    (let c : Coach := 0; let s : State := { pending := [], dev := live }; let x := agreement s.dev c;
     decide ((x.state ≠ .confirmSent ∨ nowNs s.dev < x.confirmAt + 4 * confirmAir s.dev c))),
    (let c : Coach := 0; let s : State := { pending := [], dev := live }; let m : Message := msg 1 [];
     decide (s.dev.ixtas.inbox.find? (fun m => m.coach == c.val && m.kind == 0x10) = none)),
    (let c : Coach := 0; let s : State := { pending := [], dev := live }; let m : Message := msg 1 [];
     decide (s.dev.ixtas.inbox.find? (fun m => m.coach == c.val && m.kind == 0x11) = none)),
    (let c : Coach := 0; let s : State := { pending := [], dev := live }; let m : Message := msg 1 [];
     decide (s.dev.ixtas.inbox.find? (fun m => m.coach == c.val && m.kind == 0x12) = none)),
    (let c : Coach := 0; let s : State := { pending := [], dev := live }; let m : Message := msg 1 [];
     decide (s.dev.ixtas.inbox.find? (fun m => m.coach == c.val && m.kind == 0x13) = none)),
    (let c : Coach := 0; let s : State := { pending := [], dev := { live with ixtas.inbox := [msg 0x10 (zeros 1705)] } };
     let m : Message := msg 0x10 (zeros 1705); let x := agreement s.dev c;
     decide ((s.dev.ixtas.inbox.find? (fun m => m.coach == c.val && m.kind == 0x10) = some m ∧ firmwareRuns s.dev = true ∧
     agreeBarred s.dev = false) ∧ (policyOf s.dev c).source = 0 ∧ m.body.length = 1705 ∧ x.state = .idle ∧ freezeOn s.dev = false ∧
     (m.ident = none ∨ m.ident ≠ x.initId ∨ u64 m.body 0 ≠ x.initIdent) ∧ mayAgree s.dev = true)),
    (let c : Coach := 0;
     let s : State := { pending := [], dev := { live with ixtas.inbox := [msg 0x10 (zeros 1705)], trust.agree := (List.range 16).map (fun i => (i + 1, { state := .initSent })) } };
     let m : Message := msg 0x10 (zeros 1705); let x := agreement s.dev c;
     decide ((s.dev.ixtas.inbox.find? (fun m => m.coach == c.val && m.kind == 0x10) = some m ∧ firmwareRuns s.dev = true ∧
     agreeBarred s.dev = false) ∧ (policyOf s.dev c).source = 0 ∧ m.body.length = 1705 ∧ x.state = .idle ∧ freezeOn s.dev = false ∧
     (m.ident = none ∨ m.ident ≠ x.initId ∨ u64 m.body 0 ≠ x.initIdent) ∧ mayAgree s.dev = false)),
    (let c : Coach := 0;
     let s : State := { pending := [], dev := { live with ixtas.inbox := [msg 0x11 (zeros 6428)], trust.agree := [(0, { state := .initSent })] } };
     let m : Message := msg 0x11 (zeros 6428); let x := agreement s.dev c;
     decide ((s.dev.ixtas.inbox.find? (fun m => m.coach == c.val && m.kind == 0x11) = some m ∧ firmwareRuns s.dev = true ∧
     agreeBarred s.dev = false) ∧ x.state = .initSent ∧ m.body.length = 6428 ∧ u64 m.body 0 = x.ident.toNat)),
    (let c : Coach := 0;
     let s : State := { pending := [], dev := { live with ixtas.inbox := [msg 0x12 (zeros 4756)], trust.agree := [(0, { state := .respSent })] } };
     let m : Message := msg 0x12 (zeros 4756); let x := agreement s.dev c;
     decide ((s.dev.ixtas.inbox.find? (fun m => m.coach == c.val && m.kind == 0x12) = some m ∧ firmwareRuns s.dev = true ∧
     agreeBarred s.dev = false) ∧ x.state = .respSent ∧ m.body.length = 4756 ∧ u64 m.body 0 = x.ident.toNat ∧ m.body.drop 4740 ≠ tagI)),
    (let c : Coach := 0;
     let s : State := { pending := [], dev := { live with ixtas.inbox := [msg 0x12 (zeros 4740 ++ tagI)], trust.agree := [(0, { state := .respSent })] } };
     let m : Message := msg 0x12 (zeros 4740 ++ tagI); let x := agreement s.dev c;
     decide ((s.dev.ixtas.inbox.find? (fun m => m.coach == c.val && m.kind == 0x12) = some m ∧ firmwareRuns s.dev = true ∧
     agreeBarred s.dev = false) ∧ x.state = .respSent ∧ m.body.length = 4756 ∧ u64 m.body 0 = x.ident.toNat ∧ m.body.drop 4740 = tagI ∧
     freezeOn s.dev = false ∧ vaultRoom s.dev = true ∧ u8 m.body 4739 ≤ 1 ∧ rxLoadable s.dev c (u8 m.body 4739) (u64 m.body 4731) = true)),
    (let c : Coach := 0;
     let s : State := { pending := [], dev := { live with ixtas.inbox := [msg 0x13 (zeros 17 ++ tagS)], trust.agree := [(0, { state := .confirmSent, startFc := 64 })] } };
     let m : Message := msg 0x13 (zeros 17 ++ tagS); let x := agreement s.dev c;
     decide ((s.dev.ixtas.inbox.find? (fun m => m.coach == c.val && m.kind == 0x13) = some m ∧ firmwareRuns s.dev = true ∧
     agreeBarred s.dev = false) ∧ x.state = .confirmSent ∧ m.body.length = 33 ∧ u64 m.body 0 = x.ident.toNat ∧ m.body.drop 17 = tagS ∧
     freezeOn s.dev = false ∧ vaultRoom s.dev = true ∧ u8 m.body 16 ≤ 1 ∧ rxLoadable s.dev c (u8 m.body 16) (u64 m.body 8) = true ∧
     txLoadable s.dev c x.startFc = true)),
    (let c : Coach := 0;
     let s : State := { pending := [], dev := { launching with ixtas.inbox := [msg 0x13 (zeros 17 ++ tagS)], trust.agree := [(0, { state := .confirmSent, startFc := 5 })] } };
     let m : Message := msg 0x13 (zeros 17 ++ tagS); let x := agreement s.dev c;
     decide ((s.dev.ixtas.inbox.find? (fun m => m.coach == c.val && m.kind == 0x13) = some m ∧ firmwareRuns s.dev = true ∧
     agreeBarred s.dev = false) ∧ x.state = .confirmSent ∧ m.body.length = 33 ∧ u64 m.body 0 = x.ident.toNat ∧ m.body.drop 17 = tagS ∧
     freezeOn s.dev = false ∧ vaultRoom s.dev = true ∧ u8 m.body 16 ≤ 1 ∧ rxLoadable s.dev c (u8 m.body 16) (u64 m.body 8) = true ∧
     txLoadable s.dev c x.startFc = false))] : List Bool).all id = true := by decide +kernel

/-- States and operands that meet the hypotheses of each clause of TwinCopiesAreHeldAndMergedInOrder. -/
theorem witness_TwinCopiesAreHeldAndMergedInOrder : ([
    (let w : Twin := 127;
     let s : State := { pending := [], dev := { live with twins.cfg := [(127, { rx := true })], twins.rx := [(127, { next := 7, held := [copy0] })] } };
     let x := twinRx s.dev w; decide ((twinCfg s.dev w).rx = true ∧ (∃ c ∈ x.held, ofNumbering x c = true ∧ c.due ≤ nowNs s.dev) ∧
     asleep s.dev = false ∧ x.rebaseTo = [])),
    (let w : Twin := 127;
     let s : State := { pending := [], dev := { live with twins.cfg := [(127, { rx := true })], twins.rx := [(127, { next := 7, held := [{ copy0 with seq := 9, old := 1 }], rebaseTo := [100] })] } };
     let x := twinRx s.dev w; let left := x.held.filter (fun c => !ofNext x c); let n := (100 : Nat); let l := ([] : List Nat);
     decide ((twinCfg s.dev w).rx = true ∧ (∃ c ∈ x.held, ofNumbering x c = true ∧ c.due ≤ nowNs s.dev) ∧ asleep s.dev = false ∧
     x.rebaseTo = n :: l ∧ (∃ c ∈ left, ofNumbering x c = true))),
    (let w : Twin := 127;
     let s : State := { pending := [], dev := { live with twins.cfg := [(127, { rx := true })], twins.rx := [(127, { next := 7, held := [{ copy0 with old := 1 }], rebaseTo := [100] })] } };
     let x := twinRx s.dev w; let left := x.held.filter (fun c => !ofNext x c); let n := (100 : Nat); decide ((twinCfg s.dev w).rx = true ∧
     (∃ c ∈ x.held, ofNumbering x c = true ∧ c.due ≤ nowNs s.dev) ∧ asleep s.dev = false ∧ x.rebaseTo = [n] ∧
     (∀ c ∈ left, ofNumbering x c = false))),
    (let w : Twin := 127;
     let s : State := { pending := [], dev := { live with twins.cfg := [(127, { rx := true })], twins.rx := [(127, { next := 7, held := [copy0] })] } };
     let x := twinRx s.dev w; decide ((twinCfg s.dev w).rx = true ∧ (∃ c ∈ x.held, ofNumbering x c = true ∧ c.due ≤ nowNs s.dev) ∧
     asleep s.dev = false ∧ (∃ c ∈ x.held, ofNext x c = true ∧ c.pathB = x.prefB ∧ c.valid = true))),
    (let w : Twin := 127;
     let s : State := { pending := [], dev := { live with twins.cfg := [(127, { rx := true })], twins.rx := [(127, { next := 7, held := [copy0], prefB := true })] } };
     let x := twinRx s.dev w; decide ((twinCfg s.dev w).rx = true ∧ (∃ c ∈ x.held, ofNumbering x c = true ∧ c.due ≤ nowNs s.dev) ∧
     asleep s.dev = false ∧ ¬ (∃ c ∈ x.held, ofNext x c = true ∧ c.pathB = x.prefB ∧ c.valid = true) ∧ (∃ c ∈ x.held, ofNext x c = true ∧
     c.pathB = (!x.prefB) ∧ c.valid = true))),
    (let w : Twin := 127;
     let s : State := { pending := [], dev := { live with twins.cfg := [(127, { rx := true })], twins.rx := [(127, { next := 7, held := [copy0] })] } };
     let x := twinRx s.dev w; decide ((twinCfg s.dev w).rx = true ∧ (∃ c ∈ x.held, ofNumbering x c = true ∧ c.due ≤ nowNs s.dev) ∧
     asleep s.dev = false ∧ ((∃ c ∈ x.held, ofNext x c = true ∧ c.pathB = x.prefB ∧ c.valid = true) ∨ (∃ c ∈ x.held, ofNext x c = true ∧
     c.pathB = (!x.prefB) ∧ c.valid = true)))),
    (let w : Twin := 127;
     let s : State := { pending := [], dev := { live with twins.cfg := [(127, { rx := true })], twins.rx := [(127, { next := 6, held := [copy0] })] } };
     let x := twinRx s.dev w; decide ((twinCfg s.dev w).rx = true ∧ (∃ c ∈ x.held, ofNumbering x c = true ∧ c.due ≤ nowNs s.dev) ∧
     asleep s.dev = false ∧ ¬ (∃ c ∈ x.held, ofNext x c = true ∧ c.pathB = x.prefB ∧ c.valid = true) ∧ ¬ (∃ c ∈ x.held, ofNext x c = true ∧
     c.pathB = (!x.prefB) ∧ c.valid = true))),
    (let w : Twin := 0; let s : State := { pending := [], dev := live }; let x := twinRx s.dev w;
     decide ((∀ c ∈ x.held, ofNumbering x c = true → nowNs s.dev < c.due) ∨ (twinCfg s.dev w).rx = false ∨ asleep s.dev = true)),
    (let w : Twin := 127; let p : Fin 2 := 0; let skip : Nat := 0;
     let s : State := { pending := [], dev := { live with twins.cfg := [(127, { rx := true })], twins.rx := [(127, { next := 7, rebase := false, a := { lastSeq := some 5, words := List.replicate 513 none } })] } };
     let b := p == 1; let x := twinRx s.dev w; let words := ((pathOf x b).words.drop skip).take blockWords;
     let c := (copyOf s.dev w b words).1; let noted := c.restart = true ∧ (pathOf x b).far ≠ none; decide ((twinCfg s.dev w).rx = true ∧
     skip + blockWords ≤ (pathOf x b).words.length ∧ asleep s.dev = false ∧ x.rebase = false ∧ x.rebaseTo = [] ∧ ¬ noted ∧
     behindSeq c.seq x.next = true)),
    (let w : Twin := 127; let p : Fin 2 := 0; let skip : Nat := 1;
     let s : State := { pending := [], dev := { live with twins.cfg := [(127, { rx := true })], twins.rx := [(127, { next := 7, rebase := false, a := { lastSeq := some 6, words := List.replicate 514 none } })] } };
     let b := p == 1; let x := twinRx s.dev w; let words := ((pathOf x b).words.drop skip).take blockWords;
     let c := (copyOf s.dev w b words).1; let noted := c.restart = true ∧ (pathOf x b).far ≠ none; decide ((twinCfg s.dev w).rx = true ∧
     skip + blockWords ≤ (pathOf x b).words.length ∧ asleep s.dev = false ∧ x.rebase = false ∧ x.rebaseTo = [] ∧ ¬ noted ∧
     behindSeq c.seq x.next = false ∧ modSub (2 ^ 32) c.seq x.next < 4096)),
    (let w : Twin := 127; let p : Fin 2 := 0; let skip : Nat := 0;
     let s : State := { pending := [], dev := { live with twins.cfg := [(127, { rx := true })], twins.rx := [(127, { next := 7, rebase := false, a := { words := some (twinHeader 5000 0 true false) :: List.replicate 512 none } })] } };
     let b := p == 1; let x := twinRx s.dev w; let words := ((pathOf x b).words.drop skip).take blockWords;
     let c := (copyOf s.dev w b words).1; let noted := c.restart = true ∧ (pathOf x b).far ≠ none; decide ((twinCfg s.dev w).rx = true ∧
     skip + blockWords ≤ (pathOf x b).words.length ∧ asleep s.dev = false ∧ x.rebase = false ∧ x.rebaseTo = [] ∧ ¬ noted ∧ x.held = [] ∧
     behindSeq c.seq x.next = false ∧ 4096 ≤ modSub (2 ^ 32) c.seq x.next ∧ c.restart = true)),
    (let w : Twin := 127; let p : Fin 2 := 0; let skip : Nat := 0;
     let s : State := { pending := [], dev := { live with twins.cfg := [(127, { rx := true })], twins.rx := [(127, { next := 7, a := { words := some (twinHeader 9 0 false false) :: List.replicate 512 none } })] } };
     let b := p == 1; let x := twinRx s.dev w; let words := ((pathOf x b).words.drop skip).take blockWords;
     let c := (copyOf s.dev w b words).1; let noted := c.restart = true ∧ (pathOf x b).far ≠ none; decide ((twinCfg s.dev w).rx = true ∧
     skip + blockWords ≤ (pathOf x b).words.length ∧ asleep s.dev = false ∧ x.rebase = true ∧ x.held = [] ∧ ¬ noted ∧
     (copyOf s.dev w b words).2 = true)),
    (let w : Twin := 127; let p : Fin 2 := 0; let skip : Nat := 0;
     let s : State := { pending := [], dev := { live with twins.cfg := [(127, { rx := true })], twins.rx := [(127, { next := 7, rebase := false, a := { lastSeq := some 5, words := List.replicate 513 none } })] } };
     let b := p == 1; let x := twinRx s.dev w; let words := ((pathOf x b).words.drop skip).take blockWords;
     let c := (copyOf s.dev w b words).1; decide ((twinCfg s.dev w).rx = true ∧ skip + blockWords ≤ (pathOf x b).words.length ∧
     asleep s.dev = false ∧ c.valid = false)),
    (let w : Twin := 0; let p : Fin 2 := 0; let skip : Nat := 0; let s : State := { pending := [], dev := live }; let b := p == 1;
     let x := twinRx s.dev w; decide ((pathOf x b).words.length < skip + blockWords))] : List Bool).all id = true := by decide +kernel

/-- States and operands that meet the hypotheses of each clause of TheIxtasChainFailsAndClears. -/
theorem witness_TheIxtasChainFailsAndClears : ([
    (let c : Coach := 0;
     let s : State := { pending := [], dev := { live with twins.cfg := [(0, { rx := true, queue := 5, engineA := 0, engineB := 1 })], rx.coaches := [(0, { coachRxReset 0 with slotsNow := 1 })], slots.rxPage0 := [(0, 21)] } };
     decide (rxTwins s.dev c ≠ [] ∧ asleep s.dev = false)),
    (let c : Coach := 0; let word : Word := 7;
     let s : State := { pending := [], dev := { live with ixtas.engines := [(0, { rx := true })], ixtas.partners := [(0, { hbWord := some 7 })] } };
     let n := engineOf c; decide ((ixtasEngine s.dev n).rx = true ∧ engineOff s.dev n = false ∧ (partnerOf s.dev c).hbWord = some word)),
    (let c : Coach := 0; let word : Word := 0; let s : State := { pending := [], dev := live };
     decide ((partnerOf s.dev c).hbWord ≠ some word)),
    (let c : Coach := 0;
     let s : State := { pending := [], dev := { talking with twins.cfg := [(0, { tx := true, queue := 5, engineA := 0, engineB := 1 })], slots.txPage0 := [(0, 21)] } };
     let n := engineOf c; let ns := heartbeatAir (ixtasCoach s.dev c).hbClass; let k : Coach := 255; decide (beats s.dev c = true ∧
     ixtasSends s.dev n = true ∧ airAllows s.dev c ns = true ∧ toneBusy s.dev c = false ∧
     tonesOnAir s.dev n < (ixtasEngine s.dev n).tones ∧ k ≠ c)),
    (let c : Coach := 0;
     let s : State := { pending := [], dev := { talking with twins.cfg := [(0, { tx := true, queue := 5, engineA := 0, engineB := 1 })], slots.txPage0 := [(0, 21)], ixtas.tones := [(0, { air := [(0, 1)] })] } };
     let n := engineOf c; let ns := heartbeatAir (ixtasCoach s.dev c).hbClass; decide (beats s.dev c = true ∧ ixtasSends s.dev n = true ∧
     (airAllows s.dev c ns = false ∨ toneBusy s.dev c = true ∨ (ixtasEngine s.dev n).tones ≤ tonesOnAir s.dev n)))] : List Bool).all id = true := by decide +kernel

/-- States and operands that meet the hypotheses of each clause of SearchesAndPacketsFollowTheTones. -/
theorem witness_SearchesAndPacketsFollowTheTones : ([
    (let n : Engine := 15; let b : Branch := { tone := 15, cls := 3 }; let corr : Byte := 160;
     let s : State := { pending := [], dev := { live with ixtas.engines := [(15, { rx := true })], ixtas.branches := [(1023, {})] } };
     let i := branchNo n b; let x := branchOf s.dev i; decide (ixtasHears s.dev n = true ∧ (ixtasEngine s.dev n).threshold ≤ corr.toNat ∧
     x.primary = .idle)),
    (let n : Engine := 15; let b : Branch := { tone := 15, cls := 3 }; let corr : Byte := 160;
     let s : State := { pending := [], dev := { live with ixtas.engines := [(15, { rx := true })], ixtas.branches := [(1023, { primary := .reception 9 })] } };
     let i := branchNo n b; let x := branchOf s.dev i; let q := 9; decide (ixtasHears s.dev n = true ∧
     (ixtasEngine s.dev n).threshold ≤ corr.toNat ∧ x.primary = .reception q ∧ x.challenger = .idle)),
    (let n : Engine := 15; let b : Branch := { tone := 15, cls := 3 }; let corr : Byte := 171;
     let s : State := { pending := [], dev := { live with ixtas.engines := [(15, { rx := true })], ixtas.branches := [(1023, { primary := .reception 9, challenger := .preamble 170 })] } };
     let i := branchNo n b; let x := branchOf s.dev i; let q := 9; let old := 170; decide (ixtasHears s.dev n = true ∧
     (ixtasEngine s.dev n).threshold ≤ corr.toNat ∧ x.primary = .reception q ∧ x.challenger = .preamble old)),
    (let n : Engine := 15; let corr : Byte := 159;
     let s : State := { pending := [], dev := { live with ixtas.engines := [(15, { rx := true })], ixtas.branches := [(1023, {})] } };
     decide (ixtasHears s.dev n = true ∧ corr.toNat < (ixtasEngine s.dev n).threshold)),
    (let n : Engine := 15; let b : Branch := { tone := 15, cls := 3 };
     let s : State := { pending := [], dev := { live with ixtas.engines := [(15, { rx := true })], ixtas.branches := [(1023, { primary := .preamble 160 })] } };
     let i := branchNo n b; let x := branchOf s.dev i; let k := 160; decide (ixtasHears s.dev n = true ∧ x.primary = .preamble k)),
    (let n : Engine := 15; let b : Branch := { tone := 15, cls := 3 };
     let s : State := { pending := [], dev := { live with ixtas.engines := [(15, { rx := true })], ixtas.branches := [(1023, { challenger := .preamble 160 })] } };
     let i := branchNo n b; let x := branchOf s.dev i; let k := 160; decide (ixtasHears s.dev n = true ∧ x.challenger = .preamble k)),
    (let n : Engine := 15; let b : Branch := { tone := 15, cls := 3 }; let word : Word := 0x3A9CE158;
     let s : State := { pending := [], dev := { live with ixtas.engines := [(15, { rx := true })], ixtas.branches := [(1023, { primary := .preamble 160 })] } };
     let i := branchNo n b; let x := branchOf s.dev i; let k := 160; decide (ixtasHears s.dev n = true ∧
     bitErrors word (ixtasEngine s.dev n).sync ≤ (ixtasEngine s.dev n).tol ∧ x.primary = .preamble k)),
    (let n : Engine := 15; let b : Branch := { tone := 15, cls := 3 }; let word : Word := 0x3A9CE15B;
     let s : State := { pending := [], dev := { live with ixtas.engines := [(15, { rx := true })], ixtas.branches := [(1023, { primary := .reception 9, challenger := .preamble 160 })] } };
     let i := branchNo n b; let x := branchOf s.dev i; let q := 9; let k := 160; decide (ixtasHears s.dev n = true ∧
     bitErrors word (ixtasEngine s.dev n).sync ≤ (ixtasEngine s.dev n).tol ∧ x.primary = .reception q ∧ x.challenger = .preamble k)),
    (let n : Engine := 15; let word : Word := 0;
     let s : State := { pending := [], dev := { live with ixtas.engines := [(15, { rx := true })], ixtas.branches := [(1023, {})] } };
     decide (ixtasHears s.dev n = true ∧ (ixtasEngine s.dev n).tol < bitErrors word (ixtasEngine s.dev n).sync)),
    (let n : Engine := 15; let b : Branch := { tone := 15, cls := 3 }; let h : BitVec 64 := 0;
     let s : State := { pending := [], dev := { live with ixtas.engines := [(15, { rx := true })], ixtas.branches := [(1023, { primary := .reception 9 })] } };
     let i := branchNo n b; let x := branchOf s.dev i; let q := 9; decide (ixtasHears s.dev n = true ∧ x.primary = .reception q ∧
     ixtasHeaderFits (be 8 h.toNat) = false)),
    (let n : Engine := 15; let b : Branch := { tone := 15, cls := 3 }; let h : BitVec 64 := 0x03000000000000F0;
     let s : State := { pending := [], dev := { live with ixtas.engines := [(15, { rx := true })], ixtas.branches := [(1023, { primary := .reception 9 })] } };
     let i := branchNo n b; let x := branchOf s.dev i; let q := 9; decide (ixtasHears s.dev n = true ∧ x.primary = .reception q ∧
     ixtasHeaderFits (be 8 h.toNat) = true)),
    (let n : Engine := 0; let b : Branch := { tone := 0, cls := 0 };
     let p : PacketFacts := { bytes := ixtasHeader 3 false false 0 0xFFFF 1 0 0, crc := 0, cn0 := 90 };
     let s : State := { pending := [], dev := { live with ixtas.engines := [(0, { rx := true })], ixtas.branches := [(0, { primary := .reception 9 })] } };
     let i := branchNo n b; decide (ixtasHears s.dev n = true ∧ receiving s.dev i = true ∧ packetFits p.bytes = true ∧
     crc16 p.bytes ≠ p.crc)),
    (let n : Engine := 0; let b : Branch := { tone := 0, cls := 0 };
     let p : PacketFacts := { bytes := ixtasHeader 3 false false 0 0x0010 1 0 0, crc := crc16 (ixtasHeader 3 false false 0 0x0010 1 0 0), cn0 := 90 };
     let s : State := { pending := [], dev := { live with ixtas.engines := [(0, { rx := true })], ixtas.branches := [(0, { primary := .reception 9 })] } };
     let i := branchNo n b; decide (ixtasHears s.dev n = true ∧ receiving s.dev i = true ∧ packetFits p.bytes = true ∧
     crc16 p.bytes = p.crc ∧ (forUs s.dev n p.bytes = false ∨ kindKnown (u8 p.bytes 5) = false))),
    (let n : Engine := 0; let b : Branch := { tone := 0, cls := 0 };
     let p : PacketFacts := { bytes := ixtasHeader 3 false false 0 0xFFFF 0x20 0 0, crc := crc16 (ixtasHeader 3 false false 0 0xFFFF 0x20 0 0), cn0 := 90 };
     let s : State := { pending := [], dev := { live with ixtas.engines := [(0, { rx := true })], ixtas.branches := [(0, { primary := .reception 9 })] } };
     let i := branchNo n b; decide (ixtasHears s.dev n = true ∧ receiving s.dev i = true ∧ packetFits p.bytes = true ∧
     crc16 p.bytes = p.crc ∧ forUs s.dev n p.bytes = true ∧ u8 p.bytes 5 = 0x20 ∧ u8 p.bytes 0 < 16)),
    (let n : Engine := 0; let b : Branch := { tone := 0, cls := 0 };
     let p : PacketFacts := { bytes := ixtasHeader 3 false false 0 0xFFFF 1 0 0, crc := crc16 (ixtasHeader 3 false false 0 0xFFFF 1 0 0), cn0 := 90 };
     let s : State := { pending := [], dev := { live with ixtas.engines := [(0, { rx := true })], ixtas.branches := [(0, { primary := .reception 9 })], ixtas.ring := List.replicate 256 ({ engine := 0, tone := 0, bytes := [], cn0 := 0, at_ := 0 } : Received) } };
     let i := branchNo n b; decide (ixtasHears s.dev n = true ∧ receiving s.dev i = true ∧ packetFits p.bytes = true ∧
     crc16 p.bytes = p.crc ∧ forUs s.dev n p.bytes = true ∧ kindKnown (u8 p.bytes 5) = true ∧ u8 p.bytes 5 ≠ 0x20 ∧
     256 ≤ s.dev.ixtas.ring.length)),
    (let n : Engine := 0; let b : Branch := { tone := 0, cls := 0 };
     let p : PacketFacts := { bytes := ixtasHeader 3 false false 0 0xFFFF 1 0 0, crc := crc16 (ixtasHeader 3 false false 0 0xFFFF 1 0 0), cn0 := 90 };
     let s : State := { pending := [], dev := { { live with ixtas.engines := [(0, { rx := true })], ixtas.branches := [(0, { primary := .reception 9 })], ixtas.ring := List.replicate 255 ({ engine := 0, tone := 0, bytes := [], cn0 := 0, at_ := 0 } : Received) } with fw.state := .restarting } };
     let i := branchNo n b; decide (ixtasHears s.dev n = true ∧ receiving s.dev i = true ∧ packetFits p.bytes = true ∧
     crc16 p.bytes = p.crc ∧ forUs s.dev n p.bytes = true ∧ kindKnown (u8 p.bytes 5) = true ∧ u8 p.bytes 5 ≠ 0x20 ∧
     s.dev.ixtas.ring.length < 256 ∧ firmwareRuns s.dev = false)),
    (let s : State := { pending := [], dev := { live with ixtas.hostIn := [msg 4 []], ixtas.hostQueue := List.replicate 63 (msg 4 []) } };
     let c : Coach := 0; let m : Message := msg 4 []; decide (s.dev.ixtas.hostIn.find? (fun m => m.coach == c.val) = some m ∧
     s.dev.ixtas.hostQueue.length < 64)),
    (let s : State := { pending := [], dev := { live with ixtas.hostIn := [msg 4 []], ixtas.hostQueue := List.replicate 64 (msg 4 []) } };
     let c : Coach := 0; let m : Message := msg 4 []; decide (s.dev.ixtas.hostIn.find? (fun m => m.coach == c.val) = some m ∧
     64 ≤ s.dev.ixtas.hostQueue.length)),
    (let n : Engine := 0;
     let s : State := { pending := [], dev := { live with ixtas.assemblies := [{ head := msg 1 [], ident := 9, count := 2, pieces := [] }], clock.plain := 10000000000 * 2 ^ 48, clock.frac := 10000000000 * 2 ^ 48 } };
     let source : BitVec 16 := 0; let ident : BitVec 16 := 9;
     decide ((∃ a ∈ s.dev.ixtas.assemblies, isAssembly n source.toNat ident.toNat a = true ∧ a.head.at_ + 10000000000 ≤ nowNs s.dev)))] : List Bool).all id = true := by decide +kernel

/-- States and operands that meet the hypotheses of each clause of AirtimeNeverExceedsItsBrake. -/
theorem witness_AirtimeNeverExceedsItsBrake : ([
    (let n : Engine := 0; let k : Fin 16 := 0; let c := 16 * n.val + k.val; let j := 255; decide (j ≠ c)),
    (let n : Engine := 0; let s : State := { pending := [], dev := live }; decide (ixtasSends s.dev n = false)),
    (let n : Engine := 0; let k : Fin 16 := 0;
     let s : State := { pending := [], dev := { talking with ixtas.tones := [(0, { waiting := [{ level := 2, cls := 3, bytes := zeros 8 }] })] } };
     let c := 16 * n.val + k.val; let p := { level := 2, cls := 3, bytes := zeros 8 };
     let ok := !toneBusy s.dev c && tonesFit s.dev c (outgoingAir p) && beatFits s.dev c (outgoingAir p);
     decide (ixtasSends s.dev n = true ∧ firstWaiting (toneTx s.dev c).waiting = some p ∧ ok = true ∧
     airSum s.dev c + outgoingAir p ≤ ixtasAirtime s.dev n * 1000000)),
    (let n : Engine := 0; let k : Fin 16 := 0;
     let s : State := { pending := [], dev := { talking with ixtas.tones := [(0, { waiting := [{ level := 2, cls := 0, bytes := zeros 248 }] })], brakes.engines := [(0, (48, 1, 30))] } };
     let c := 16 * n.val + k.val; let p := { level := 2, cls := 0, bytes := zeros 248 };
     let ok := !toneBusy s.dev c && tonesFit s.dev c (outgoingAir p) && beatFits s.dev c (outgoingAir p);
     decide (ixtasSends s.dev n = true ∧ firstWaiting (toneTx s.dev c).waiting = some p ∧
     (ok = false ∨ ixtasAirtime s.dev n * 1000000 < airSum s.dev c + outgoingAir p)))] : List Bool).all id = true := by decide +kernel

/-- States and operands that meet the hypotheses of each clause of PartnersAreFoundKnownAndLost. -/
theorem witness_PartnersAreFoundKnownAndLost : ([
    (let c : Coach := 0; let s : State := { pending := [], dev := talking }; decide (firmwareRuns s.dev = true ∧
     (ixtasEngine s.dev (engineOf c)).tx = true ∧ engineOff s.dev (engineOf c) = false)),
    (let c : Coach := 0; let s : State := { pending := [], dev := { live with ixtas.inbox := [msg 1 (zeros 24)] } };
     let m : Message := msg 1 (zeros 24); let p := partnerOf s.dev c;
     decide ((s.dev.ixtas.inbox.find? (fun m => m.coach == c.val && m.kind == 1) = some m ∧ firmwareRuns s.dev = true) ∧
     m.body.length = 24 ∧ heardNow p = false)),
    (let c : Coach := 0; let s : State := { pending := [], dev := { live with ixtas.inbox := [msg 2 (zeros 64)] } };
     let m : Message := msg 2 (zeros 64); decide ((s.dev.ixtas.inbox.find? (fun m => m.coach == c.val && m.kind == 2) = some m ∧
     firmwareRuns s.dev = true) ∧ m.body.length = 64)),
    (let c : Coach := 0;
     let s : State := { pending := [], dev := { live with ixtas.inbox := [msg 3 (le 34 (2 ^ 271))], ixtas.coaches := [(0, { expSet := true })] } };
     let m : Message := msg 3 (le 34 (2 ^ 271)); decide ((s.dev.ixtas.inbox.find? (fun m => m.coach == c.val && m.kind == 3) = some m ∧
     firmwareRuns s.dev = true) ∧ m.body.length = 34 ∧ (ixtasCoach s.dev c).expSet = true ∧ m.body.drop 2 ≠ (ixtasCoach s.dev c).expected)),
    (let c : Coach := 0; let s : State := { pending := [], dev := { live with ixtas.inbox := [msg 4 []] } }; let m : Message := msg 4 [];
     decide ((s.dev.ixtas.inbox.find? (fun m => m.coach == c.val && m.kind == 4) = some m ∧ firmwareRuns s.dev = true))),
    (let c : Coach := 0;
     let s : State := { pending := [], dev := { live with ixtas.partners := [(0, { state := .known })], clock.frac := 3000000000 * 2 ^ 48 } };
     let p := partnerOf s.dev c; let k : Coach := 255; decide (firmwareRuns s.dev = true ∧ heardNow p = true ∧
     p.lastHeard + 300000000 * (ixtasCoach s.dev c).period ≤ nowNs s.dev ∧ k ≠ c)),
    (let c : Coach := 0; let s : State := { pending := [], dev := live }; let p := partnerOf s.dev c;
     decide ((firmwareRuns s.dev = false ∨ heardNow p = false ∨ nowNs s.dev < p.lastHeard + 300000000 * (ixtasCoach s.dev c).period))),
    (let s : State := { pending := [], dev := live }; decide (s.dev.ixtas.inbox = []))] : List Bool).all id = true := by decide +kernel

/-- States and operands that meet the hypotheses of each clause of DevtimeOnlyMovesForward. -/
theorem witness_DevtimeOnlyMovesForward : ([
    (let s : State := { pending := [], dev := { live with power.state := .sleep } }; let d := s.dev; decide (s.pending = [] ∧
     timeRuns d = false)),
    (let s : State := { pending := [], dev := live }; let d := s.dev; decide (s.pending = [] ∧ timeRuns d = true ∧
     -50000000 ≤ d.time.applied ∧ d.time.applied ≤ 50000000 ∧ d.clock.slewRate ≤ 100000)),
    (let s : State := { pending := [], dev := live }; let r : RegRead := { who := .pcie, enables := 15 }; let d := s.dev;
     decide (readB 4 r.who d = true))] : List Bool).all id = true := by decide +kernel

/-- States and operands that meet the hypotheses of each clause of ReferencesQualifyDisagreeAndFallBack. -/
theorem witness_ReferencesQualifyDisagreeAndFallBack : ([
    (let r : Ref := 27; let s : State := { pending := [], dev := { live with time.refs := [(27, { q := .qualified })] } };
     let x := refOf s.dev r; decide (timeRuns s.dev = true ∧ x.q = .qualified)),
    (let r : Ref := 27; let s : State := { pending := [], dev := { live with time.refs := [(27, { q := .wait })] } };
     let x := refOf s.dev r; decide (timeRuns s.dev = true ∧ (x.q = .wait ∨ x.q = .disqualified))),
    (let r : Ref := 0; let s : State := { pending := [], dev := live }; let x := refOf s.dev r;
     decide ((timeRuns s.dev = false ∨ x.q = .lost ∨ x.q = .disabled))),
    (let r : Ref := 0; let offset : Int := (-100000 : Int);
     let s : State := { pending := [], dev := { live with time.refs := [(0, { q := .qualified })] } }; let x := refOf s.dev r;
     decide (measurable s.dev r = true ∧ x.q = .qualified ∧ x.hard < offset.natAbs)),
    (let r : Ref := 0; let offset : Int := (0 : Int);
     let s : State := { pending := [], dev := { live with time.refs := [(0, { q := .wait })] } }; let x := refOf s.dev r;
     let k : Ref := 27; decide (measurable s.dev r = true ∧ (x.q ≠ .qualified ∨ offset.natAbs ≤ x.hard) ∧ k ≠ r)),
    (let r : Ref := 0; let s : State := { pending := [], dev := live }; decide (measurable s.dev r = false)),
    (let r : Ref := 0;
     let s : State := { pending := [], dev := { live with time.refs := [(0, { q := .wait, history := List.replicate 32 0, okSince := some 0 })], clock.plain := 1000000000000 * 2 ^ 48 } };
     let k : Ref := 27; decide (timeRuns s.dev = true ∧ mayQualify s.dev r = true ∧ k ≠ r)),
    (let r : Ref := 0; let s : State := { pending := [], dev := live }; decide (mayQualify s.dev r = false)),
    (let r : Ref := 0; let s : State := { pending := [], dev := { live with time.refs := [(0, { q := .lost })] } }; let x := refOf s.dev r;
     decide (timeRuns s.dev = true ∧ x.q = .lost ∧ refValid s.dev r = true)),
    (let r : Ref := 0; let s : State := { pending := [], dev := live }; let x := refOf s.dev r;
     decide ((x.q ≠ .lost ∨ refValid s.dev r = false))),
    (let r : Ref := 0; let offset : Int := 0;
     let s : State := { pending := [], dev := { live with time.refs := [(0, { q := .qualified, driftOver := 7, history := List.replicate 15 0 ++ List.replicate 16 1000 })] } };
     let x := refOf s.dev r; let h := (offset :: x.history).take 32; decide (measurable s.dev r = true ∧ x.q = .qualified ∧ 32 ≤ h.length ∧
     x.driftLimit * 256 < (60 * driftSum h).natAbs ∧ x.driftCount ≤ x.driftOver + 1)),
    (let r : Ref := 0; let offset : Int := (-100000 : Int);
     let s : State := { pending := [], dev := { live with time.refs := [(0, { q := .qualified })] } }; let x := refOf s.dev r;
     let h := (offset :: x.history).take 32; decide (measurable s.dev r = true ∧ h.length < 32 ∧ s.dev.timeCfg.pairs = [] ∧
     0 < x.driftCount)),
    (let r : Ref := 27; let b : Ref := 0; let offset : Int := 0;
     let s : State := { pending := [], dev := { live with time.refs := [(0, { q := .qualified }), (27, { q := .qualified, offset := -2001 })], time.differing := [(0, 27, 0)], clock.plain := 10000000000 * 2 ^ 48 } };
     decide (timeRuns s.dev = true ∧ r ≠ b ∧ qualified s.dev r = true ∧ qualified s.dev b = true ∧
     (refOf s.dev r).rank = (refOf s.dev b).rank ∧ s.dev.timeCfg.disagree < ((refOf s.dev r).offset - (refOf s.dev b).offset).natAbs ∧
     s.dev.timeCfg.pairs = [] ∧ (∃ p ∈ s.dev.time.differing, p.1 = min r.val b.val ∧ p.2.1 = max r.val b.val ∧
     p.2.2 + 10000000000 ≤ elapsedNs s.dev) ∧ (∀ k : Ref, k ≠ r → k ≠ b → qualified s.dev k = false)))] : List Bool).all id = true := by decide +kernel

/-- States and operands that meet the hypotheses of each clause of TheLoopIsSteeredAndPpsEdgesAdjust. -/
theorem witness_TheLoopIsSteeredAndPpsEdgesAdjust : ([
    (let w : RegWrite := wr 1; let s : State := { pending := [], dev := live }; let d := s.dev; decide (writeLands w d = true ∧
     blockDown d 4 = false)),
    (let w : RegWrite := { who := .firmware, enables := 0xF, value := 1 }; decide (w.who = .firmware)),
    (let w : RegWrite := wr 50000001; let s : State := { pending := [], dev := live }; let d := s.dev; decide (landsB 4 w d = true ∧
     50000000 < w.value.toInt.natAbs)),
    (let w : RegWrite := wr 1; let s : State := { pending := [], dev := live }; let d := s.dev; decide (landsB 4 w d = true ∧
     w.value.toInt.natAbs ≤ 50000000)),
    (let w : RegWrite := wr 50000001; let s : State := { pending := [], dev := live }; let d := s.dev; let v := w.value.toNat;
     decide (landsB 4 w d = true ∧ d.time.steerLock = false ∧ (v % 16384 = 0 ∨ 10000 < v % 16384))),
    (let w : RegWrite := wr 1; let s : State := { pending := [], dev := { live with time.steerLock := true } }; let d := s.dev;
     decide (landsB 4 w d = true ∧ d.time.steerLock = true)),
    (let s : State := { pending := [], dev := { live with time.state := .acquire } }; let d := s.dev; decide (timeRuns d = true ∧
     d.time.state = .acquire)),
    (let s : State := { pending := [], dev := live }; let d := s.dev; decide (d.time.state ≠ .acquire)),
    (let s : State := { pending := [], dev := { live with time.state := .locked, time.lockCycles := 1 } }; let d := s.dev;
     decide (timeRuns d = true ∧ d.time.state = .locked ∧ 0 < d.time.lockCycles)),
    (let s : State := { pending := [], dev := live }; let d := s.dev; decide (d.time.state ≠ .locked)),
    (let s : State := { pending := [], dev := { live with time.state := .steered, timeCfg.steerTimeout := 1, clock.plain := 1000000000 * 2 ^ 48 } };
     let d := s.dev; decide (timeRuns d = true ∧ d.time.state = .steered ∧ d.timeCfg.steerTimeout ≠ 0 ∧ d.time.steerStale = false ∧
     d.time.targetAt + d.timeCfg.steerTimeout * 1000000000 ≤ elapsedNs d)),
    (let s : State := { pending := [], dev := live }; let d := s.dev;
     decide ((d.time.state ≠ .steered ∨ d.time.steerStale = true ∨ elapsedNs d < d.time.targetAt + d.timeCfg.steerTimeout * 1000000000))),
    (let s : State := { pending := [], dev := { live with timeCfg.ppsEnable := true } }; let d := s.dev; decide (timeRuns d = true ∧
     d.time.waiting = [] ∧ d.timeCfg.ppsEnable = true)),
    (let s : State := { pending := [], dev := live }; let d := s.dev; decide (timeRuns d = true ∧ d.time.waiting = [] ∧
     d.timeCfg.ppsEnable = false)),
    (let a : PpsAdjust := { mailbox := 7, mode := 2, value := 1, rate := 0, since := 0 };
     let s : State := { pending := [], dev := { live with timeCfg.ppsEnable := true, time.waiting := [{ mailbox := 7, mode := 2, value := 1, rate := 0, since := 0 }] } };
     let d := s.dev; decide (timeRuns d = true ∧ d.time.waiting = [a] ∧ a.mode = 2 ∧ (box d a.mailbox).releaseAtPost = false ∧
     (d.clock.frac : Int) < a.value * 2 ^ 48 ∧ a.value < 2 ^ 63 ∧ d.timeCfg.ppsEnable = true)),
    (let a : PpsAdjust := { mailbox := 7, mode := 2, value := 0, rate := 0, since := 0 };
     let s : State := { pending := [], dev := { live with time.waiting := [{ mailbox := 7, mode := 2, value := 0, rate := 0, since := 0 }], clock.plain := 2000000000 * 2 ^ 48 } };
     let d := s.dev; decide (timeRuns d = true ∧ d.time.waiting = [a] ∧ a.mode = 2 ∧ a.value * 2 ^ 48 ≤ (d.clock.frac : Int) ∧
     (box d a.mailbox).releaseAtPost = false)),
    (let a : PpsAdjust := { mailbox := 7, mode := 2, value := 0, rate := 0, since := 0 }; let rest : List PpsAdjust := [];
     let s : State := { pending := [], dev := { live with time.waiting := [{ mailbox := 7, mode := 2, value := 0, rate := 0, since := 0 }], clock.plain := 2000000000 * 2 ^ 48 } };
     let d := s.dev; decide (timeRuns d = true ∧ d.time.waiting = a :: rest ∧ a.since + 2000000000 ≤ elapsedNs d ∧
     (box d a.mailbox).releaseAtPost = false)),
    (let a : PpsAdjust := { mailbox := 0, mode := 2, value := 0, rate := 0, since := 0 }; let rest : List PpsAdjust := [];
     let s : State := { pending := [], dev := live }; let d := s.dev; decide ((d.time.waiting = [] ∨ (d.time.waiting = a :: rest ∧
     elapsedNs d < a.since + 2000000000)))),
    (let s : State := { pending := [], dev := { live with timeCfg.ppsEnable := true, time.ppsValid := true, clock.plain := 2500000000 * 2 ^ 48 } };
     let d := s.dev; decide (timeRuns d = true ∧ d.timeCfg.ppsEnable = true ∧ d.time.ppsValid = true ∧
     d.time.lastEdge.getD d.time.ppsFrom + 2500000000 * 2 ^ 48 ≤ d.clock.plain)),
    (let s : State := { pending := [], dev := live }; let d := s.dev;
     decide ((d.timeCfg.ppsEnable = false ∨ d.time.ppsValid = false ∨ d.clock.plain < d.time.lastEdge.getD d.time.ppsFrom + 2500000000 * 2 ^ 48)))] : List Bool).all id = true := by decide +kernel

/-- States and operands that meet the hypotheses of each clause of ReadsAreClassifiedByParityAndSyndrome. -/
theorem witness_ReadsAreClassifiedByParityAndSyndrome : ([
    (let w : BitVec 72 := 0; let S := syndromeS w; let P := syndromeP w; decide (P = false ∧ S = 0)),
    (let w : BitVec 72 := 1 <<< 71; let S := syndromeS w; let P := syndromeP w; decide (P = true ∧ S = 0)),
    (let w : BitVec 72 := 1 <<< 70; let S := syndromeS w; let P := syndromeP w; let j : Nat := 6; decide (P = true ∧ S = 2 ^ j)),
    (let w : BitVec 72 := 1 <<< 63; let S := syndromeS w; let P := syndromeP w; let k : Nat := 63; decide (P = true ∧
     S = positions.getD k 0)),
    (let w : BitVec 72 := (1 <<< 70) ||| (1 <<< 67) ||| (1 <<< 71); let S := syndromeS w; let P := syndromeP w; decide (P = true ∧ 72 ≤ S)),
    (let w : BitVec 72 := (1 <<< 70) ||| (1 <<< 71); let S := syndromeS w; let P := syndromeP w; decide (P = false ∧ S ≠ 0)),
    (let w : BitVec 72 := 0; let S := syndromeS w; decide (S < 72))] : List Bool).all id = true := by decide +kernel

/-- States and operands that meet the hypotheses of each clause of WrongBitsAreCorrectedOrStopTheirConsumer. -/
theorem witness_WrongBitsAreCorrectedOrStopTheirConsumer : ([
    (let i : Nat := 0; let j : Nat := 71; decide (i ≠ j)),
    (let r : BadRead := { bad0 with consumer := 5, byDma := true, source := 15 }; let s : State := { pending := [], dev := live };
     let d := s.dev; decide (asleep d = false ∧ (r.consumer = 2 ∨ (r.consumer = 5 ∧ r.byDma = true)))),
    (let r : BadRead := { bad0 with consumer := 0, returned := 0 };
     let s : State := { pending := [], dev := { live with mem.fetchTraps := 1 } }; let d := s.dev; let m := trapsReturn r.returned d.mem;
     decide (asleep d = false ∧ r.consumer = 0 ∧ (r.journal = false ∨ d.fw.state ≠ .restarting) ∧ m.fetchTraps ≠ 0 ∧ mayRestart d = true)),
    (let r : BadRead := { bad0 with consumer := 0, journal := true };
     let s : State := { pending := [], dev := { live with fw.state := .restarting } }; let d := s.dev;
     let m := trapsReturn r.returned d.mem; decide (asleep d = false ∧ r.consumer = 0 ∧ d.fw.state = .restarting ∧
     (r.journal = true ∨ m.fetchTraps ≠ 0))),
    (let r : BadRead := { bad0 with consumer := 0 }; let s : State := { pending := [], dev := live }; let d := s.dev;
     let m := trapsReturn r.returned d.mem; decide (asleep d = false ∧ r.consumer = 0 ∧ (r.journal = false ∨ d.fw.state ≠ .restarting) ∧
     m.fetchTraps = 0)),
    (let r : BadRead := bad0; let s : State := { pending := [], dev := live }; let d := s.dev; let m := trapsReturn r.returned d.mem;
     let own := BitVec.twoPow 16 r.source.val; decide (asleep d = false ∧ (r.consumer = 1 ∨ (r.consumer = 5 ∧ r.byDma = false)) ∧
     (m.fetchTraps ||| m.dataTraps) &&& own = 0)),
    (let r : BadRead := bad0; let s : State := { pending := [], dev := { live with mem.dataTraps := 1 } }; let d := s.dev;
     let m := trapsReturn r.returned d.mem; let own := BitVec.twoPow 16 r.source.val; decide (asleep d = false ∧
     (r.consumer = 1 ∨ (r.consumer = 5 ∧ r.byDma = false)) ∧ (m.fetchTraps ||| m.dataTraps) &&& own ≠ 0)),
    (let r : BadRead := { bad0 with consumer := 3, region := 5, place := some (.keySlot 0 false true) };
     let s : State := { pending := [], dev := live }; let d := s.dev; let c : Coach := 0; let rx : Bool := false; let one : Bool := true;
     let k : Coach := 255; decide (asleep d = false ∧ r.consumer = 3 ∧ r.region = 5 ∧ r.place = some (.keySlot c rx one) ∧ k ≠ c)),
    (let r : BadRead := { bad0 with consumer := 4 }; let s : State := { pending := [], dev := live }; let d := s.dev;
     decide (asleep d = false ∧ r.consumer = 4 ∧ maybeUnwritten d r.region r.addr.toNat = true)),
    (let r : BadRead := { bad0 with consumer := 6 }; let s : State := { pending := [], dev := live }; let d := s.dev;
     decide (asleep d = false ∧ r.consumer = 6))] : List Bool).all id = true := by decide +kernel

set_option maxRecDepth 100000 in
/-- States and operands that meet the hypotheses of each clause of FlitsFillsAndFlipsFollowTheirRules. -/
theorem witness_FlitsFillsAndFlipsFollowTheirRules : ([
    (let l : Fin 6 := 0; let bytes : List Byte := zeros 256; let s : State := { pending := [], dev := live }; let m : LinkId := 9;
     decide (bytes.length = 256 ∧ linkRuns s.dev l = true ∧ m.val ≠ l.val)),
    (let l : Fin 6 := 0; let toHub : Bool := false; let bytes : List Byte := flit0; let s : State := { pending := [], dev := live };
     let x := linkOf s.dev l; let from' := sideOf x toHub; decide (bytes.length = 256 ∧ linkRuns s.dev l = true ∧ flitGood bytes = true ∧
     u16 bytes 0 % 4096 = from'.expected)),
    (let l : Fin 6 := 5; let toHub : Bool := true; let bytes : List Byte := flit0;
     let s : State := { pending := [], dev := { live with links := [(5, { toHub := { expected := 1 } })] } }; let x := linkOf s.dev l;
     let from' := sideOf x toHub; decide (bytes.length = 256 ∧ linkRuns s.dev l = true ∧ flitGood bytes = true ∧
     u16 bytes 0 % 4096 ≠ from'.expected)),
    (let l : Fin 6 := 0; let bytes : List Byte := zeros 256; let s : State := { pending := [], dev := live }; decide (bytes.length = 256 ∧
     linkRuns s.dev l = true ∧ flitGood bytes = false)),
    (let l : Fin 6 := 0; let bytes : List Byte := zeros 256;
     let s : State := { pending := [], dev := { live with links := [(0, { down := true })] } }; decide (bytes.length = 256 ∧
     linkRuns s.dev l = false)),
    (let bytes : List Byte := []; decide (bytes.length ≠ 256)),
    (let ws : List (BitVec 72) := []; decide (ws.length ≠ 8)),
    (let hb : Fin 4 := 0; let ws : List (BitVec 72) := List.replicate 8 0; let crc : Word := crc32 (blockBytes (List.replicate 8 0));
     let s : State := { pending := [], dev := live }; decide (ws.length = 8 ∧ linkRuns s.dev (6 + hb.val) = true ∧
     crc32 (blockBytes ws) = crc)),
    (let hb : Fin 4 := 0; let toHub : Bool := false; let ws : List (BitVec 72) := List.replicate 8 0;
     let crc : Word := crc32 (blockBytes (List.replicate 8 0)) + 1; let s : State := { pending := [], dev := live };
     let y := linkOf s.dev (6 + hb.val); decide (ws.length = 8 ∧ linkRuns s.dev (6 + hb.val) = true ∧ crc32 (blockBytes ws) ≠ crc ∧
     y.retries < 0xFFFFFFFF ∧ (∀ e ∈ (sideOf y toHub).replay, e.times < 8))),
    (let hb : Fin 4 := 0; let ws : List (BitVec 72) := List.replicate 8 0;
     let s : State := { pending := [], dev := { live with power.state := .sleep } }; decide (ws.length = 8 ∧
     linkRuns s.dev (6 + hb.val) = false)),
    (let l : Fin 6 := 0; let toHub : Bool := false; let seq : Fin 4096 := 100; let s : State := { pending := [], dev := live };
     let x := linkOf s.dev l; let from' := sideOf x toHub; decide (linkRuns s.dev l = true ∧
     64 ≤ (seq.val + 4096 - from'.next % 4096) % 4096 ∧ (∀ e ∈ from'.replay, e.times < 8))),
    (let l : Fin 6 := 0; let toHub : Bool := false; let seq : Fin 4096 := 100;
     let s : State := { pending := [], dev := { live with links := [(0, { fromHub := { replay := [⟨0, 8, []⟩] } })] } };
     let x := linkOf s.dev l; let from' := sideOf x toHub; decide (linkRuns s.dev l = true ∧
     64 ≤ (seq.val + 4096 - from'.next % 4096) % 4096 ∧ (∃ e ∈ from'.replay, 8 ≤ e.times))),
    (let k : LinkId := 9; let toHub : Bool := false; let lost : BadRead := { bad0 with consumer := 2 };
     let s : State := { pending := [], dev := { live with links := [(9, { fromHub := { replay := [⟨0, 8, []⟩] } })] } };
     let z := linkOf s.dev k; decide (linkRuns s.dev k = true ∧ (∃ e ∈ (sideOf z toHub).replay, 8 ≤ e.times) ∧ 6 ≤ k.val ∧
     lost.consumer = 2)),
    (let k : LinkId := 0; let toHub : Bool := false; let s : State := { pending := [], dev := live }; let z := linkOf s.dev k;
     decide ((∀ e ∈ (sideOf z toHub).replay, e.times < 8))),
    (let k : LinkId := 3;
     let s : State := { pending := [], dev := { live with links := [(3, { retraining := true, failedRetrains := 2 })] } };
     let z := linkOf s.dev k; let n : Engine := 15; decide (linkClocked s.dev k = true ∧ z.retraining = true ∧ 2 ≤ z.failedRetrains ∧
     k.val < 4 ∧ n.val / 4 = k.val)),
    (let k : LinkId := 9;
     let s : State := { pending := [], dev := { live with links := [(9, { retraining := true, failedRetrains := 1 })] } };
     let z := linkOf s.dev k; decide (linkClocked s.dev k = true ∧ z.retraining = true ∧ z.failedRetrains < 2)),
    (let k : LinkId := 0; let s : State := { pending := [], dev := live }; let z := linkOf s.dev k; decide (z.retraining = false)),
    (let k : LinkId := 9; let s : State := { pending := [], dev := { live with links := [(9, { resends := 1 })] } };
     let z := linkOf s.dev k; decide (linkClocked s.dev k = true ∧ z.second = nowSec s.dev ∧ z.passed < 1000000 * z.resends)),
    (let k : LinkId := 0; let s : State := { pending := [], dev := live }; let z := linkOf s.dev k;
     decide ((z.second ≠ nowSec s.dev ∨ 1000000 * z.resends ≤ z.passed))),
    (let failed : BitVec 64 := 1 <<< 63; let s : State := { pending := [], dev := { live with mem.fill := some (62, 2) } }; let d := s.dev;
     let f := 62; let n := 2; decide (d.mem.fill = some (f, n) ∧ asleep d = false ∧ gibMask f n &&& failed ≠ 0)),
    (let s : State := { pending := [], dev := live }; let d := s.dev; decide ((d.mem.fill = none ∨ asleep d = true))),
    (let w : RegWrite := wr 0x80000006; let s : State := { pending := [], dev := { live with mem.everRan := false } }; let d := s.dev;
     decide (landsB 1 w d = true ∧ w.value.toNat % 8 < 7 ∧ w.value.getLsbD 31 = true ∧ devMode d ≠ .service)),
    (let w : RegWrite := wr 0x80000006; let s : State := { pending := [], dev := live }; let d := s.dev; decide (landsB 1 w d = true ∧
     w.value.toNat % 8 < 7 ∧ w.value.getLsbD 31 = true ∧ devMode d = .service)),
    (let w : RegWrite := wr 1; let s : State := { pending := [], dev := live }; let d := s.dev; decide (landsB 1 w d = true ∧
     w.value.toNat % 8 < 7 ∧ w.value.getLsbD 31 = false)),
    (let high : Bool := false; let s : State := { pending := [], dev := live }; let d := s.dev;
     decide ((high = true ∨ d.mem.everRan = false ∨ d.fw.state = .failed ∨ d.mem.flipArmed = false))),
    (let high : Bool := false; let s : State := { pending := [], dev := { live with mem.flipArmed := true } }; let d := s.dev;
     decide (high = false ∧ d.mem.everRan = true ∧ d.fw.state ≠ .failed ∧ d.mem.flipArmed = true))] : List Bool).all id = true := by decide +kernel

/-- States and operands that meet the hypotheses of each clause of MemoryLogsAndCountsAreReadAndCleared. -/
theorem witness_MemoryLogsAndCountsAreReadAndCleared : ([
    (let r : BadRead := bad0; let s : State := { pending := [], dev := live }; let h := if r.region = 6 then 1 else 0;
     let x := logGroup s.dev h; decide (asleep s.dev = false ∧ r.consumer = 1 ∧ x.first = none)),
    (let r : BadRead := bad0;
     let s : State := { pending := [], dev := { live with mem.group0.first := some { region := 2, consumer := 1, syndrome := 3, source := 0, addr := 0, time := 0 } } };
     let h := if r.region = 6 then 1 else 0; let x := logGroup s.dev h; decide (asleep s.dev = false ∧ r.consumer = 1 ∧ x.first ≠ none ∧
     x.second = none)),
    (let r : BadRead := bad0;
     let s : State := { pending := [], dev := { live with mem.group0.first := some { region := 2, consumer := 1, syndrome := 3, source := 0, addr := 0, time := 0 }, mem.group0.second := some { region := 2, consumer := 1, syndrome := 3, source := 0, addr := 0, time := 0 } } };
     let h := if r.region = 6 then 1 else 0; let x := logGroup s.dev h; decide (asleep s.dev = false ∧ r.consumer = 1 ∧ x.first ≠ none ∧
     x.second ≠ none)),
    (let g : Fin 2 := 0; let w : RegWrite := wr 1;
     let s : State := { pending := [], dev := { live with mem.group0.first := some { region := 2, consumer := 1, syndrome := 3, source := 0, addr := 0, time := 0 } } };
     let y := logGroup s.dev g; decide (writeLands w s.dev = true ∧ blockDown s.dev 1 = false ∧ w.value.getLsbD 0 = true ∧ y.first ≠ none)),
    (let g : Fin 2 := 0; let w : RegWrite := wr 1; let s : State := { pending := [], dev := live }; let y := logGroup s.dev g;
     decide (writeLands w s.dev = true ∧ blockDown s.dev 1 = false ∧ (w.value.getLsbD 0 = false ∨ y.first = none))),
    (let rd : RegRead := { who := .pcie, enables := 15 }; let s : State := { pending := [], dev := live };
     decide (readB 1 rd.who s.dev = true)),
    (let rd : RegRead := { who := .pcie, enables := 15 }; let s : State := { pending := [], dev := live }; let d := s.dev;
     decide (readB 1 rd.who d = true)),
    (let hbm : Bool := true;
     let s : State := { pending := [], dev := { live with mem.group1 := { ceIn := 70000 }, mem.ceRateAt := [(1, some 0)] } };
     let d := s.dev; let g := logGroup d (if hbm then 1 else 0); decide (g.ceSecond = nowSec d ∧ d.mem.ceThreshold < g.ceIn ∧
     tabGet (fun _ => none) d.mem.ceRateAt (if hbm then 1 else 0) = some (nowSec d))),
    (let hbm : Bool := true; let s : State := { pending := [], dev := { live with mem.group1 := { ceIn := 70000 } } }; let d := s.dev;
     let g := logGroup d (if hbm then 1 else 0); decide (g.ceSecond = nowSec d ∧ d.mem.ceThreshold < g.ceIn ∧
     tabGet (fun _ => none) d.mem.ceRateAt (if hbm then 1 else 0) ≠ some (nowSec d))),
    (let hbm : Bool := false; let s : State := { pending := [], dev := live }; let d := s.dev; let g := logGroup d (if hbm then 1 else 0);
     decide ((g.ceSecond ≠ nowSec d ∨ g.ceIn ≤ d.mem.ceThreshold))),
    (let hbm : Bool := false; let s : State := { pending := [], dev := live }; let d := s.dev;
     let due := if hbm then d.mem.hbmAt + d.mem.hbmDays * 86400000000000 else d.mem.sramAt + d.mem.sramHours * 3600000000000;
     decide ((asleep d = true ∨ elapsedNs d < due))),
    (let hbm : Bool := true; let s : State := { pending := [], dev := { live with clock.plain := 3000000000000000 * 2 ^ 48 } };
     let d := s.dev;
     let due := if hbm then d.mem.hbmAt + d.mem.hbmDays * 86400000000000 else d.mem.sramAt + d.mem.sramHours * 3600000000000;
     decide (asleep d = false ∧ due ≤ elapsedNs d ∧ d.mem.testWords = [])),
    (let hbm : Bool := true;
     let s : State := { pending := [], dev := { live with clock.plain := 3000000000000000 * 2 ^ 48, mem.testWords := [(512, some 1)] } };
     let d := s.dev;
     let due := if hbm then d.mem.hbmAt + d.mem.hbmDays * 86400000000000 else d.mem.sramAt + d.mem.sramHours * 3600000000000;
     let e := (512, some 1); decide (asleep d = false ∧ due ≤ elapsedNs d ∧ d.mem.testWords = [e] ∧ decide (8 ≤ e.1 / 64) = hbm ∧
     readClass (testWord d (e.1 / 64) (e.1 % 64)) = 1 ∧ e.1 / 64 ≠ 1 ∧ e.1 / 64 ≠ 2 ∧ d.mem.flipArmed = false))] : List Bool).all id = true := by decide +kernel

/-- States and operands that meet the hypotheses of each clause of FirmwareRestartsUnderFreeze. -/
theorem witness_FirmwareRestartsUnderFreeze : ([
    (let w : RegWrite := wr 1; let s : State := { pending := [], dev := live }; let d := s.dev; decide (w.who ≠ .firmware ∧
     writeLands w d = true ∧ w.value.getLsbD 0 = true ∧ mayRestart d = true ∧ d.power.state ≠ .entering)),
    (let w : RegWrite := wr 0; let s : State := { pending := [], dev := live }; let d := s.dev;
     decide ((w.value.getLsbD 0 = false ∨ mayRestart d = false ∨ w.who = .firmware))),
    (let s : State := { pending := [], dev := live }; let d := s.dev; decide (mayRestart d = true ∧ d.fw.state = .running ∧
     d.power.state = .run)),
    (let s : State := { pending := [], dev := { live with fw.state := .failed } }; let d := s.dev; decide (d.fw.state ≠ .running)),
    (let s : State := { pending := [], dev := live }; let d := s.dev; decide (d.fw.state ≠ .restarting)),
    (let rejected : Bool := false;
     let s : State := { pending := [], dev := { live with fw.state := .restarting, fw.activating := some { version := 1, svn := 2, digest := 3 } } };
     let d := s.dev; let i := { version := 1, svn := 2, digest := 3 }; decide (d.fw.state = .restarting ∧ asleep d = false ∧
     (rejected = false ∨ d.fw.activating.isSome = true) ∧ d.trust.svnFloor.toNat ≤ (bootImage rejected d.fw).svn.toNat ∧
     d.fw.activating = some i)),
    (let err : Fin 5 := 0;
     let s : State := { pending := [], dev := { live with fw.running := { version := 1, svn := 2, digest := 3 }, fw.state := .boot, fw.stage := 4 } };
     let d := s.dev; decide (d.fw.stage < 5 ∧ d.fw.bootErr = 0 ∧ asleep d = false ∧ err = 0 ∧
     (d.fw.stage ≠ 2 ∨ d.trust.svnFloor.toNat ≤ d.fw.running.svn.toNat) ∧ d.fw.stage = 4)),
    (let err : Fin 5 := 2;
     let s : State := { pending := [], dev := { live with fw.running := { version := 1, svn := 2, digest := 3 }, fw.state := .boot, fw.stage := 2 } };
     let d := s.dev; decide (d.fw.stage < 5 ∧ d.fw.bootErr = 0 ∧ asleep d = false ∧ d.fw.stage = 2 ∧ err ≠ 0 ∧ err.val ≤ 2)),
    (let err : Fin 5 := 3;
     let s : State := { pending := [], dev := { live with fw.running := { version := 1, svn := 2, digest := 3 }, fw.state := .boot, fw.stage := 2, trust.svnFloor := 255 } };
     let d := s.dev; decide (d.fw.stage < 5 ∧ d.fw.bootErr = 0 ∧ asleep d = false ∧ d.fw.stage = 2 ∧ (err = 0 ∨ err = 3) ∧
     d.fw.running.svn.toNat < d.trust.svnFloor.toNat)),
    (let err : Fin 5 := 4;
     let s : State := { pending := [], dev := { live with fw.running := { version := 1, svn := 2, digest := 3 }, fw.state := .boot, fw.stage := 3 } };
     let d := s.dev; decide (d.fw.stage < 5 ∧ d.fw.bootErr = 0 ∧ asleep d = false ∧ d.fw.stage = 3 ∧ err = 4)),
    (let s : State := { pending := [], dev := live }; let d := s.dev; decide ((5 ≤ d.fw.stage ∨ d.fw.bootErr ≠ 0)))] : List Bool).all id = true := by decide +kernel

/-- States and operands that meet the hypotheses of each clause of CoresClaimCompleteAndReleaseInOrder. -/
theorem witness_CoresClaimCompleteAndReleaseInOrder : ([
    (let x : CoreId := 0; let s : State := { pending := [], dev := { live with fw.state := .restarting } }; let d := s.dev;
     decide (coreStopped d x = true)),
    (let x : CoreId := 0; let s : State := { pending := [], dev := live }; let d := s.dev; let y : CoreId := 3;
     decide (coreStopped d x = false ∧ y ≠ x)),
    (let x : CoreId := 3; let v : Word := 2047;
     let s : State := { pending := [], dev := { live with ec.claimStacks := [(3, [(2047, 15), (5, 0)])] } }; let d := s.dev;
     let src := v.toNat % 2048; let p := 15; let rest := [(5, 0)]; let e := setStack x rest (coreAwake x d);
     decide (coreStopped d x = false ∧ stackOf d x = (src, p) :: rest ∧ (∀ f : Fin 2048, eligibleOn e x f = false))),
    (let x : CoreId := 3; let v : Word := 5;
     let s : State := { pending := [], dev := { live with ec.pend := 1 <<< 2047, ec.srcCfg := [(2047, 0xA39)], ec.claimStacks := [(3, [(5, 2)])] } };
     let d := s.dev; let src := v.toNat % 2048; let p := (2 : Nat); let rest := ([] : List (Nat × Nat));
     let e := setStack x rest (coreAwake x d); decide (coreStopped d x = false ∧ stackOf d x = (src, p) :: rest ∧
     (List.range 2048).any (eligibleOn e x) = true)),
    (let x : CoreId := 0; let v : Word := 0; let s : State := { pending := [], dev := live }; let d := s.dev; let src := v.toNat % 2048;
     decide (coreStopped d x = false ∧ (stackOf d x).head?.map Prod.fst ≠ some src)),
    (let t : Fin 5 := 3; let s : State := { pending := [], dev := { live with power.state := .sleep } }; let d := s.dev;
     let waits := if t.val = 4 then blockDown d 1 else mgtStopped d; decide (waits = true)),
    (let t : Fin 5 := 0; let f : ReleaseFacts := { timerOut := false, coreWaits := false };
     let s : State := { pending := [], dev := live }; let d := s.dev;
     let e := if t.val < 4 then noteWait t f.coreWaits (wakeCore t d) else d; let es := eligible e t;
     let waits := if t.val = 4 then blockDown d 1 else mgtStopped d; decide (waits = false ∧ releases e t es f = false)),
    (let t : Fin 5 := 3; let f : ReleaseFacts := { timerOut := true, coreWaits := false };
     let s : State := { pending := [], dev := { live with ec.pend := 1 <<< 2047, ec.srcCfg := [(2047, 0xA39)] } }; let d := s.dev;
     let e := if t.val < 4 then noteWait t f.coreWaits (wakeCore t d) else d; let es := eligible e t;
     let waits := if t.val = 4 then blockDown d 1 else mgtStopped d; decide (waits = false ∧ t.val < 4 ∧ releases e t es f = true ∧
     e.ec.signalled.getLsbD t = false)),
    (let t : Fin 5 := 3; let f : ReleaseFacts := { timerOut := true, coreWaits := false };
     let s : State := { pending := [], dev := { live with ec.pend := 1 <<< 2047, ec.srcCfg := [(2047, 0xA39)], ec.signalled := 8 } };
     let d := s.dev; let e := if t.val < 4 then noteWait t f.coreWaits (wakeCore t d) else d; let es := eligible e t;
     let waits := if t.val = 4 then blockDown d 1 else mgtStopped d; decide (waits = false ∧ t.val < 4 ∧ releases e t es f = true ∧
     e.ec.signalled.getLsbD t = true)),
    (let t : Fin 5 := 4; let f : ReleaseFacts := { timerOut := true, coreWaits := false };
     let s : State := { pending := [], dev := { live with ec.pend := 1 <<< 2047, ec.srcCfg := [(2047, 0xA49)] } }; let d := s.dev;
     let e := if t.val < 4 then noteWait t f.coreWaits (wakeCore t d) else d; let es := eligible e t;
     let waits := if t.val = 4 then blockDown d 1 else mgtStopped d; decide (waits = false ∧ t.val = 4 ∧ releases e t es f = true)),
    (let t : Fin 5 := 0; let f : ReleaseFacts := { timerOut := false, coreWaits := false };
     let s : State := { pending := [], dev := { live with ec.pend := 1 <<< 2047, ec.srcCfg := [(2047, 0xA49)] } }; let d := s.dev;
     let e := if t.val < 4 then noteWait t f.coreWaits (wakeCore t d) else d; let e : Fin 2048 := 2047; decide (e.val ∈ eligible d 4))] : List Bool).all id = true := by decide +kernel

/-- States and operands that meet the hypotheses of each clause of PendingBitsAreRaisedAndClearedByTheHost. -/
theorem witness_PendingBitsAreRaisedAndClearedByTheHost : ([
    (let w : RegWrite := wr 1; let s : State := { pending := [], dev := live }; let d := s.dev; decide (writeLands w d = true ∧
     blockDown d 1 = false)),
    (let src : Fin 2048 := 0; let w : RegWrite := wr 1; let s : State := { pending := [], dev := live }; let d := s.dev;
     let b : Fin 2048 := 2047; decide (writeLands w d = true ∧ blockDown d 1 = false ∧ b ≠ src)),
    (let rd : RegRead := { who := .pcie, enables := 15 }; let s : State := { pending := [], dev := live }; let d := s.dev;
     decide (readB 1 rd.who d = true)),
    (let r : CauseReg := .power; let k := 0; decide (k ≠ r.key)),
    (let r : CauseReg := .power; let b : Fin 32 := 0; let d : Dev := live; let t := raiseCause r b d; let k := 568;
     decide (countOf t k ≠ countOf d k))] : List Bool).all id = true := by decide +kernel

/-- States and operands that meet the hypotheses of each clause of SnapshotsAndTalliesAreTakenWhole. -/
theorem witness_SnapshotsAndTalliesAreTakenWhole : ([
    (let w : RegWrite := wr 1; let s : State := { pending := [], dev := live }; let d := s.dev; decide (writeLands w d = true ∧
     blockDown d 1 = false ∧ w.value.getLsbD 0 = true ∧ w.value.getLsbD 1 = d.meas.freezeReq)),
    (let w : RegWrite := wr 0; let s : State := { pending := [], dev := live }; let d := s.dev; decide (writeLands w d = true ∧
     blockDown d 1 = false ∧ w.value.getLsbD 0 = false ∧ w.value.getLsbD 1 = d.meas.freezeReq)),
    (let w : RegWrite := wr 2; let s : State := { pending := [], dev := live }; let d := s.dev; decide (writeLands w d = true ∧
     blockDown d 1 = false ∧ w.value.getLsbD 0 = false ∧ w.value.getLsbD 1 ≠ d.meas.freezeReq)),
    (let s : State := { pending := [], dev := { live with meas.snapAt := some 0 } }; let d := s.dev;
     let periodic := d.meas.snapPeriod ≠ 0 ∧ d.meas.periodsTaken < nowMs d / d.meas.snapPeriod; let T := 0;
     decide (d.meas.snapAt = some T ∧ T ≤ nowNs d ∧ (∀ e ∈ d.meas.freezeAt, nowNs d < e.1) ∧ ¬periodic ∧ d.meas.captured = none ∧
     asleep d = false)),
    (let s : State := { pending := [], dev := { live with clock.frac := 1000000000 * 2 ^ 48 } }; let d := s.dev;
     let periodic := d.meas.snapPeriod ≠ 0 ∧ d.meas.periodsTaken < nowMs d / d.meas.snapPeriod;
     decide ((∀ e ∈ d.meas.freezeAt, nowNs d < e.1) ∧ periodic ∧ d.meas.captured = none ∧ asleep d = false)),
    (let s : State := { pending := [], dev := live }; let d := s.dev;
     let periodic := d.meas.snapPeriod ≠ 0 ∧ d.meas.periodsTaken < nowMs d / d.meas.snapPeriod;
     decide ((∀ e ∈ d.meas.freezeAt, nowNs d < e.1) ∧ ¬periodic)),
    (let s : State := { pending := [], dev := { live with meas.captured := some {} } }; let d := s.dev; let x := {};
     decide (d.meas.captured = some x ∧ asleep d = false)),
    (let s : State := { pending := [], dev := live }; let d := s.dev; decide (d.meas.captured = none)),
    (let w : RegWrite := wr 1; let s : State := { pending := [], dev := live }; let d := s.dev; decide (landsB 1 w d = true)),
    (let w : RegWrite := { who := .firmware, enables := 0xF, value := 1 }; decide (w.who = .firmware)),
    (let t : Fin 32 := 0; let samples : List (BitVec 16) := List.replicate 16 0;
     let s : State := { pending := [], dev := { live with clock.plain := 10000 * 2 ^ 48 } }; let d := s.dev;
     let r := d.bench.rowHeld.getD (rowOf d d.meas.row); let k : Fin 32 := 31; decide (d.meas.run = true ∧
     samples.length = r.repeatM1 + 1 ∧ d.power.state ≠ .deepSleep ∧ d.power.state ≠ .off ∧ r.tally = t.val ∧
     (asleep d = true ∨ d.meas.rowAt + 500 * (r.delay + r.repeatM1 + 1) ≤ elapsedNs d) ∧ k ≠ t)),
    (let t : Fin 32 := 0; let samples : List (BitVec 16) := List.replicate 16 0;
     let s : State := { pending := [], dev := { live with clock.plain := 10000 * 2 ^ 48 } }; let d := s.dev; let x := tallyOf d t;
     let r := d.bench.rowHeld.getD (rowOf d d.meas.row); decide (d.meas.run = true ∧ samples.length = r.repeatM1 + 1 ∧
     d.power.state ≠ .deepSleep ∧ d.power.state ≠ .off ∧ r.tally = t.val ∧
     (asleep d = true ∨ d.meas.rowAt + 500 * (r.delay + r.repeatM1 + 1) ≤ elapsedNs d) ∧ x.count + samples.length ≤ 0xFFFFFFFF)),
    (let t : Fin 32 := 0; let samples : List (BitVec 16) := List.replicate 16 0;
     let s : State := { pending := [], dev := { live with clock.plain := 10000 * 2 ^ 48 } }; let d := s.dev;
     let r := d.bench.rowHeld.getD (rowOf d d.meas.row); decide (d.meas.run = true ∧ samples.length = r.repeatM1 + 1 ∧
     d.power.state ≠ .deepSleep ∧ d.power.state ≠ .off ∧ r.tally = t.val ∧
     (asleep d = true ∨ d.meas.rowAt + 500 * (r.delay + r.repeatM1 + 1) ≤ elapsedNs d))),
    (let t : Fin 32 := 0; let samples : List (BitVec 16) := List.replicate 16 0;
     let s : State := { pending := [], dev := { live with clock.plain := 10000 * 2 ^ 48 } }; let d := s.dev;
     let r := d.bench.rowHeld.getD (rowOf d d.meas.row); decide (d.meas.run = true ∧ samples.length = r.repeatM1 + 1 ∧
     d.power.state ≠ .deepSleep ∧ d.power.state ≠ .off ∧ r.tally = t.val ∧
     (asleep d = true ∨ d.meas.rowAt + 500 * (r.delay + r.repeatM1 + 1) ≤ elapsedNs d) ∧ d.meas.row + 1 < d.meas.seqLenNow)),
    (let t : Fin 32 := 0; let samples : List (BitVec 16) := List.replicate 16 0;
     let s : State := { pending := [], dev := { live with clock.plain := 10000 * 2 ^ 48, meas.seqLenNow := 1 } }; let d := s.dev;
     let r := d.bench.rowHeld.getD (rowOf d d.meas.row); decide (d.meas.run = true ∧ samples.length = r.repeatM1 + 1 ∧
     d.power.state ≠ .deepSleep ∧ d.power.state ≠ .off ∧ r.tally = t.val ∧
     (asleep d = true ∨ d.meas.rowAt + 500 * (r.delay + r.repeatM1 + 1) ≤ elapsedNs d) ∧ d.meas.seqLenNow ≤ d.meas.row + 1)),
    (let s : State := { pending := [], dev := live }; let d := s.dev; let r := d.bench.rowHeld.getD (rowOf d d.meas.row);
     decide ((d.meas.run = false ∨ (asleep d = false ∧ elapsedNs d < d.meas.rowAt + 500 * (r.delay + r.repeatM1 + 1))))),
    (let w : RegWrite := wr 0x80001F00;
     let s : State := { pending := [], dev := { live with meas.run := false, meas.tallies := [(31, { count := 0xFFFFFFFE })] } };
     let d := s.dev; let r := d.bench.rowHeld.getD (rowOf d d.meas.row); decide (writeLands w d = true ∧ blockDown d 1 = false ∧
     w.value.getLsbD 31 = true ∧ d.meas.urgent = none ∧ (d.meas.run = false ∨ elapsedNs d + 500 ≤ d.meas.rowAt + 500 * r.delay))),
    (let w : RegWrite := wr 0x80001F00; let s : State := { pending := [], dev := { live with meas.urgent := some (7, 31, 5) } };
     let d := s.dev; let r := d.bench.rowHeld.getD (rowOf d d.meas.row); decide (writeLands w d = true ∧ blockDown d 1 = false ∧
     w.value.getLsbD 31 = true ∧ (d.meas.urgent ≠ none ∨ (d.meas.run = true ∧ d.meas.rowAt + 500 * r.delay < elapsedNs d + 500)))),
    (let w : RegWrite := wr 1; let s : State := { pending := [], dev := live }; let d := s.dev; decide (writeLands w d = true ∧
     blockDown d 1 = false)),
    (let w : RegWrite := wr 0x80001F00;
     let s : State := { pending := [], dev := { live with meas.run := false, meas.tallies := [(31, { count := 0xFFFFFFFE })] } };
     let d := s.dev; let v := w.value.toNat; decide (writeLands w d = true ∧ blockDown d 1 = false ∧ 1 ≤ v / 256 % 256 ∧
     v / 256 % 256 ≤ 128)),
    (let n : Fin 128 := 0; let w : RegWrite := wr 1; let s : State := { pending := [], dev := live }; let d := s.dev;
     let k : Fin 128 := 31; decide (writeLands w d = true ∧ blockDown d 1 = false ∧ k ≠ n)),
    (let n : Fin 128 := 0; let w : RegWrite := wr 1; let s : State := { pending := [], dev := live }; let d := s.dev;
     decide (writeLands w d = true ∧ blockDown d 1 = false ∧ d.meas.run = true ∧ d.meas.row = n.val ∧ d.bench.rowHeld = none)),
    (let n : Fin 128 := 127; let w : RegWrite := wr 1; let s : State := { pending := [], dev := live }; let d := s.dev;
     decide (writeLands w d = true ∧ blockDown d 1 = false ∧ d.meas.row ≠ n.val)),
    (let t : Fin 32 := 0; let rd : RegRead := { who := .pcie, enables := 15 }; let s : State := { pending := [], dev := live };
     let d := s.dev; let k : Fin 32 := 31; decide (readB 1 rd.who d = true ∧ k ≠ t)),
    (let s : State := { pending := [], dev := { live with clock.plain := 7 * 2 ^ 48, meas.urgent := some (7, 31, 5) } }; let d := s.dev;
     let due := (7 : Nat); let k := (31 : Nat); let smp := 5; let j : Fin 32 := 0; decide (d.meas.urgent = some (due, k, smp) ∧
     due ≤ elapsedNs d ∧ j.val ≠ k)),
    (let s : State := { pending := [], dev := { live with clock.plain := 7 * 2 ^ 48, meas.urgent := some (7, 31, 5) } }; let d := s.dev;
     let due := (7 : Nat); let k := (31 : Nat); let smp := 5; decide (d.meas.urgent = some (due, k, smp) ∧ due ≤ elapsedNs d ∧
     (tallyOf d k).count < 0xFFFFFFFF)),
    (let s : State := { pending := [], dev := { live with clock.plain := 7 * 2 ^ 48, meas.urgent := some (7, 31, 5), meas.tallies := [(31, { count := 0xFFFFFFFF })] } };
     let d := s.dev; let due := (7 : Nat); let k := (31 : Nat); let smp := 5; decide (d.meas.urgent = some (due, k, smp) ∧
     due ≤ elapsedNs d ∧ (tallyOf d k).count = 0xFFFFFFFF))] : List Bool).all id = true := by decide +kernel

/-- States and operands that meet the hypotheses of each clause of CalibrationRunsInTurn. -/
theorem witness_CalibrationRunsInTurn : ([
    (let n : Engine := 15;
     let s : State := { pending := [], dev := { live with bench.cal := [(15, { calReset 15 with state := .pending })], bench.calOrder := [15], rx.engines := [(15, { los := false })] } };
     let d := s.dev; let m : Engine := 12; decide (calMayStart d n = true ∧ m.val / 4 = n.val / 4)),
    (let n : Engine := 15;
     let s : State := { pending := [], dev := { live with bench.cal := [(15, { calReset 15 with state := .pending })], bench.calOrder := [15], rx.engines := [(15, { los := false })] } };
     let d := s.dev; let m : Engine := 12; decide (calMayStart d n = true ∧ m ≠ n)),
    (let n : Engine := 0; let s : State := { pending := [], dev := live }; let d := s.dev; decide (calMayStart d n = false)),
    (let n : Engine := 0;
     let s : State := { pending := [], dev := { live with bench.cal := [(0, { calReset 0 with state := .running })], clock.plain := 50000000 * 2 ^ 48 } };
     let d := s.dev; let x := calOf d n; let endAt := x.startAt + 40000000 + (if dacReady d n then 10000000 else 0); let m : Engine := 15;
     decide (x.state = .running ∧ endAt ≤ elapsedNs d ∧ m ≠ n)),
    (let n : Engine := 0;
     let s : State := { pending := [], dev := { live with bench.cal := [(0, { calReset 0 with state := .running })], clock.plain := 50000000 * 2 ^ 48 } };
     let d := s.dev; let x := calOf d n; let endAt := x.startAt + 40000000 + (if dacReady d n then 10000000 else 0);
     decide (x.state = .running ∧ endAt ≤ elapsedNs d ∧ x.again = 0)),
    (let n : Engine := 0;
     let s : State := { pending := [], dev := { live with bench.cal := [(0, { calReset 0 with state := .running, again := 1 })], clock.plain := 50000000 * 2 ^ 48 } };
     let d := s.dev; let x := calOf d n; let endAt := x.startAt + 40000000 + (if dacReady d n then 10000000 else 0);
     decide (x.state = .running ∧ endAt ≤ elapsedNs d ∧ x.again ≠ 0)),
    (let n : Engine := 0;
     let s : State := { pending := [], dev := { live with bench.cal := [(0, { calReset 0 with state := .running })], clock.plain := 50000000 * 2 ^ 48 } };
     let d := s.dev; let x := calOf d n; let endAt := x.startAt + 40000000 + (if dacReady d n then 10000000 else 0);
     decide (x.state = .running ∧ endAt ≤ elapsedNs d ∧ dacReady d n = false)),
    (let n : Engine := 0; let s : State := { pending := [], dev := live }; let d := s.dev; let x := calOf d n;
     let endAt := x.startAt + 40000000 + (if dacReady d n then 10000000 else 0); decide ((x.state ≠ .running ∨ elapsedNs d < endAt))),
    (let n : Engine := 0;
     let s : State := { pending := [], dev := { live with bench.cal := [(0, { calReset 0 with state := .running })], rx.engines := [(0, { los := false })], clock.plain := 39999999 * 2 ^ 48 } };
     let d := s.dev; let x := calOf d n; let m : Engine := 15; decide (x.state = .running ∧ (engRx d n).los = false ∧
     engineOff d n = false ∧ elapsedNs d < x.startAt + 40000000 ∧ m ≠ n)),
    (let s : State := { pending := [], dev := live }; let d := s.dev; decide (nowNs d / 100000000 ≤ d.bench.evaluated)),
    (let n : Engine := 15; let s : State := { pending := [], dev := { live with clock.frac := 100000000 * 2 ^ 48 } }; let d := s.dev;
     let x := calOf d n; decide (d.bench.evaluated < nowNs d / 100000000 ∧ x.state = .idle)),
    (let n : Engine := 0;
     let s : State := { pending := [], dev := { live with bench.cal := [(0, { calReset 0 with state := .deferred })], clock.frac := 100000000 * 2 ^ 48 } };
     let d := s.dev; let x := calOf d n; decide (d.bench.evaluated < nowNs d / 100000000 ∧
     (x.state = .pending ∨ x.state = .deferred ∨ x.state = .running)))] : List Bool).all id = true := by decide +kernel

/-- States and operands that meet the hypotheses of each clause of WakesAndSurgesFollowTheirEnables. -/
theorem witness_WakesAndSurgesFollowTheirEnables : ([
    (let s : State := { pending := [], dev := { live with power.state := .off } }; let d := s.dev; decide (d.power.state = .off)),
    (let n : Engine := 0; let s : State := { pending := [], dev := live }; let d := s.dev; decide (d.power.engineMask.getLsbD n = true)),
    (let n : Engine := 15; let s : State := { pending := [], dev := { live with power.engineMask := 0x7FFF } }; let d := s.dev;
     decide (d.power.engineMask.getLsbD n = false)),
    (let l : Lane := 127; let s : State := { pending := [], dev := { live with power.state := .sleep, pins.lanesBefore := 1 <<< 127 } };
     let d := s.dev; decide (d.pins.lanesBefore.getLsbD l = true ∧ d.power.state ≠ .deepSleep)),
    (let l : Lane := 0; let s : State := { pending := [], dev := live }; let d := s.dev;
     decide ((d.pins.lanesBefore.getLsbD l = false ∨ d.power.state = .deepSleep))),
    (let s : State := { pending := [], dev := { live with power.state := .deepSleep, power.wakeTimer := 1 } }; let d := s.dev;
     decide ((d.power.state = .sleep ∨ d.power.state = .deepSleep) ∧ d.power.wakeTimer ≠ 0)),
    (let s : State := { pending := [], dev := live }; let d := s.dev; decide (d.power.wakeTimer = 0)),
    (let words : Vector (BitVec 64) 4 := 0; let s : State := { pending := [], dev := live }; let d := s.dev;
     decide ((d.power.state = .off ∨ words.toList.any (fun w => decide (4 < bitErrors w wakeWord)) = true))),
    (let n : Engine := 0; let words : Vector (BitVec 64) 4 := #v[wakeWord, wakeWord, wakeWord, wakeWord];
     let s : State := { pending := [], dev := live }; let d := s.dev; decide (d.power.state ≠ .off ∧
     words.toList.all (fun w => decide (bitErrors w wakeWord ≤ 4)) = true ∧
     (d.power.engineMask.getLsbD n = false ∨ d.power.wakeEn.getLsbD 2 = false ∨ asleep d = false))),
    (let n : Engine := 0; let words : Vector (BitVec 64) 4 := #v[wakeWord, wakeWord, wakeWord, wakeWord];
     let s : State := { pending := [], dev := { live with power.state := .sleep, power.wakeEn := 7, power.engineMask := 0xFFFF } };
     let d := s.dev; decide (d.power.state ≠ .off ∧ words.toList.all (fun w => decide (bitErrors w wakeWord ≤ 4)) = true ∧
     d.power.engineMask.getLsbD n = true ∧ d.power.wakeEn.getLsbD 2 = true ∧ (d.power.state = .sleep ∨ d.power.state = .deepSleep) ∧
     d.pins.tripEntry = false)),
    (let s : State := { pending := [], dev := { live with power.surge := .revoked, pins.estimateP3 := 900, power.exhausted := true, power.credit := 2000 } };
     let d := s.dev; let u := 40 * d.power.credit + d.power.creditPart; decide (asleep d = false ∧
     (d.power.state ≠ .entering ∨ d.power.stage < 5) ∧ (d.power.surge = .requested ∨ d.power.surge = .revoked) ∧
     d.power.surgeEnable = true ∧ d.pins.estimateP3 ≤ 900 ∧ d.power.hot = false ∧
     (if d.power.exhausted then d.power.regrant ≤ d.power.credit else 0 < u))),
    (let s : State := { pending := [], dev := live }; let d := s.dev;
     decide ((d.power.surgeEnable = false ∨ 900 < d.pins.estimateP3 ∨ d.power.hot = true ∨ d.power.surge = .none ∨ (d.power.state = .entering ∧
     5 ≤ d.power.stage)))),
    (let s : State := { pending := [], dev := { live with pins.estimateAt := some 0 } }; let d := s.dev; let at_ := (0 : Nat);
     decide (d.pins.estimateAt = some at_ ∧ elapsedNs d < at_ + 100000)),
    (let now : Nat := 901; let s : State := { pending := [], dev := { live with power.surge := .granted } }; let d := s.dev;
     let u := 40 * d.power.credit + d.power.creditPart; decide (asleep d = false ∧ u ≤ 800000 ∧ d.power.creditPart < 40 ∧
     (∀ at_, d.pins.estimateAt = some at_ → at_ + 100000 ≤ elapsedNs d) ∧ 900 < now ∧ d.power.surge = .granted)),
    (let s : State := { pending := [], dev := { live with power.surge := .granted, power.credit := 0 } }; let d := s.dev;
     let u := 40 * d.power.credit + d.power.creditPart; decide (asleep d = false ∧ d.power.surge = .granted ∧ u = 0)),
    (let s : State := { pending := [], dev := live }; let d := s.dev; let u := 40 * d.power.credit + d.power.creditPart;
     decide ((d.power.surge ≠ .granted ∨ u ≠ 0))),
    (let s : State := { pending := [], dev := live }; let d := s.dev; decide (d.power.surge ≠ .granted)),
    (let s : State := { pending := [], dev := { live with power.poolRise := some (3, 0), clock.plain := 25000 * 2 ^ 48 } }; let d := s.dev;
     let p := (3 : Nat); let at_ := (0 : Nat); decide (asleep d = false ∧ d.power.poolRise = some (p, at_) ∧ at_ + 25000 ≤ elapsedNs d ∧
     (d.power.mgtRise).all (fun r => decide (elapsedNs d < r.2 + 25000)) = true)),
    (let s : State := { pending := [], dev := { live with power.mgtRise := some (2, 0), clock.plain := 25000 * 2 ^ 48 } }; let d := s.dev;
     let p := (2 : Nat); let at_ := (0 : Nat); decide (asleep d = false ∧ d.power.mgtRise = some (p, at_) ∧ at_ + 25000 ≤ elapsedNs d ∧
     (d.power.poolRise).all (fun r => decide (elapsedNs d < r.2 + 25000)) = true ∧ d.power.mgtNext = none)),
    (let s : State := { pending := [], dev := { live with power.mgtRise := some (2, 0), power.mgtNext := some 1, clock.plain := 25000 * 2 ^ 48 } };
     let d := s.dev; let p := (2 : Nat); let at_ := (0 : Nat); let q := (1 : Nat); decide (asleep d = false ∧
     d.power.mgtRise = some (p, at_) ∧ at_ + 25000 ≤ elapsedNs d ∧
     (d.power.poolRise).all (fun r => decide (elapsedNs d < r.2 + 25000)) = true ∧ d.power.mgtNext = some q ∧
     min q d.power.mgtMax ≤ min p d.power.mgtMax)),
    (let s : State := { pending := [], dev := { live with power.mgtRise := some (0, 0), power.mgtNext := some 1, clock.plain := 25000 * 2 ^ 48 } };
     let d := s.dev; let p := (0 : Nat); let at_ := (0 : Nat); let q := (1 : Nat); decide (asleep d = false ∧
     d.power.mgtRise = some (p, at_) ∧ at_ + 25000 ≤ elapsedNs d ∧
     (d.power.poolRise).all (fun r => decide (elapsedNs d < r.2 + 25000)) = true ∧ d.power.mgtNext = some q ∧
     min p d.power.mgtMax < min q d.power.mgtMax)),
    (let s : State := { pending := [], dev := live }; let d := s.dev;
     decide ((d.power.poolRise).all (fun r => decide (elapsedNs d < r.2 + 25000)) = true ∧
     (d.power.mgtRise).all (fun r => decide (elapsedNs d < r.2 + 25000)) = true)),
    (let s : State := { pending := [], dev := live }; let d := s.dev; decide (d.power.state ≠ .off ∧
     d.pins.lastWarn.all (fun w => decide (w + 1000000000 ≤ nowNs d)) = true)),
    (let s : State := { pending := [], dev := { live with pins.lastWarn := some 1, clock.frac := 1000000000 * 2 ^ 48 } }; let d := s.dev;
     let w := 1; decide (d.pins.lastWarn = some w ∧ nowNs d < w + 1000000000))] : List Bool).all id = true := by decide +kernel

/-- States and operands that meet the hypotheses of each clause of AbortPointsAndTheTripEndTheEntry. -/
theorem witness_AbortPointsAndTheTripEndTheEntry : ([
    (let s : State := { pending := [], dev := entering 2 }; let d := s.dev; decide (d.power.state = .entering ∧ d.pins.tripEntry = false ∧
     d.fw.state = .running ∧ stageRefusal d = none ∧ d.pins.wakeSeen = false ∧ d.power.stage < 5 ∧ d.power.stage = 2)),
    (let s : State := { pending := [], dev := entering 3 }; let d := s.dev; decide (d.power.state = .entering ∧ d.pins.tripEntry = false ∧
     d.fw.state = .running ∧ stageRefusal d = none ∧ d.pins.wakeSeen = false ∧ d.power.stage < 5 ∧ d.power.stage = 3)),
    (let s : State := { pending := [], dev := entering 4 }; let d := s.dev; decide (d.power.state = .entering ∧ d.pins.tripEntry = false ∧
     d.fw.state = .running ∧ stageRefusal d = none ∧ d.pins.wakeSeen = false ∧ d.power.stage < 5 ∧ d.power.stage = 4)),
    (let mb : Mailbox := 7; let s : State := { pending := [], dev := entering 5 }; let d := s.dev; decide (d.power.state = .entering ∧
     d.pins.tripEntry = false ∧ d.fw.state = .running ∧ d.pins.wakeSeen = false ∧ d.power.stage = 5 ∧ d.pins.entryMailbox = some mb.val ∧
     (box d mb).releaseAtPost = false)),
    (let s : State := { pending := [], dev := { entering 1 with pins.wakeSeen := true } }; let d := s.dev;
     decide (d.power.state = .entering ∧ d.pins.tripEntry = false ∧ d.fw.state = .running ∧ stageRefusal d = none ∧ d.pins.wakeSeen = true)),
    (let r : Fin 256 := 4; let s : State := { pending := [], dev := entering 5 }; let d := s.dev; decide (d.power.state = .entering ∧
     d.pins.tripEntry = false ∧ d.fw.state = .running ∧ stageRefusal d = none ∧ mayRefuse d = some r.val)),
    (let s : State := { pending := [], dev := { entering 1 with slots.engines := [(15, { armed := some { time := 0, mask := 1, frames := [] } })] } };
     let d := s.dev; decide (d.power.state = .entering ∧ d.pins.tripEntry = false ∧ d.fw.state = .running ∧ d.power.stage = 1 ∧
     (∃ m : Engine, (engineSwap d m).armed.isSome = true))),
    (let s : State := { pending := [], dev := { entering 1 with mem.fill := some (0, 1) } }; let d := s.dev;
     decide (d.power.state = .entering ∧ d.pins.tripEntry = false ∧ d.fw.state = .running ∧ d.power.stage = 1 ∧
     (∀ m : Engine, (engineSwap d m).armed = none) ∧ (∀ c : Coach, (coachSwap d c).armed = none) ∧ d.mem.fill.isSome = true)),
    (let s : State := { pending := [], dev := live }; let d := s.dev; decide (d.power.state ≠ .entering)),
    (let n : Engine := 15; let s : State := { pending := [], dev := { live with tx.engines := [(15, { state := .running })] } };
     let d := s.dev; decide (d.power.state ≠ .off ∧ mutable (engTx d n).state = true)),
    (let s : State := { pending := [], dev := live }; let d := s.dev; decide (d.power.state ≠ .off ∧
     (d.power.state = .run ∨ d.power.state = .idle))),
    (let mb : Mailbox := 7; let s : State := { pending := [], dev := entering 5 }; let d := s.dev; decide (d.power.state ≠ .off ∧
     d.power.state = .entering ∧ d.pins.entryMailbox = some mb.val ∧ (box d mb).releaseAtPost = false)),
    (let s : State := { pending := [], dev := live }; let d := s.dev; decide (d.power.state ≠ .off ∧
     (d.power.state = .run ∨ d.power.state = .idle ∨ d.power.state = .entering))),
    (let s : State := { pending := [], dev := { live with power.state := .leaving, pins.target := .sleep, pins.sleeping := true } };
     let d := s.dev; decide (d.power.state ≠ .off ∧ d.power.state = .leaving)),
    (let s : State := { pending := [], dev := { live with power.state := .deepSleep, pins.target := .deepSleep, pins.sleeping := true } };
     let d := s.dev; decide (d.power.state ≠ .off ∧ (d.power.state = .sleep ∨ d.power.state = .deepSleep))),
    (let s : State := { pending := [], dev := { live with power.state := .off } }; let d := s.dev; decide (d.power.state = .off)),
    (let s : State := { pending := [], dev := { entering 4 with pins.tripEntry := true } }; let d := s.dev;
     decide (d.power.state = .entering ∧ d.pins.tripEntry = true ∧ d.power.stage < 5)),
    (let s : State := { pending := [], dev := { entering 5 with pins.tripEntry := true } }; let d := s.dev;
     decide (d.power.state = .entering ∧ d.pins.tripEntry = true ∧ 5 ≤ d.power.stage)),
    (let w : RegWrite := wr 1; let s : State := { pending := [], dev := live }; let d := s.dev; decide (landsB 0xFF w d = true)),
    (let w : RegWrite := { who := .firmware, enables := 0xF, value := 1 }; decide (w.who = .firmware))] : List Bool).all id = true := by decide +kernel

/-- States and operands that meet the hypotheses of each clause of TheDeviceReturnsToRun. -/
theorem witness_TheDeviceReturnsToRun : ([
    (let ns : Nat := 0; let s : State := { pending := [], dev := { live with power.state := .leaving } }; let d := s.dev;
     decide (d.power.state = .leaving ∧ (d.power.wakeCause ≠ 5 ∨ d.power.wakeTimer * 1000000000 ≤ ns) ∧ 5 ≤ d.fw.stage)),
    (let ns : Nat := 0; let s : State := { pending := [], dev := { live with power.state := .leaving, fw.stage := 2 } }; let d := s.dev;
     decide (d.power.state = .leaving ∧ (d.power.wakeCause ≠ 5 ∨ d.power.wakeTimer * 1000000000 ≤ ns) ∧ d.fw.stage < 5)),
    (let ns : Nat := 0; let s : State := { pending := [], dev := { live with power.state := .leaving } }; let d := s.dev;
     decide (d.power.state = .leaving ∧ (d.power.wakeCause ≠ 5 ∨ d.power.wakeTimer * 1000000000 ≤ ns) ∧ d.power.connRetain = false)),
    (let ns : Nat := 0;
     let s : State := { pending := [], dev := { live with power.state := .leaving, power.connRetain := true, pins.target := .sleep } };
     let d := s.dev; decide (d.power.state = .leaving ∧ (d.power.wakeCause ≠ 5 ∨ d.power.wakeTimer * 1000000000 ≤ ns) ∧
     d.power.connRetain = true)),
    (let ns : Nat := 0; let s : State := { pending := [], dev := { live with power.state := .leaving } }; let d := s.dev;
     decide (d.power.state = .leaving ∧ (d.power.wakeCause ≠ 5 ∨ d.power.wakeTimer * 1000000000 ≤ ns) ∧ d.pins.target ≠ .sleep)),
    (let ns : Nat := 0; let s : State := { pending := [], dev := live }; let d := s.dev;
     decide ((d.power.state ≠ .leaving ∨ (d.power.wakeCause = 5 ∧ ns < d.power.wakeTimer * 1000000000)))),
    (let s : State := { pending := [], dev := live }; let d := s.dev; decide (d.power.state = .run ∧ d.power.allowIdle = true ∧
     d.fw.state = .running ∧ d.mail.transfers = [])),
    (let s : State := { pending := [], dev := { live with power.state := .leaving } }; let d := s.dev;
     decide ((d.power.state ≠ .run ∨ d.power.allowIdle = false))),
    (let s : State := { pending := [], dev := { live with power.state := .idle, mail.order := [7] } }; let d := s.dev;
     decide (d.power.state = .idle ∧ (∃ x : CoreId, wokenCore d x = true) ∨ (firstPending d d.mail.order).isSome = true ∧
     (firstPending d d.mail.order).isSome = true)),
    (let s : State := { pending := [], dev := { live with power.state := .idle } }; let d := s.dev; decide (d.power.state = .idle ∧
     (∀ x : CoreId, wokenCore d x = false) ∧ (firstPending d d.mail.order).isSome = false)),
    (let n : Engine := 15; let on : Bool := true; let rest : List (Nat × Nat × Bool) := [(1, 0, false)];
     let s : State := { pending := [], dev := { live with pins.domainChanging := [(0, 15, true), (1, 0, false)] } }; let d := s.dev;
     decide (asleep d = false ∧ d.pins.domainChanging = (0, n.val, on) :: rest)),
    (let n : Engine := 15; let on : Bool := true; let rest : List (Nat × Nat × Bool) := [(1, 0, false)];
     let s : State := { pending := [], dev := { live with pins.domainChanging := [(0, 15, true), (1, 0, false)] } }; let d := s.dev;
     decide (asleep d = false ∧ d.pins.domainChanging = (0, n.val, on) :: rest ∧ on = true)),
    (let s : State := { pending := [], dev := live }; let d := s.dev; decide (d.pins.domainChanging = []))] : List Bool).all id = true := by decide +kernel

/-- States and operands that meet the hypotheses of each clause of OwnRuleRegistersFollowTheirRule. -/
theorem witness_OwnRuleRegistersFollowTheirRule : ([
    (let who : Accessor := .pcie; let v : Word := 0; let s : State := { pending := [], dev := live }; let d := s.dev;
     let w : RegWrite := { who := who, enables := 0xF, value := v }; decide (landsB 0xFF w d = true)),
    (let who : Accessor := .pcie; let v : Word := 0; let t5 : Fin 5 := 0; let s : State := { pending := [], dev := live }; let d := s.dev;
     let w : RegWrite := { who := who, enables := 0xF, value := v }; let k : Fin 5 := 4; decide (landsB 1 w d = true ∧ k ≠ t5)),
    (let o : Word := 0x4FFFC; let who : Accessor := .smp; let v : Word := 0;
     let s : State := { pending := [], dev := { live with power.state := .sleep } }; let d := s.dev;
     let w : RegWrite := { who := who, enables := 0xF, value := v }; decide (writeLands w d = true ∧ o.toNat % 4 = 0 ∧
     blockDown d (windowBlock o.toNat) = true ∧ inDiag o.toNat = false)),
    (let o : Word := 0x1000000; let who : Accessor := .pcie; let v : Word := 0; let s : State := { pending := [], dev := live };
     let d := s.dev; let w : RegWrite := { who := who, enables := 0xF, value := v }; decide (writeLands w d = true ∧ o.toNat % 4 = 0 ∧
     inDiag o.toNat = true ∧ diagLocked d = true)),
    (let o : Word := 0; let s : State := { pending := [], dev := live }; let d := s.dev; decide (smpAnswers d = true ∧
     inDiag o.toNat = false ∧ d.mail.smpPointer = o ∧ o.toNat % 4 = 0)),
    (let s : State := { pending := [], dev := { live with power.state := .off } }; let d := s.dev; decide (smpAnswers d = false))] : List Bool).all id = true := by decide +kernel

/-- States and operands that meet the hypotheses of each clause of AResetKeepsOnlyTheOneTimeMemory. -/
theorem witness_AResetKeepsOnlyTheOneTimeMemory : ([
    (let s : State := { pending := [], dev := live }; let d := s.dev; decide ((d.power.state ≠ .off ∨ d.pins.wakeSeen = true))),
    (let s : State := { pending := [], dev := { live with power.state := .off } }; let d := s.dev; decide (d.power.state = .off ∧
     d.pins.wakeSeen = false)),
    (let s : State := { pending := [], dev := live }; let d := s.dev; decide (d.power.state ≠ .off))] : List Bool).all id = true := by decide +kernel

/-- States and operands that meet the hypotheses of each clause of LimitsMoveOnlyByTheHost. -/
theorem witness_LimitsMoveOnlyByTheHost : ([
    (let s : State := { pending := [], dev := live }; let front (p : Instr → Bool) : Bool := s.pending.head?.any p;
     decide (runs (step s) = true ∧ front hostBrakeWrite = false ∧ front isReset = false)),
    (let s : State := { pending := [], dev := live }; let front (p : Instr → Bool) : Bool := s.pending.head?.any p;
     decide (runs (step s) = true ∧ front permanentChange = false ∧ front isReset = false)),
    (let s : State := { pending := [.powerOnReset 0 false], dev := { live with trust.identityErased := true } };
     decide (runs (step s) = true ∧ s.dev.trust.identityErased = true)),
    (let s : State := { pending := [.deviceReset 0 false], dev := { live with trust.tagLocked := 1 <<< 63 } }; let l := 63;
     decide (runs (step s) = true ∧ s.dev.trust.tagLocked.getLsbD l = true))] : List Bool).all id = true := by decide +kernel

/-- States and operands that meet the hypotheses of each clause of LimitsStayInTheirRanges. -/
theorem witness_LimitsStayInTheirRanges : ([
    (let s : State := { pending := [], dev := live }; decide (limitsB s.dev.brakes = true ∧ runs (step s) = true))] : List Bool).all id = true := by decide +kernel

/-- States and operands that meet the hypotheses of each clause of TransmitCommandsComplete. -/
theorem witness_TransmitCommandsComplete : ([
    (let mb : Mailbox := 0; let b : List Byte := sized 0x0201 (body [(1, 0), (1, 1), (1, 0), (1, 48), (16, 0)]);
     let s : State := { pending := [], dev := asking 0x0201 (sized 0x0201 (body [(1, 0), (1, 1), (1, 0), (1, 48), (16, 0)])) (laser1) };
     let d := s.dev; decide (askedB mb 0x0201 b d = true ∧ firstDown d (engineBlock (u8 b 0)) = none ∧ freezeOn d = false ∧
     firstOf (engTxChecks d b) = none)),
    (let mb : Mailbox := 0; let b : List Byte := sized 0x0202 (body [(2, 0), (1, 30), (1, 1), (1, 3), (1, 0), (2, 0), (2, 1), (2, 1)]);
     let s : State := { pending := [], dev := asking 0x0202 (sized 0x0202 (body [(2, 0), (1, 30), (1, 1), (1, 3), (1, 0), (2, 0), (2, 1), (2, 1)])) (laser1) };
     let d := s.dev; decide (askedB mb 0x0202 b d = true ∧ firstDown d (1 :: coachBlock (u16 b 0)) = none ∧ freezeOn d = false ∧
     firstOf (coachChecks d b) = none)),
    (let mb : Mailbox := 0; let b : List Byte := sized 0x0203 (body [(2, 0), (1, 30), (1, 1), (1, 3), (1, 0), (2, 0), (2, 1), (2, 1)]);
     let s : State := { pending := [], dev := asking 0x0203 (sized 0x0203 (body [(2, 0), (1, 30), (1, 1), (1, 3), (1, 0), (2, 0), (2, 1), (2, 1)])) (laser1) };
     let d := s.dev; decide (askedB mb 0x0203 b d = true ∧ firstDown d (1 :: coachBlock (u16 b 0)) = none ∧
     firstOf (coachChecks d b) = none)),
    (let mb : Mailbox := 0; let b : List Byte := sized 0x0204 (body [(8, 0), (2, 64), (2, 0), (4, 4000)]);
     let s : State := { pending := [], dev := asking 0x0204 (sized 0x0204 (body [(8, 0), (2, 64), (2, 0), (4, 4000)])) (laser1) };
     let d := s.dev; decide (askedB mb 0x0204 b d = true ∧ firstDown d (hitchBlocks (u8 b 0)) = none ∧ freezeOn d = false ∧
     firstOf (hitchChecks d b) = none)),
    (let mb : Mailbox := 0; let b : List Byte := sized 0x0205 (body []);
     let s : State := { pending := [], dev := asking 0x0205 (sized 0x0205 (body [])) (laser1) }; let d := s.dev;
     decide (askedB mb 0x0205 b d = true ∧ firstDown d (engineBlock (u8 b 0)) = none ∧ freezeOn d = false ∧ u8 b 0 ≤ 15 ∧ u8 b 1 ≤ 3 ∧
     u8 b 2 ≤ 2 ∧ (u8 b 2 = 1 → u16 b 4 ≤ 120) ∧ -256 ≤ s16 b 6 ∧ s16 b 6 ≤ 256)),
    (let mb : Mailbox := 0; let b : List Byte := sized 0x0206 (body [(1, 15), (1, 5), (1, 2), (1, 0), (2, 3500), (2, 0)]);
     let s : State := { pending := [], dev := asking 0x0206 (sized 0x0206 (body [(1, 15), (1, 5), (1, 2), (1, 0), (2, 3500), (2, 0)])) (live) };
     let d := s.dev; decide (askedB mb 0x0206 b d = true ∧ firstDown d (6 :: engineBlock (u8 b 0)) = none ∧ freezeOn d = false ∧
     u8 b 0 ≤ 15 ∧ u8 b 1 ≤ 5 ∧ u8 b 2 ≤ 2 ∧ (u8 b 2 = 0 → 10 ≤ u16 b 6 ∧ u16 b 6 ≤ 200) ∧
     (u8 b 2 = 2 → biasLow d (6 * u8 b 0 + u8 b 1) ≤ u16 b 4 ∧ u16 b 4 ≤ biasHigh d (6 * u8 b 0 + u8 b 1) ∧ u16 b 4 ≤ 14000) ∧ u8 b 2 = 2)),
    (let mb : Mailbox := 0; let b : List Byte := sized 0x0206 (body [(1, 15), (1, 5), (1, 0), (1, 0), (2, 0), (2, 200)]);
     let s : State := { pending := [], dev := asking 0x0206 (sized 0x0206 (body [(1, 15), (1, 5), (1, 0), (1, 0), (2, 0), (2, 200)])) (live) };
     let d := s.dev; decide (askedB mb 0x0206 b d = true ∧ firstDown d (6 :: engineBlock (u8 b 0)) = none ∧ freezeOn d = false ∧
     u8 b 0 ≤ 15 ∧ u8 b 1 ≤ 5 ∧ u8 b 2 ≤ 2 ∧ (u8 b 2 = 0 → 10 ≤ u16 b 6 ∧ u16 b 6 ≤ 200) ∧
     (u8 b 2 = 2 → biasLow d (6 * u8 b 0 + u8 b 1) ≤ u16 b 4 ∧ u16 b 4 ≤ biasHigh d (6 * u8 b 0 + u8 b 1) ∧ u16 b 4 ≤ 14000) ∧ u8 b 2 = 0)),
    (let mb : Mailbox := 0; let b : List Byte := sized 0x0207 (body []);
     let s : State := { pending := [], dev := asking 0x0207 (sized 0x0207 (body [])) (laser1) }; let d := s.dev;
     decide (askedB mb 0x0207 b d = true ∧ firstDown d (engineBlock (u8 b 0)) = none ∧ u8 b 0 ≤ 15))] : List Bool).all id = true := by decide +kernel

/-- States and operands that meet the hypotheses of each clause of ReceiveCommandsComplete. -/
theorem witness_ReceiveCommandsComplete : ([
    (let mb : Mailbox := 0;
     let b : List Byte := sized 0x0221 (body [(1, 15), (1, 3), (1, 0xFF), (1, 64), (2, 400), (2, 65536 - 500), (2, 60000)]);
     let s : State := { pending := [], dev := asking 0x0221 (sized 0x0221 (body [(1, 15), (1, 3), (1, 0xFF), (1, 64), (2, 400), (2, 65536 - 500), (2, 60000)])) (live) };
     let d := s.dev; decide (askedB mb 0x0221 b d = true ∧ firstDown d (engineBlock (u8 b 0)) = none ∧ freezeOn d = false ∧ u8 b 0 ≤ 15 ∧
     (u8 b 2 ≤ 15 ∨ u8 b 2 = 0xFF) ∧ 8 ≤ u8 b 3 ∧ u8 b 3 ≤ 64 ∧ (flag b 1 1 = true → u16 b 4 ≤ 400) ∧ -3000 ≤ s16 b 6 ∧ s16 b 6 ≤ -500 ∧
     u16 b 8 ≤ 60000 ∧ flag b 1 1 = true)),
    (let mb : Mailbox := 0; let b : List Byte := sized 0x0222 (body [(2, 0), (1, 30), (1, 1), (1, 3), (1, 1), (2, 1), (2, 1), (2, 50)]);
     let s : State := { pending := [], dev := asking 0x0222 (sized 0x0222 (body [(2, 0), (1, 30), (1, 1), (1, 3), (1, 1), (2, 1), (2, 1), (2, 50)])) (laser1) };
     let d := s.dev; decide (askedB mb 0x0222 b d = true ∧ firstDown d (coachBlock (u16 b 0)) = none ∧ freezeOn d = false ∧ u16 b 0 ≤ 255 ∧
     1 ≤ u8 b 2 ∧ u8 b 2 ≤ 40 ∧ u8 b 3 ≤ 2 ∧ (u8 b 4 = 3 ∨ (u8 b 4 = 2 ∧ u8 b 3 = 1 ∧ hitched d (engineOf (u16 b 0)) = false)) ∧
     u16 b 6 ≠ 0 ∧ u16 b 8 ≠ 0 ∧ u16 b 10 ≤ 150 ∧ entropyOver (engTx d (engineOf (u16 b 0))).rate (u8 b 3) (u8 b 2) = false)),
    (let mb : Mailbox := 0; let b : List Byte := sized 0x0223 (body [(2, 0), (2, 0), (4, 0), (4, 0), (4, 1), (4, 4000)]);
     let s : State := { pending := [], dev := asking 0x0223 (sized 0x0223 (body [(2, 0), (2, 0), (4, 0), (4, 0), (4, 1), (4, 4000)])) (laser1) };
     let d := s.dev; decide (askedB mb 0x0223 b d = true ∧ firstDown d (coachBlock (u16 b 0)) = none ∧ freezeOn d = false ∧ u16 b 0 ≤ 255 ∧
     u8 b 2 ≤ 3 ∧ 1 ≤ u16 b 12 ∧ u16 b 12 ≤ 64 ∧ u32 b 16 ≤ 4000 ∧
     mag (s32 b 4) + (if u32 b 8 = 0xFFFFFFFF then cdRange (engTx d (engineOf (u16 b 0))).rate else u32 b 8) ≤ cdRange (engTx d (engineOf (u16 b 0))).rate)),
    (let mb : Mailbox := 0; let b : List Byte := sized 0x0224 (body []);
     let s : State := { pending := [], dev := asking 0x0224 (sized 0x0224 (body [])) (laser1) }; let d := s.dev;
     decide (askedB mb 0x0224 b d = true ∧ firstDown d (engineBlock (u8 b 0)) = none ∧ freezeOn d = false ∧ u8 b 0 ≤ 15)),
    (let mb : Mailbox := 0; let b : List Byte := sized 0x0225 (body []);
     let s : State := { pending := [], dev := asking 0x0225 (sized 0x0225 (body [])) (laser1) }; let d := s.dev;
     decide (askedB mb 0x0225 b d = true ∧ firstDown d (engineBlock (u8 b 0)) = none ∧ u8 b 0 ≤ 15)),
    (let mb : Mailbox := 0; let b : List Byte := sized 0x0226 (body []);
     let s : State := { pending := [], dev := asking 0x0226 (sized 0x0226 (body [])) (laser1) }; let d := s.dev;
     decide (askedB mb 0x0226 b d = true ∧ firstDown d (coachBlock (u16 b 0)) = none ∧ u16 b 0 ≤ 255))] : List Bool).all id = true := by decide +kernel

/-- States and operands that meet the hypotheses of each clause of PoolCommandsComplete. -/
theorem witness_PoolCommandsComplete : ([
    (let mb : Mailbox := 0; let b : List Byte := sized 0x0241 (body [(1, 0), (1, 1), (1, 32), (1, 16), (1, 4)]);
     let s : State := { pending := [], dev := asking 0x0241 (sized 0x0241 (body [(1, 0), (1, 1), (1, 32), (1, 16), (1, 4)])) (laser1) };
     let d := s.dev; decide (askedB mb 0x0241 b d = true ∧ blockDown d 2 = false ∧ freezeOn d = false ∧ u8 b 0 ≤ 2 ∧ u8 b 1 ≤ 2 ∧
     1 ≤ u8 b 3 ∧ u8 b 3 ≤ 64 ∧ 1 ≤ u16 b 4 ∧ u16 b 4 ≤ 1000)),
    (let mb : Mailbox := 0; let b : List Byte := sized 0x0242 (body [(2, 0), (1, 24), (1, 0)]);
     let s : State := { pending := [], dev := asking 0x0242 (sized 0x0242 (body [(2, 0), (1, 24), (1, 0)])) (laser1) }; let d := s.dev;
     decide (askedB mb 0x0242 b d = true ∧ blockDown d 2 = false ∧ freezeOn d = false ∧ u16 b 0 ≤ 255 ∧ u8 b 2 ∈ [4, 8, 12, 16, 20, 24])),
    (let mb : Mailbox := 0; let b : List Byte := sized 0x0243 (body []);
     let s : State := { pending := [], dev := asking 0x0243 (sized 0x0243 (body [])) (laser1) }; let d := s.dev;
     decide (askedB mb 0x0243 b d = true ∧ blockDown d 2 = false)),
    (let mb : Mailbox := 0; let b : List Byte := sized 0x0244 (body []);
     let s : State := { pending := [], dev := asking 0x0244 (sized 0x0244 (body [])) (laser1) }; let d := s.dev;
     decide (askedB mb 0x0244 b d = true ∧ blockDown d 2 = false ∧ u16 b 0 ≤ 255))] : List Bool).all id = true := by decide +kernel

/-- States and operands that meet the hypotheses of each clause of FrameDefectAndMonitoringCommandsComplete. -/
theorem witness_FrameDefectAndMonitoringCommandsComplete : ([
    (let mb : Mailbox := 0; let b : List Byte := sized 0x0301 (body []);
     let s : State := { pending := [], dev := asking 0x0301 (sized 0x0301 (body [])) (laser1) }; let d := s.dev;
     decide (askedB mb 0x0301 b d = true ∧ blockDown d 1 = false ∧ freezeOn d = false ∧ u16 b 0 ≤ 255)),
    (let mb : Mailbox := 0; let b : List Byte := sized 0x0302 (body []);
     let s : State := { pending := [], dev := asking 0x0302 (sized 0x0302 (body [])) (laser1) }; let d := s.dev;
     decide (askedB mb 0x0302 b d = true ∧ blockDown d 1 = false ∧ u16 b 0 ≤ 255)),
    (let mb : Mailbox := 0; let b : List Byte := sized 0x0311 (body []);
     let s : State := { pending := [], dev := asking 0x0311 (sized 0x0311 (body [])) (laser1) }; let d := s.dev;
     decide (askedB mb 0x0311 b d = true ∧ blockDown d 1 = false ∧ freezeOn d = false ∧ firstOf (defectConfigService.checks d b) = none ∧
     u16 b 2 ≠ 0xFFFF)),
    (let mb : Mailbox := 0; let b : List Byte := sized 0x0312 (body []);
     let s : State := { pending := [], dev := asking 0x0312 (sized 0x0312 (body [])) (laser1) }; let d := s.dev;
     decide (askedB mb 0x0312 b d = true ∧ blockDown d 1 = false ∧ u8 b 0 ≤ 1 ∧ u16 b 2 < entityCount (u8 b 0))),
    (let mb : Mailbox := 0; let b : List Byte := sized 0x0313 (body []);
     let s : State := { pending := [], dev := asking 0x0313 (sized 0x0313 (body [])) (laser1) }; let d := s.dev;
     decide (askedB mb 0x0313 b d = true ∧ blockDown d 1 = false ∧ freezeOn d = false ∧ u8 b 0 ≤ 95)),
    (let mb : Mailbox := 0; let b : List Byte := sized 0x0314 (body []);
     let s : State := { pending := [], dev := asking 0x0314 (sized 0x0314 (body [])) (laser1) }; let d := s.dev;
     decide (askedB mb 0x0314 b d = true ∧ blockDown d 1 = false ∧ u8 b 0 ≤ 1 ∧ u8 b 1 ≤ 34 ∧ u16 b 2 < entityCount (u8 b 0) ∧
     d.defects.cleared = true)),
    (let mb : Mailbox := 0; let b : List Byte := sized 0x0315 (body [(1, 1), (1, 3), (2, 4095)]);
     let s : State := { pending := [], dev := asking 0x0315 (sized 0x0315 (body [(1, 1), (1, 3), (2, 4095)])) (live) }; let d := s.dev;
     let t := (0 : Nat); let n := (0 : Nat); decide (askedB mb 0x0315 b d = true ∧ blockDown d 1 = false ∧ freezeOn d = false ∧
     u8 b 0 ≤ 1 ∧ u16 b 2 < entityCount (u8 b 0) ∧ t ≤ 1 ∧ (t, n) ≠ (u8 b 0, u16 b 2)))] : List Bool).all id = true := by decide +kernel

/-- States and operands that meet the hypotheses of each clause of SlotAndQueueCommandsComplete. -/
theorem witness_SlotAndQueueCommandsComplete : ([
    (let mb : Mailbox := 0;
     let b : List Byte := sized 0x0401 (body [(2, 0), (2, 0), (2, 4), (1, 0), (1, 64), (4, 0), (4, 512), (4, 1024), (4, 2048), (4, 0)]);
     let s : State := { pending := [], dev := asking 0x0401 (sized 0x0401 (body [(2, 0), (2, 0), (2, 4), (1, 0), (1, 64), (4, 0), (4, 512), (4, 1024), (4, 2048), (4, 0)])) (laser1) };
     let d := s.dev; decide (askedB mb 0x0401 b d = true ∧ blockDown d 1 = false ∧ freezeOn d = false ∧
     firstOf (queueConfigService.checks d b) = none)),
    (let mb : Mailbox := 0; let b : List Byte := sized 0x0402 (body []);
     let s : State := { pending := [], dev := asking 0x0402 (sized 0x0402 (body [])) (laser1) }; let d := s.dev;
     decide (askedB mb 0x0402 b d = true ∧ blockDown d 1 = false ∧ u16 b 0 ≤ 4095 ∧ u8 b 2 ≤ 1)),
    (let mb : Mailbox := 0; let b : List Byte := sized 0x0403 (body [(2, 0), (2, 15), (2, 639), (2, 1), (4, 0)]);
     let s : State := { pending := [], dev := asking 0x0403 (sized 0x0403 (body [(2, 0), (2, 15), (2, 639), (2, 1), (4, 0)])) (live) };
     let d := s.dev; let i := (0 : Nat); let v := (0 : Word); decide (askedB mb 0x0403 b d = true ∧ firstDown d (pageTargets b) = none ∧
     freezeOn d = false ∧ rangeOk b = true ∧ (entriesIn b).all (entryOk (u8 b 0 == 1)) = true ∧ pageArmed d b = false ∧
     (entriesIn b)[i]? = some v)),
    (let mb : Mailbox := 0; let b : List Byte := sized 0x0404 (body []);
     let s : State := { pending := [], dev := asking 0x0404 (sized 0x0404 (body [])) (laser1) }; let d := s.dev;
     decide (askedB mb 0x0404 b d = true ∧ firstDown d (pageTargets b) = none ∧ rangeOk b = true ∧ u8 b 1 ≤ 1)),
    (let mb : Mailbox := 0; let b : List Byte := sized 0x0405 (body []);
     let s : State := { pending := [], dev := asking 0x0405 (sized 0x0405 (body [])) (laser1) }; let d := s.dev; let i := 0;
     decide (askedB mb 0x0405 b d = true ∧ firstDown d (pageTargets b) = none ∧ freezeOn d = false ∧ u8 b 0 ≤ 1 ∧
     u16 b 2 ≤ (if u8 b 0 = 0 then 15 else 255) ∧ pageArmed d b = false ∧ i < pageSize b)),
    (let mb : Mailbox := 0; let b : List Byte := sized 0x0406 (body [(2, 1), (2, 0), (2, 0), (8, 200), (2, 0)]);
     let s : State := { pending := [], dev := asking 0x0406 (sized 0x0406 (body [(2, 1), (2, 0), (2, 0), (8, 200), (2, 0)])) (launching) };
     let d := s.dev; decide (askedB mb 0x0406 b d = true ∧ firstDown d (1 :: (maskEngines (u16 b 0)).map (0x10 + ·)) = none ∧
     freezeOn d = false ∧ firstOf (slotArmChecks d b) = none)),
    (let mb : Mailbox := 0; let b : List Byte := sized 0x0407 (body []);
     let s : State := { pending := [], dev := asking 0x0407 (sized 0x0407 (body [])) (laser1) }; let d := s.dev;
     decide (askedB mb 0x0407 b d = true ∧ firstDown d (1 :: engineBlock (u8 b 0)) = none ∧ freezeOn d = false ∧
     firstOf (rxSlotArmService.checks d b) = none)),
    (let mb : Mailbox := 0; let b : List Byte := sized 0x0408 (body [(1, 0), (1, 0), (2, 0)]);
     let s : State := { pending := [], dev := asking 0x0408 (sized 0x0408 (body [(1, 0), (1, 0), (2, 0)])) ({ launching with slots := { launching.slots with engines := [(0, { armed := some { time := 10, mask := 1, frames := [] } })] } }) };
     let d := s.dev; decide (askedB mb 0x0408 b d = true ∧ firstDown d (1 :: engineBlock (u8 b 1)) = none ∧ freezeOn d = false ∧
     firstOf (slotCancelService.checks d b) = none)),
    (let mb : Mailbox := 0; let b : List Byte := sized 0x0409 (body []);
     let s : State := { pending := [], dev := asking 0x0409 (sized 0x0409 (body [])) (laser1) }; let d := s.dev;
     decide (askedB mb 0x0409 b d = true ∧ firstDown d (1 :: engineBlock (u8 b 0)) = none ∧ u8 b 0 ≤ 15)),
    (let mb : Mailbox := 0; let b : List Byte := sized 0x040A (body []);
     let s : State := { pending := [], dev := asking 0x040A (sized 0x040A (body [])) (laser1) }; let d := s.dev;
     decide (askedB mb 0x040A b d = true ∧ u8 b 0 = 0 ∧ blockDown d 1 = false ∧ freezeOn d = false ∧ u8 b 1 ≤ 1 ∧ u16 b 2 ≤ 4095 ∧
     u8 b 1 = 0)),
    (let mb : Mailbox := 0; let b : List Byte := sized 0x040A (body [(1, 1), (1, 0), (1, 0), (1, 8)]);
     let s : State := { pending := [], dev := asking 0x040A (sized 0x040A (body [(1, 1), (1, 0), (1, 0), (1, 8)])) (live) };
     let d := s.dev; let r := some (u8 b 2, u8 b 3); decide (askedB mb 0x040A b d = true ∧ u8 b 0 = 1 ∧ blockDown d 1 = false ∧
     blockDown d 5 = false ∧ freezeOn d = false ∧ 1 ≤ u8 b 3 ∧ u8 b 2 + u8 b 3 ≤ 32 ∧ u8 b 3 ≤ 64 ∧ regionsOverlap r d.twins.yard = false ∧
     (r = d.slots.spillRegion ∨ (d.slots.spillEnable = false ∧ spillHeld d = false)) ∧ (flag b 1 0 = true → filled d r = true)))] : List Bool).all id = true := by decide +kernel

/-- States and operands that meet the hypotheses of each clause of ClientCommandsComplete. -/
theorem witness_ClientCommandsComplete : ([
    (let mb : Mailbox := 0;
     let b : List Byte := sized 0x0501 (body [(2, 0), (1, 1), (1, 2), (1, 1), (1, 1), (1, 1), (1, 96), (2, 0), (2, 16), (2, 1500), (1, 64), (1, 0)]);
     let s : State := { pending := [], dev := asking 0x0501 (sized 0x0501 (body [(2, 0), (1, 1), (1, 2), (1, 1), (1, 1), (1, 1), (1, 96), (2, 0), (2, 16), (2, 1500), (1, 64), (1, 0)])) (laser1) };
     let d := s.dev; decide (askedB mb 0x0501 b d = true ∧ firstDown d (laneBlock (u16 b 0)) = none ∧ freezeOn d = false ∧
     firstOf (cliPortConfigService.checks d b) = none)),
    (let mb : Mailbox := 0; let b : List Byte := sized 0x0502 (body [(2, 0), (2, 0), (4, 0x00340000)]);
     let s : State := { pending := [], dev := asking 0x0502 (sized 0x0502 (body [(2, 0), (2, 0), (4, 0x00340000)])) (laser1) };
     let d := s.dev; decide (askedB mb 0x0502 b d = true ∧ firstDown d (laneBlock (u16 b 0)) = none ∧ freezeOn d = false ∧ u16 b 0 ≤ 127 ∧
     u8 b 2 ≤ 1 ∧ ffeOk (ffeOf b) = true)),
    (let mb : Mailbox := 0; let b : List Byte := sized 0x0503 (body []);
     let s : State := { pending := [], dev := asking 0x0503 (sized 0x0503 (body [])) (laser1) }; let d := s.dev;
     decide (askedB mb 0x0503 b d = true ∧ firstDown d (laneBlock (u16 b 0)) = none ∧ u16 b 0 ≤ 127)),
    (let mb : Mailbox := 0; let b : List Byte := sized 0x0504 (body []);
     let s : State := { pending := [], dev := asking 0x0504 (sized 0x0504 (body [])) (laser1) }; let d := s.dev;
     decide (askedB mb 0x0504 b d = true ∧ firstDown d (laneBlock (u16 b 0)) = none ∧ freezeOn d = false ∧ u16 b 0 ≤ 127 ∧ u8 b 2 ≤ 3)),
    (let mb : Mailbox := 0; let b : List Byte := sized 0x0505 (body [(16, 2^128-1)]);
     let s : State := { pending := [], dev := asking 0x0505 (sized 0x0505 (body [(16, 2^128-1)])) (laser1) }; let d := s.dev;
     decide (askedB mb 0x0505 b d = true ∧ freezeOn d = false ∧ (∀ l ∈ recclkOf b, (l ≤ 127 ∧
     blockDown d (0x20 + l / 64) = false) ∨ l = 0xFFFF)))] : List Bool).all id = true := by decide +kernel

/-- States and operands that meet the hypotheses of each clause of CipherCommandsComplete. -/
theorem witness_CipherCommandsComplete : ([
    (let mb : Mailbox := 0; let b : List Byte := sized 0x0601 (body [(2, 0), (1, 0), (1, 0), (8, 2^20), (1, 90), (3, 0)]);
     let s : State := { pending := [], dev := asking 0x0601 (sized 0x0601 (body [(2, 0), (1, 0), (1, 0), (8, 2^20), (1, 90), (3, 0)])) (laser1) };
     let d := s.dev; decide (askedB mb 0x0601 b d = true ∧ blockDown d 1 = false ∧ freezeOn d = false ∧ u16 b 0 ≤ 255 ∧ u8 b 2 ≤ 1 ∧
     u8 b 3 ≤ 1 ∧ 2 ^ 20 ≤ u64 b 4 ∧ u64 b 4 ≤ 2 ^ 32 ∧ 50 ≤ u8 b 12 ∧ u8 b 12 ≤ 99 ∧ (u8 b 2 = 1 → 1 ≤ u16 b 14 ∧ u16 b 14 ≤ 1024) ∧
     u64 b 4 ≤ ceiling d ∧ (u8 b 3 = 0 → cipherBrake d (u16 b 0) (u8 b 2) = false) ∧ u8 b 2 = 0)),
    (let mb : Mailbox := 0; let b : List Byte := sized 0x0601 (body [(2, 255), (1, 1), (1, 0), (8, 2 ^ 20), (1, 99), (1, 0), (2, 1024)]);
     let s : State := { pending := [], dev := asking 0x0601 (sized 0x0601 (body [(2, 255), (1, 1), (1, 0), (8, 2 ^ 20), (1, 99), (1, 0), (2, 1024)])) (live) };
     let d := s.dev; decide (askedB mb 0x0601 b d = true ∧ blockDown d 1 = false ∧ freezeOn d = false ∧ u16 b 0 ≤ 255 ∧ u8 b 2 ≤ 1 ∧
     u8 b 3 ≤ 1 ∧ 2 ^ 20 ≤ u64 b 4 ∧ u64 b 4 ≤ 2 ^ 32 ∧ 50 ≤ u8 b 12 ∧ u8 b 12 ≤ 99 ∧ (u8 b 2 = 1 → 1 ≤ u16 b 14 ∧ u16 b 14 ≤ 1024) ∧
     u64 b 4 ≤ ceiling d ∧ (u8 b 3 = 0 → cipherBrake d (u16 b 0) (u8 b 2) = false) ∧ u8 b 2 = 1)),
    (let mb : Mailbox := 0; let b : List Byte := sized 0x0602 (body [(2, 0), (1, 0), (1, 0), (4, 0), (8, handleOf 0 lineEntry), (8, 68)]);
     let s : State := { pending := [], dev := asking 0x0602 (sized 0x0602 (body [(2, 0), (1, 0), (1, 0), (4, 0), (8, handleOf 0 lineEntry), (8, 68)])) (launching) };
     let d := s.dev; decide (askedB mb 0x0602 b d = true ∧ blockDown d 1 = false ∧ freezeOn d = false ∧
     firstOf (cipherKeyLoadService.checks d b) = none ∧ u8 b 2 = 0)),
    (let mb : Mailbox := 0;
     let b : List Byte := sized 0x0602 (body [(2, 255), (1, 1), (1, 1), (4, 0), (8, handleOf 0 lineEntry), (8, 64)]);
     let s : State := { pending := [], dev := asking 0x0602 (sized 0x0602 (body [(2, 255), (1, 1), (1, 1), (4, 0), (8, handleOf 0 lineEntry), (8, 64)])) (keyed) };
     let d := s.dev; decide (askedB mb 0x0602 b d = true ∧ blockDown d 1 = false ∧ freezeOn d = false ∧
     firstOf (cipherKeyLoadService.checks d b) = none ∧ u8 b 2 = 1)),
    (let mb : Mailbox := 0; let b : List Byte := sized 0x0603 (body []);
     let s : State := { pending := [], dev := asking 0x0603 (sized 0x0603 (body [])) (laser1) }; let d := s.dev;
     decide (askedB mb 0x0603 b d = true ∧ blockDown d 1 = false ∧ u16 b 0 ≤ 255)),
    (let mb : Mailbox := 0;
     let b : List Byte := sized 0x0604 (body [(1, 0), (1, 0), (1, 0), (1, 3), (1, 0xFF), (3, 0), (8, handleOf 1 jobEntry), (32, 0), (4, 0)]);
     let s : State := { pending := [], dev := asking 0x0604 (sized 0x0604 (body [(1, 0), (1, 0), (1, 0), (1, 3), (1, 0xFF), (3, 0), (8, handleOf 1 jobEntry), (32, 0), (4, 0)])) (keyed) };
     let d := s.dev; decide (askedB mb 0x0604 b d = true ∧ blockDown d 1 = false ∧ firstOf (jobChecks d b) = none)),
    (let mb : Mailbox := 0; let b : List Byte := sized 0x0605 (body [(1, 0), (1, 4)]);
     let s : State := { pending := [], dev := asking 0x0605 (sized 0x0605 (body [(1, 0), (1, 4)])) ({ keyed with cipher.contexts := [(4, some (.host, { mode := 0, op := 0, handle := 0 }))] }) };
     let d := s.dev; decide (askedB mb 0x0605 b d = true ∧ blockDown d 1 = false ∧ u8 b 0 = 0 ∧ u8 b 1 ≤ 7 ∧
     (heldIdle d (u8 b 1)).isSome = true)),
    (let mb : Mailbox := 0; let b : List Byte := sized 0x0605 (body [(1, 1), (3, 0), (8, 7)]);
     let s : State := { pending := [], dev := asking 0x0605 (sized 0x0605 (body [(1, 1), (3, 0), (8, 7)])) ({ keyed with cipher := { keyed.cipher with serials := [7] } }) };
     let d := s.dev; decide (askedB mb 0x0605 b d = true ∧ blockDown d 1 = false ∧ u8 b 0 = 1 ∧ u64 b 4 ∈ d.cipher.serials))] : List Bool).all id = true := by decide +kernel

/-- States and operands that meet the hypotheses of each clause of TrustCommandsComplete. -/
theorem witness_TrustCommandsComplete : ([
    (let mb : Mailbox := 0; let b : List Byte := sized 0x0621 (body []);
     let s : State := { pending := [], dev := asking 0x0621 (sized 0x0621 (body [])) (laser1) }; let d := s.dev;
     decide (askedB mb 0x0621 b d = true ∧ u8 b 0 ≤ 5 ∧ u32 b 8 ≤ 4000)),
    (let mb : Mailbox := 0; let b : List Byte := sized 0x0622 (body []);
     let s : State := { pending := [], dev := asking 0x0622 (sized 0x0622 (body [])) (laser1) }; let d := s.dev;
     decide (askedB mb 0x0622 b d = true ∧ u8 b 0 = 0 ∧ d.trust.identityErased = false)),
    (let mb : Mailbox := 0; let b : List Byte := sized 0x0622 (body [(1, 2), (3, 0), (4, 3)]);
     let s : State := { pending := [], dev := asking 0x0622 (sized 0x0622 (body [(1, 2), (3, 0), (4, 3)])) ({ keyed with trust.reports := [{ ident := 3, bytes := [] }] }) };
     let d := s.dev; let r := { ident := 3, bytes := [] }; decide (askedB mb 0x0622 b d = true ∧ (u8 b 0 = 1 ∨ u8 b 0 = 2) ∧
     d.trust.identityErased = false ∧ reportOf d (u32 b 4) = some r)),
    (let mb : Mailbox := 0; let b : List Byte := sized 0x0623 (body [(1, 5), (3, 0), (8, 2 ^ 32)]);
     let s : State := { pending := [], dev := asking 0x0623 (sized 0x0623 (body [(1, 5), (3, 0), (8, 2 ^ 32)])) (keyed) }; let d := s.dev;
     decide (askedB mb 0x0623 b d = true ∧ blockDown d 1 = false ∧ firstOf (createChecks d b) = none ∧ vaultFull d = false)),
    (let mb : Mailbox := 0; let b : List Byte := sized 0x0624 (body [(1, 2), (3, 0), (8, 2 ^ 20), (8, handleOf 2 wrapEntry)] ++ wrapped0);
     let s : State := { pending := [], dev := asking 0x0624 (sized 0x0624 (body [(1, 2), (3, 0), (8, 2 ^ 20), (8, handleOf 2 wrapEntry)] ++ wrapped0)) (keyed) };
     let d := s.dev; let p := (unwrapBlob d b).getD []; decide (askedB mb 0x0624 b d = true ∧ blockDown d 1 = false ∧
     firstOf (createChecks d b) = none ∧ vaultFull d = false ∧ (hostKey d (u64 b 12) 4).isSome = true ∧ unwrapBlob d b = some p)),
    (let mb : Mailbox := 0; let b : List Byte := sized 0x0625 (body [(8, handleOf 0 lineEntry), (8, handleOf 2 wrapEntry)]);
     let s : State := { pending := [], dev := asking 0x0625 (sized 0x0625 (body [(8, handleOf 0 lineEntry), (8, handleOf 2 wrapEntry)])) (keyed) };
     let d := s.dev; let i := (0 : Nat); let j := (2 : Nat); decide (askedB mb 0x0625 b d = true ∧ blockDown d 1 = false ∧
     hostAny d (u64 b 0) = some i ∧ hostKey d (u64 b 8) 4 = some j ∧ (vaultEntry d i).attr.testBit 0 = true ∧ spent d j = false)),
    (let mb : Mailbox := 0; let b : List Byte := sized 0x0626 (body [(8, handleOf 1 jobEntry)]);
     let s : State := { pending := [], dev := asking 0x0626 (sized 0x0626 (body [(8, handleOf 1 jobEntry)])) (keyed) }; let d := s.dev;
     let i := (1 : Nat); decide (askedB mb 0x0626 b d = true ∧ blockDown d 1 = false ∧ hostAny d (u64 b 0) = some i)),
    (let mb : Mailbox := 0; let b : List Byte := sized 0x0627 (body []);
     let s : State := { pending := [], dev := asking 0x0627 (sized 0x0627 (body [])) (keyed) }; let d := s.dev;
     decide (askedB mb 0x0627 b d = true ∧ blockDown d 1 = false ∧ d.trust.identityErased = false ∧ pinLow d = false ∧ vaultFull d = false)),
    (let mb : Mailbox := 0;
     let b : List Byte := sized 0x0628 (body [(2, 0), (1, 1), (1, 0), (4, 3600), (2, 60), (2, 30), (4, 1000), (48, 0)]);
     let s : State := { pending := [], dev := asking 0x0628 (sized 0x0628 (body [(2, 0), (1, 1), (1, 0), (4, 3600), (2, 60), (2, 30), (4, 1000), (48, 0)])) (laser1) };
     let d := s.dev; decide (askedB mb 0x0628 b d = true ∧ freezeOn d = false ∧ u16 b 0 ≤ 255 ∧ u8 b 2 ≤ 1 ∧ 60 ≤ u32 b 4 ∧
     u32 b 4 ≤ 86400 ∧ 10 ≤ u16 b 8 ∧ u16 b 8 ≤ 600 ∧ 1 ≤ u16 b 10 ∧ u16 b 10 ≤ 600 ∧ 100 ≤ u32 b 12 ∧ u32 b 12 ≤ 600000)),
    (let mb : Mailbox := 0; let b : List Byte := sized 0x0629 (body []);
     let s : State := { pending := [], dev := asking 0x0629 (sized 0x0629 (body [])) (laser1) }; let d := s.dev;
     decide (askedB mb 0x0629 b d = true ∧ freezeOn d = false ∧ u16 b 0 ≤ 255 ∧ d.trust.identityErased = false ∧ pinLow d = false ∧
     (policyOf d (u16 b 0)).source ≠ 1 ∧ (policyOf d (u16 b 0)).source = 0 ∧ (agreement d (u16 b 0)).state = .idle ∧ agreeBarred d = false)),
    (let mb : Mailbox := 0; let b : List Byte := sized 0x062A (body []);
     let s : State := { pending := [], dev := asking 0x062A (sized 0x062A (body [])) (laser1) }; let d := s.dev;
     decide (askedB mb 0x062A b d = true ∧ u16 b 0 ≤ 255)),
    (let mb : Mailbox := 0; let b : List Byte := sized 0x062B (body [(4, 0)]);
     let s : State := { pending := [], dev := asking 0x062B (sized 0x062B (body [(4, 0)])) (live) }; let d := s.dev; let i := (4095 : Nat);
     decide (askedB mb 0x062B b d = true ∧ u8 b 0 = 0 ∧ i < 4096)),
    (let mb : Mailbox := 0; let b : List Byte := sized 0x062C (body []);
     let s : State := { pending := [], dev := asking 0x062C (sized 0x062C (body [])) ({ laser1 with trust.tagWrites := [(0, 5)] }) };
     let d := s.dev; decide (askedB mb 0x062C b d = true ∧ u8 b 0 ≤ 63 ∧ d.trust.tagLocked.getLsbD (u8 b 0) = false ∧
     tagWritesOf d (u8 b 0) < 1000)),
    (let mb : Mailbox := 0; let b : List Byte := sized 0x062D (body []);
     let s : State := { pending := [], dev := asking 0x062D (sized 0x062D (body [])) (laser1) }; let d := s.dev;
     decide (askedB mb 0x062D b d = true ∧ u8 b 0 ≤ 63)),
    (let mb : Mailbox := 0; let b : List Byte := sized 0x062E (body []);
     let s : State := { pending := [], dev := asking 0x062E (sized 0x062E (body [])) (laser1) }; let d := s.dev;
     decide (askedB mb 0x062E b d = true))] : List Bool).all id = true := by decide +kernel

/-- States and operands that meet the hypotheses of each clause of TwinCommandsComplete. -/
theorem witness_TwinCommandsComplete : ([
    (let mb : Mailbox := 0;
     let b : List Byte := sized 0x0701 (body [(1, 127), (1, 1), (2, 4095), (1, 15), (1, 0), (2, 7), (4, 0), (2, 1000)]);
     let s : State := { pending := [], dev := asking 0x0701 (sized 0x0701 (body [(1, 127), (1, 1), (2, 4095), (1, 15), (1, 0), (2, 7), (4, 0), (2, 1000)])) (live) };
     let d := s.dev; decide (askedB mb 0x0701 b d = true ∧ blockDown d 1 = false ∧ blockDown d 5 = false ∧ freezeOn d = false ∧
     firstOf (twinConfigService.checks d b) = none)),
    (let mb : Mailbox := 0; let b : List Byte := sized 0x0702 (body []);
     let s : State := { pending := [], dev := asking 0x0702 (sized 0x0702 (body [])) (laser1) }; let d := s.dev;
     decide (askedB mb 0x0702 b d = true ∧ blockDown d 1 = false ∧ blockDown d 5 = false ∧ u8 b 0 ≤ 127)),
    (let mb : Mailbox := 0; let b : List Byte := sized 0x0703 (body []);
     let s : State := { pending := [], dev := asking 0x0703 (sized 0x0703 (body [])) ({ live with twins := { live.twins with rx := [(0, { a := { state := .inService } })] } }) };
     let d := s.dev; decide (askedB mb 0x0703 b d = true ∧ blockDown d 1 = false ∧ blockDown d 5 = false ∧ freezeOn d = false ∧
     u8 b 0 ≤ 127 ∧ u8 b 1 = 0 ∧ u8 b 2 ≤ 1 ∧ (pathOf (twinRx d (u8 b 0)) (u8 b 2 == 1)).state = .inService)),
    (let mb : Mailbox := 0; let b : List Byte := sized 0x0703 (body [(1,0),(1,1),(2,0)]);
     let s : State := { pending := [], dev := asking 0x0703 (sized 0x0703 (body [(1,0),(1,1),(2,0)])) (laser1) }; let d := s.dev;
     decide (askedB mb 0x0703 b d = true ∧ blockDown d 1 = false ∧ blockDown d 5 = false ∧ freezeOn d = false ∧ u8 b 0 ≤ 127 ∧ u8 b 1 = 1)),
    (let mb : Mailbox := 0; let b : List Byte := sized 0x0704 (body []);
     let s : State := { pending := [], dev := asking 0x0704 (sized 0x0704 (body [])) (laser1) }; let d := s.dev;
     decide (askedB mb 0x0704 b d = true ∧ blockDown d 1 = false ∧ blockDown d 5 = false ∧ freezeOn d = false ∧ u8 b 0 + u8 b 1 ≤ 32 ∧
     regionsOverlap (some (u8 b 0, u8 b 1)) d.slots.spillRegion = false ∧ (∀ p ∈ d.twins.cfg, p.2.rx = false)))] : List Bool).all id = true := by decide +kernel

/-- States and operands that meet the hypotheses of each clause of IxtasCommandsComplete. -/
theorem witness_IxtasCommandsComplete : ([
    (let mb : Mailbox := 0;
     let b : List Byte := sized 0x0801 (body [(1, 0), (1, 3), (1, 2), (1, 15), (1, 60), (1, 64), (1, 4), (1, 0), (4, 0)]);
     let s : State := { pending := [], dev := asking 0x0801 (sized 0x0801 (body [(1, 0), (1, 3), (1, 2), (1, 15), (1, 60), (1, 64), (1, 4), (1, 0), (4, 0)])) (laser1) };
     let d := s.dev; decide (askedB mb 0x0801 b d = true ∧ firstDown d (engineBlock (u8 b 0)) = none ∧ freezeOn d = false ∧ u8 b 0 ≤ 15 ∧
     2 ≤ u8 b 2 ∧ 1 ≤ u8 b 3 ∧ u8 b 3 ≤ 15 ∧ u8 b 2 * u8 b 3 ≤ 30 ∧ u8 b 2 * u8 b 3 ≤ ixtasDepth d (u8 b 0) ∧ u8 b 4 ≤ 60 ∧ 64 ≤ u8 b 5 ∧
     u8 b 6 ≤ 4)),
    (let mb : Mailbox := 0; let b : List Byte := sized 0x0802 (body [(2, 0), (1, 0), (1, 2), (2, 600), (2, 0), (64, 0)]);
     let s : State := { pending := [], dev := asking 0x0802 (sized 0x0802 (body [(2, 0), (1, 0), (1, 2), (2, 600), (2, 0), (64, 0)])) (laser1) };
     let d := s.dev; decide (askedB mb 0x0802 b d = true ∧ freezeOn d = false ∧ u16 b 0 ≤ 255 ∧ u8 b 2 ≤ 4 ∧ 2 ≤ u8 b 3 ∧ u8 b 3 ≤ 3 ∧
     1 ≤ u16 b 4 ∧ u16 b 4 ≤ 600 ∧ (beats d (u16 b 0) = true → 2 ≤ u8 b 2))),
    (let mb : Mailbox := 0; let b : List Byte := sized 0x0803 (body []);
     let s : State := { pending := [], dev := asking 0x0803 (sized 0x0803 (body [])) (laser1) }; let d := s.dev;
     decide (askedB mb 0x0803 b d = true ∧ firstDown d (engineBlock (u8 b 0)) = none ∧ u8 b 0 ≤ 15)),
    (let mb : Mailbox := 0; let b : List Byte := sized 0x0804 (body []);
     let s : State := { pending := [], dev := asking 0x0804 (sized 0x0804 (body [])) (laser1) }; let d := s.dev;
     decide (askedB mb 0x0804 b d = true ∧ u16 b 0 ≤ 255)),
    (let mb : Mailbox := 0; let b : List Byte := sized 0x0805 (body []);
     let s : State := { pending := [], dev := asking 0x0805 (sized 0x0805 (body [])) (laser1) }; let d := s.dev;
     decide (askedB mb 0x0805 b d = true ∧ firstDown d (coachBlock (u16 b 0)) = none ∧ u16 b 0 ≤ 255 ∧ u8 b 4 ≤ 220 ∧ tooLong d b = false ∧
     hostWaiting d (engineOf (u16 b 0)) < 16 ∧ (sendsProtected d b = true → keySpent d (u16 b 0) = false))),
    (let mb : Mailbox := 0; let b : List Byte := sized 0x0806 (body []);
     let s : State := { pending := [], dev := asking 0x0806 (sized 0x0806 (body [])) (laser1) }; let d := s.dev;
     decide (askedB mb 0x0806 b d = true ∧ d.ixtas.hostQueue = [])),
    (let mb : Mailbox := 0; let b : List Byte := sized 0x0806 (body []);
     let s : State := { pending := [], dev := asking 0x0806 (sized 0x0806 (body [])) ({ live with ixtas.hostQueue := [msg 0x20 []] }) };
     let d := s.dev; let m := msg 0x20 []; let q := []; decide (askedB mb 0x0806 b d = true ∧ d.ixtas.hostQueue = m :: q)),
    (let mb : Mailbox := 0; let b : List Byte := sized 0x0807 (body [(1, 0), (1, 15), (1, 8), (1, 0)]);
     let s : State := { pending := [], dev := asking 0x0807 (sized 0x0807 (body [(1, 0), (1, 15), (1, 8), (1, 0)])) ({ launching with ixtas := { launching.ixtas with engines := [(0, { tx := true })] } }) };
     let d := s.dev; decide (askedB mb 0x0807 b d = true ∧ firstDown d (engineBlock (u8 b 0)) = none ∧ u8 b 0 ≤ 15 ∧ u8 b 1 ≤ 15 ∧
     8 ≤ u8 b 2 ∧ u8 b 2 ≤ 15 ∧ beats d (16 * u8 b 0 + u8 b 1) = false ∧ ixtasSends d (u8 b 0) = true))] : List Bool).all id = true := by decide +kernel

/-- States and operands that meet the hypotheses of each clause of TimeCommandsComplete. -/
theorem witness_TimeCommandsComplete : ([
    (let mb : Mailbox := 0;
     let b : List Byte := sized 0x0901 (body [(1, 3), (1, 1), (1, 7), (1, 0), (4, 10000000), (2, 100), (2, 20000), (2, 5000), (2, 10000), (1, 60), (1, 0), (2, 600)]);
     let s : State := { pending := [], dev := asking 0x0901 (sized 0x0901 (body [(1, 3), (1, 1), (1, 7), (1, 0), (4, 10000000), (2, 100), (2, 20000), (2, 5000), (2, 10000), (1, 60), (1, 0), (2, 600)])) (live) };
     let d := s.dev; decide (askedB mb 0x0901 b d = true ∧ blockDown d 4 = false ∧ refConfigOk b = true ∧ u8 b 0 ≤ 3)),
    (let mb : Mailbox := 0;
     let b : List Byte := sized 0x0902 (body [(1, 0), (1, 0), (2, 0), (2, 10), (2, 10), (1, 0), (1, 0), (1, 0), (1, 0), (2, 0), (2, 0)]);
     let s : State := { pending := [], dev := asking 0x0902 (sized 0x0902 (body [(1, 0), (1, 0), (2, 0), (2, 10), (2, 10), (1, 0), (1, 0), (1, 0), (1, 0), (2, 0), (2, 0)])) (laser1) };
     let d := s.dev; decide (askedB mb 0x0902 b d = true ∧ blockDown d 4 = false ∧ u8 b 0 ≤ 2 ∧ u16 b 2 ≤ 600 ∧ 10 ≤ u16 b 4 ∧
     u16 b 4 ≤ 900 ∧ u16 b 2 + u16 b 4 ≤ 1000 ∧ 10 ≤ u16 b 6 ∧ u16 b 6 ≤ 20000 ∧ u8 b 8 ≤ 1 ∧ u8 b 9 ≤ 5 ∧ u8 b 10 ≤ 1 ∧ u8 b 11 ≤ 5 ∧
     u16 b 12 ≤ 3600)),
    (let mb : Mailbox := 0; let b : List Byte := sized 0x0903 (body [(1, 27), (3, 0)]);
     let s : State := { pending := [], dev := asking 0x0903 (sized 0x0903 (body [(1, 27), (3, 0)])) ({ live with time := { live.time with refs := [(27, { q := .qualified })] } }) };
     let d := s.dev; decide (askedB mb 0x0903 b d = true ∧ blockDown d 4 = false ∧ u8 b 0 ≤ 27 ∧ qualified d (u8 b 0) = true)),
    (let mb : Mailbox := 0; let b : List Byte := sized 0x0904 (body []);
     let s : State := { pending := [], dev := asking 0x0904 (sized 0x0904 (body [])) (laser1) }; let d := s.dev;
     decide (askedB mb 0x0904 b d = true ∧ blockDown d 4 = false)),
    (let mb : Mailbox := 0; let b : List Byte := sized 0x0905 (body [(1, 2), (1, 0), (2, 0), (8, 5), (4, 100000)]);
     let s : State := { pending := [], dev := asking 0x0905 (sized 0x0905 (body [(1, 2), (1, 0), (2, 0), (8, 5), (4, 100000)])) (live) };
     let d := s.dev; decide (askedB mb 0x0905 b d = true ∧ blockDown d 4 = false ∧ u8 b 0 ≤ 2 ∧ 1 ≤ u32 b 12 ∧ u32 b 12 ≤ 100000 ∧
     (u8 b 0 = 0 → mag (s64 b 4) ≤ 1000000000) ∧ (u8 b 0 = 1 → 0 < s64 b 4) ∧ flag b 1 0 = false ∧ backward (u8 b 0) (s64 b 4) d = false)),
    (let mb : Mailbox := 0; let b : List Byte := sized 0x0905 (body [(1, 2), (1, 1), (2, 0), (8, 0), (4, 1)]);
     let s : State := { pending := [], dev := asking 0x0905 (sized 0x0905 (body [(1, 2), (1, 1), (2, 0), (8, 0), (4, 1)])) (laser1) };
     let d := s.dev; decide (askedB mb 0x0905 b d = true ∧ blockDown d 4 = false ∧ u8 b 0 ≤ 2 ∧ 1 ≤ u32 b 12 ∧ u32 b 12 ≤ 100000 ∧
     (u8 b 0 = 0 → mag (s64 b 4) ≤ 1000000000) ∧ (u8 b 0 = 1 → 0 < s64 b 4) ∧ flag b 1 0 = true)),
    (let mb : Mailbox := 0; let b : List Byte := sized 0x0906 (body [(1, 1), (3, 0), (4, 50000000)]);
     let s : State := { pending := [], dev := asking 0x0906 (sized 0x0906 (body [(1, 1), (3, 0), (4, 50000000)])) (live) }; let d := s.dev;
     decide (askedB mb 0x0906 b d = true ∧ blockDown d 4 = false ∧ -50000000 ≤ s32 b 4 ∧ s32 b 4 ≤ 50000000 ∧ flag b 0 0 = true))] : List Bool).all id = true := by decide +kernel

/-- States and operands that meet the hypotheses of each clause of MemoryCommandsComplete. -/
theorem witness_MemoryCommandsComplete : ([
    (let mb : Mailbox := 0; let b : List Byte := sized 0x0C01 (body [(1, 0), (1, 32)]);
     let s : State := { pending := [], dev := asking 0x0C01 (sized 0x0C01 (body [(1, 0), (1, 32)])) (live) }; let d := s.dev;
     decide (askedB mb 0x0C01 b d = true ∧ blockDown d 1 = false ∧ blockDown d 5 = false ∧ freezeOn d = false ∧ 1 ≤ u8 b 1 ∧ u8 b 1 ≤ 64 ∧
     u8 b 0 + u8 b 1 ≤ 32 ∧ d.mem.fill = none ∧ (touches d.slots.spillRegion (u8 b 0) (u8 b 1) = false ∨ spillUsedNow d = false) ∧
     (touches d.twins.yard (u8 b 0) (u8 b 1) = false ∨ yardUsed d = false))),
    (let mb : Mailbox := 0; let b : List Byte := sized 0x0C02 (body []);
     let s : State := { pending := [], dev := asking 0x0C02 (sized 0x0C02 (body [])) (laser1) }; let d := s.dev;
     decide (askedB mb 0x0C02 b d = true ∧ blockDown d 1 = false ∧ blockDown d 5 = false)),
    (let mb : Mailbox := 0; let b : List Byte := sized 0x0C03 (body [(1, 168), (1, 30), (2, 0)]);
     let s : State := { pending := [], dev := asking 0x0C03 (sized 0x0C03 (body [(1, 168), (1, 30), (2, 0)])) (laser1) }; let d := s.dev;
     decide (askedB mb 0x0C03 b d = true ∧ blockDown d 1 = false ∧ blockDown d 5 = false ∧ 1 ≤ u8 b 0 ∧ u8 b 0 ≤ 168 ∧ 1 ≤ u8 b 1 ∧
     u8 b 1 ≤ 30)),
    (let mb : Mailbox := 0; let b : List Byte := sized 0x0C04 (body [(1, 1), (1, 11), (1, 63)]);
     let s : State := { pending := [], dev := asking 0x0C04 (sized 0x0C04 (body [(1, 1), (1, 11), (1, 63)])) (live) }; let d := s.dev;
     decide (askedB mb 0x0C04 b d = true ∧ blockDown d 1 = false ∧ blockDown d 5 = false ∧ u8 b 0 ≤ 2 ∧ (u8 b 1 ≤ 5 ∨ (8 ≤ u8 b 1 ∧
     u8 b 1 ≤ 11)) ∧ u8 b 2 ≤ 63 ∧ u8 b 0 = 1)),
    (let mb : Mailbox := 0; let b : List Byte := sized 0x0C04 (body [(1, 2), (1, 5), (1, 63)]);
     let s : State := { pending := [], dev := asking 0x0C04 (sized 0x0C04 (body [(1, 2), (1, 5), (1, 63)])) ({ live with mem.testWords := [(64 * 5 + 63, some 1)] }) };
     let d := s.dev; let w := testWord d (u8 b 1) (u8 b 2); decide (askedB mb 0x0C04 b d = true ∧ blockDown d 1 = false ∧
     blockDown d 5 = false ∧ u8 b 0 ≤ 2 ∧ (u8 b 1 ≤ 5 ∨ (8 ≤ u8 b 1 ∧ u8 b 1 ≤ 11)) ∧ u8 b 2 ≤ 63 ∧ u8 b 0 = 2 ∧ readClass w = 1)),
    (let mb : Mailbox := 0; let b : List Byte := sized 0x0C05 (body [(1, 15), (3, 0)]);
     let s : State := { pending := [], dev := asking 0x0C05 (sized 0x0C05 (body [(1, 15), (3, 0)])) ({ live with mem := { live.mem with halted := 0x8000 } }) };
     let d := s.dev; decide (askedB mb 0x0C05 b d = true ∧ blockDown d 1 = false ∧ blockDown d 5 = false ∧ u8 b 0 ≤ 15 ∧ u8 b 1 ≤ 1 ∧
     d.mem.halted.getLsbD (u8 b 0) = true))] : List Bool).all id = true := by decide +kernel

/-- States and operands that meet the hypotheses of each clause of MeasurementCommandsComplete. -/
theorem witness_MeasurementCommandsComplete : ([
    (let mb : Mailbox := 0; let b : List Byte := sized 0x0B01 (body []);
     let s : State := { pending := [], dev := asking 0x0B01 (sized 0x0B01 (body [])) (laser1) }; let d := s.dev;
     decide (askedB mb 0x0B01 b d = true ∧ blockDown d 1 = false ∧ u8 b 0 ≤ 127 ∧ u16 b 2 % 8 = 0 ∧ u16 b 4 % 8 = 0 ∧ u16 b 4 ≤ 4064 ∧
     u16 b 2 + u16 b 4 ≤ 4096)),
    (let mb : Mailbox := 0; let b : List Byte := sized 0x0B02 (body [(2, 4033), (1, 63), (1, 1)]);
     let s : State := { pending := [], dev := asking 0x0B02 (sized 0x0B02 (body [(2, 4033), (1, 63), (1, 1)])) (laser1) }; let d := s.dev;
     decide (askedB mb 0x0B02 b d = true ∧ blockDown d 1 = false ∧ u16 b 0 ≤ 4095 ∧ 1 ≤ u8 b 2 ∧ u8 b 2 ≤ 63 ∧ u8 b 3 ≤ 1 ∧
     u16 b 0 + u8 b 2 ≤ 4096)),
    (let mb : Mailbox := 0; let b : List Byte := sized 0x0B03 (body []);
     let s : State := { pending := [], dev := asking 0x0B03 (sized 0x0B03 (body [])) (laser1) }; let d := s.dev;
     decide (askedB mb 0x0B03 b d = true ∧ firstDown d [1, blockIdOf (u8 b 0)] = none ∧ u8 b 0 ≤ 39 ∧ (u8 b 1 ≤ 7 ∨ u8 b 1 = 0xFF) ∧
     (flag b 3 0 = true ∨ entityOk (u8 b 0) (u16 b 4) = true))),
    (let mb : Mailbox := 0; let b : List Byte := sized 0x0B04 (body [(1, 0), (1, 0), (1, 31), (1, 0), (2, 100), (2, 0)]);
     let s : State := { pending := [], dev := asking 0x0B04 (sized 0x0B04 (body [(1, 0), (1, 0), (1, 31), (1, 0), (2, 100), (2, 0)])) (laser1) };
     let d := s.dev; decide (askedB mb 0x0B04 b d = true ∧ firstDown d ((enginesNamed (u8 b 0)).flatMap engineBlock) = none ∧
     (u8 b 0 ≤ 15 ∨ u8 b 0 = 0xFF) ∧ u8 b 2 ≤ 31 ∧ 5 ≤ u16 b 4 ∧ u16 b 4 ≤ 100)),
    (let mb : Mailbox := 0; let b : List Byte := sized 0x0B05 (body []);
     let s : State := { pending := [], dev := asking 0x0B05 (sized 0x0B05 (body [])) (laser1) }; let d := s.dev;
     decide (askedB mb 0x0B05 b d = true ∧ firstDown d (engineBlock (u8 b 0)) = none ∧ u8 b 0 ≤ 15 ∧ (calOf d (u8 b 0)).state = .idle)),
    (let mb : Mailbox := 0; let b : List Byte := sized 0x0B06 (body []);
     let s : State := { pending := [], dev := asking 0x0B06 (sized 0x0B06 (body [])) (laser1) }; let d := s.dev;
     decide (askedB mb 0x0B06 b d = true ∧ firstDown d (engineBlock (u8 b 0)) = none ∧ u8 b 0 ≤ 15)),
    (let mb : Mailbox := 0; let b : List Byte := sized 0x0B07 (body []);
     let s : State := { pending := [], dev := asking 0x0B07 (sized 0x0B07 (body [])) (laser1) }; let d := s.dev;
     decide (askedB mb 0x0B07 b d = true ∧ firstDown d (engineBlock (u8 b 0)) = none ∧ u8 b 0 ≤ 15))] : List Bool).all id = true := by decide +kernel

/-- States and operands that meet the hypotheses of each clause of HubAndPowerCommandsComplete. -/
theorem witness_HubAndPowerCommandsComplete : ([
    (let mb : Mailbox := 0; let b : List Byte := sized 0x0101 (body [(1, 4), (1, 6), (1, 0)]);
     let s : State := { pending := [], dev := asking 0x0101 (sized 0x0101 (body [(1, 4), (1, 6), (1, 0)])) (live) }; let d := s.dev;
     let M := commonMajor (u8 b 0) (u8 b 1); decide (askedB mb 0x0101 b d = true ∧ u8 b 0 ≤ u8 b 1 ∧ M ≠ 0 ∧
     runs (exec (.hello mb) s) = true)),
    (let mb : Mailbox := 0; let b : List Byte := sized 0x0102 (body [(1, 0), (1, 0), (2, 9), (4, 0xFFFFFFFF)]);
     let s : State := { pending := [], dev := asking 0x0102 (sized 0x0102 (body [(1, 0), (1, 0), (2, 9), (4, 0xFFFFFFFF)])) (laser1) };
     let d := s.dev; decide (askedB mb 0x0102 b d = true ∧ blockDown d 3 = false ∧ u8 b 0 ≤ 3 ∧ u8 b 1 ≤ 2 ∧ 1 ≤ u16 b 2 ∧ u16 b 2 ≤ 100 ∧
     [4, 5, 6, 7].all (fun i => decide (u8 b i < 0x80) || u8 b i == 0xFF) = true ∧ runs (exec (.laserConfig mb) s) = true)),
    (let mb : Mailbox := 0; let b : List Byte := sized 0x0103 (body [(1, 0), (1, 0), (1, 1)]);
     let s : State := { pending := [], dev := asking 0x0103 (sized 0x0103 (body [(1, 0), (1, 0), (1, 1)])) (laser1) }; let d := s.dev;
     decide (askedB mb 0x0103 b d = true ∧ blockDown d 3 = false ∧ u8 b 0 ≤ 15 ∧ u8 b 1 ≤ 128 ∧ u8 b 2 ≤ 128 ∧ (u8 b 1 ≠ 0 ∨ u8 b 2 ≠ 0) ∧
     laserAddress d (u8 b 0) ≠ 0xFF ∧ onBus d mb = false)),
    (let mb : Mailbox := 0;
     let s : State := { pending := [], dev := asking 0x0120 (sized 0x0120 (body [(1, 0), (1, 1), (1, 2)])) ({ laser1 with mail.transfers := [{ mailbox := 0 }] }) };
     let d := s.dev; let data : List Byte := [1, 2]; decide (onBus d mb = true ∧ d.fw.state = .running ∧ mgtStopped d = false ∧
     data.length = u8 (requestBody mb d) 2)),
    (let mb : Mailbox := 0; let b : List Byte := sized 0x0120 (body [(4, 8), (4, 0), (2, 4), (1, 1)]);
     let s : State := { pending := [], dev := asking 0x0120 (sized 0x0120 (body [(4, 8), (4, 0), (2, 4), (1, 1)])) (laser1) };
     let d := s.dev; decide (askedB mb 0x0120 b d = true ∧ blockDown d 3 = false ∧ stageBad d b = false)),
    (let mb : Mailbox := 0; let b : List Byte := sized 0x0A01 (body [(1, 4), (3, 0)]);
     let s : State := { pending := [], dev := asking 0x0A01 (sized 0x0A01 (body [(1, 4), (3, 0)])) (laser1) }; let d := s.dev;
     decide (askedB mb 0x0A01 b d = true ∧ freezeOn d = false ∧ d.power.state ≠ .entering ∧ 2 ≤ u8 b 0 ∧ u8 b 0 ≤ 4)),
    (let mb : Mailbox := 0; let b : List Byte := sized 0x0A02 (body []);
     let s : State := { pending := [], dev := asking 0x0A02 (sized 0x0A02 (body [])) (laser1) }; let d := s.dev;
     decide (askedB mb 0x0A02 b d = true ∧ freezeOn d = false ∧ u8 b 0 ≤ 1 ∧ u8 b 1 ≤ (if u8 b 0 = 0 then 15 else 1) ∧ u8 b 2 ≤ 1 ∧
     (u8 b 2 = 0 → (if u8 b 0 = 0 then engineUsed d (u8 b 1) else tileUsed d (u8 b 1)) = false))),
    (let mb : Mailbox := 0; let b : List Byte := sized 0x0A03 (body [(1,1),(1,0),(2,2000),(4,0)]);
     let s : State := { pending := [], dev := asking 0x0A03 (sized 0x0A03 (body [(1,1),(1,0),(2,2000),(4,0)])) (laser1) }; let d := s.dev;
     decide (askedB mb 0x0A03 b d = true ∧ u8 b 1 ≤ 2 ∧ 100 ≤ u16 b 2 ∧ u16 b 2 ≤ 20000)),
    (let mb : Mailbox := 0; let b : List Byte := sized 0x0A04 (body []);
     let s : State := { pending := [], dev := asking 0x0A04 (sized 0x0A04 (body [])) (laser1) }; let d := s.dev;
     decide (askedB mb 0x0A04 b d = true)),
    (let s : State := { pending := [], dev := { live with ec.pend := 1 <<< 2047, ec.srcCfg := [(2047, 0xA39)] } }; let d := s.dev;
     let x : CoreId := 3; let e : Fin 2048 := 2047; decide (coreStopped d x = false ∧ eligibleOn d x e = true ∧
     (List.range 2048).all (fun f => !eligibleOn d x f || decide (srcPrio d f < srcPrio d e) || (srcPrio d f == srcPrio d e && decide (e.val ≤ f))) = true)),
    (let s : State := { pending := [], dev := { live with ec.claimStacks := [(3, [(5, 2)])] } }; let d := s.dev; let x : CoreId := 3;
     let v : Word := 5; let src := v.toNat % 2048; let p := (2 : Nat); let rest := ([] : List (Nat × Nat));
     decide (coreStopped d x = false ∧ stackOf d x = (src, p) :: rest)),
    (let s : State := { pending := [], dev := { live with ec.pend := 1 <<< 2047, ec.srcCfg := [(2047, 0xA39)] } }; let d := s.dev;
     let x : CoreId := 3; let f : ReleaseFacts := { timerOut := false, coreWaits := false }; decide (mgtStopped d = false ∧
     d.ec.signalled.getLsbD x = false ∧ (let e := noteWait x f.coreWaits (wakeCore x d); releases e x (eligible e x) f = true))),
    (let s : State := { pending := [], dev := { live with ec.pend := 1 <<< 2047, ec.srcCfg := [(2047, 0xA49)], ec.msix := { enable := true, table := [(0, { masked := false })] } } };
     let d := s.dev; let f : ReleaseFacts := { timerOut := true, coreWaits := true }; let e : Fin 2048 := 2047; let v : Fin 64 := 0;
     decide (blockDown d 1 = false ∧ releases d 4 (eligible d 4) f = true ∧ eligibleOn d 4 e = true ∧ srcVector d e = v.val ∧
     msixHeld d v = false))] : List Bool).all id = true := by decide +kernel

/-- The tags that the witness above carries in its messages are those its clauses ask for. -/
theorem test_confirm_tags : confirmTag [] (transcript [] []) 0x49 = tagI ∧ confirmTag [] (transcript [] []) 0x53 = tagS := by decide +kernel
/-- A partner with another fingerprint, whose certificates chain, and whose signatures verify where the message carries them. -/
theorem witness_AgreementsStartEndAndKeyBothEnds_partner :
    partnerFault { live with ixtas.inbox := [msg 0x10 (zeros 1705)] } 0 { fingerprint := ownFingerprint + 1, chains := true, signed := false } false = none ∧
    partnerFault { live with trust.agree := [(0, { state := .respSent })] } 0 { fingerprint := ownFingerprint + 1, chains := true, signed := true } true = none := by
  have h : (ownFingerprint + 1 == ownFingerprint) = false := by
    rw [beq_eq_false_iff_ne]; intro e
    have := congrArg BitVec.toNat e
    rw [BitVec.toNat_add] at this
    have l := ownFingerprint.isLt
    have o : (1 : BitVec 384).toNat = 1 := by decide
    rw [o] at this
    omega
  constructor <;> (show firstOf [(_ == _, 5), _, _, _] = none) <;> rw [h] <;> decide +kernel

/-- The HBM holds 32 GiB at least: the clauses above that ask for a region inside it are met with 32. -/
theorem test_hbm_holds_32 : 32 ≤ hbmGib := by unfold hbmGib; split <;> decide
/-- A staged image of one byte, if it is signed, meets the hypotheses of the FW_ACTIVATE clause of HubAndPowerCommandsComplete. -/
theorem witness_HubAndPowerCommandsComplete_activate (h : Config.imageSigned [0] = true) :
    let b : List Byte := sized 0x0121 (le 4 1 ++ zeros 4 ++ be 48 (sha384 [0]).toNat)
    let d := asking 0x0121 b { live with fw.staged := some { size := 1, bytes := [0], complete := true } }
    askedB 0 0x0121 b d = true ∧ blockDown d 3 = false ∧ wholeImage d = some [0] ∧ u32 b 0 = 1 ∧
      BitVec.ofNat 384 (beNat (part b 8 48)) = sha384 [0] ∧ Config.imageSigned [0] = true ∧
      d.trust.svnFloor.toNat ≤ (Config.imageSvn [0]).toNat := by
  refine ⟨by decide +kernel, by decide +kernel, by decide +kernel, by decide +kernel, by decide +kernel, h, ?_⟩
  exact Nat.zero_le _
/-- A calibration record of this device: its stepping and the low half of its serial number. -/
def calBody : List Byte :=
  [1, 15, Config.stepping, 0] ++ zeros 12 ++ (List.range 8).map (fun i => (Config.serial.extractLsb' (8 * i) 8)) ++ zeros 24
/-- It waits in mailbox 0. -/
def calAsk : Dev :=
  { live with mail.order := [0], mail.boxes := [(0, { state := .pending, negMajor := 3
                                                      cells := (([3, 0, 8, 11] ++ zeros 4 ++ [48] ++ zeros 7 ++ calBody).zipIdx).map (fun (e : Byte × Nat) => (e.2, e.1)) })] }
set_option exponentiation.threshold 5000 in
set_option maxRecDepth 10000 in
/-- It meets the hypotheses of the CAL_RESTORE clause of MeasurementCommandsComplete. -/
theorem witness_MeasurementCommandsComplete_restore : Asked 0 0x0B08 calBody calAsk ∧ firstDown calAsk (engineBlock (u8 calBody 1)) = none ∧ freezeOn calAsk = false ∧
    (calOf calAsk (u8 calBody 1)).state = .idle ∧ calMismatch calBody = false := by
  refine ⟨⟨by decide +kernel, rfl⟩, by decide +kernel, by decide +kernel, by decide +kernel, ?_⟩
  have h : un calBody 16 8 = Config.serial.toNat % 2 ^ 64 := by
    have e : ∀ v : BitVec 128, leNat ((List.range 8).map (fun i => (v.extractLsb' (8 * i) 8))) = v.toNat % 2 ^ 64 := by
      intro v
      simp [List.range, List.range.loop, leNat, BitVec.extractLsb'_toNat, Nat.shiftRight_eq_div_pow]
      omega
    exact e _
  have h2 : u8 calBody 2 = Config.stepping.toNat := by show Config.stepping.toNat + 256 * 0 = _; omega
  have h0 : u8 calBody 0 = 1 := by decide +kernel
  have h1 : u8 calBody 1 = 15 := by decide +kernel
  simp [calMismatch, h, h2, h0, h1]

end Sys2Proof.Tests
end

section
/-! O15, `Obligations.SecondsBinsAndQueueWords`, fails in its clause on transmit queues. The clause says of every device that a unit with
room stands in the queue as it came. A flip armed on the depot (R430) makes the first word of the unit be stored XOR the mask, and R424
has an uncorrectable word of the depot sent as zero data: the queue then holds another word than the one that arrived. -/

open Sys2Proof

namespace Sys2Proof.Machine

/-- QUEUE_WORD_ARRIVAL of a delineation unit, while CK_HUB runs, is `arriveUnit` (R237). -/
theorem exec_queueWordArrival_of_unitOk {q : Queue} {unit : List QWord} {s : State} (hunit : unitOk s.dev q unit = true)
    (hawake : asleep s.dev = false) :
    exec (.queueWordArrival q unit) s = .next { s with dev := arriveUnit q unit s.dev } := by
  have hguard : (unitOk s.dev q unit && !asleep s.dev) = true := by rw [hunit, hawake]; rfl
  exact congrArg (fun d => Host.Outcome.next { s with dev := d }) (if_pos hguard)

/-- A device in TEST whose SLP link of lanes 126 and 127 owns tributary 5, with one depot page and QUEUE_MAX 32 for its queue; a mask of
two data bits is armed on region 0, the depot. -/
def depotFlipArmed : Dev :=
  { Dev.reset with
    pins.testmode := true
    mem.flipTarget := 0
    mem.flipArmed := true
    mem.flipMask := 3
    clients.groups := [(126, { protocol := 2, width := 2, enable := true, first := 5, count := 1, up := true })]
    slots.tx := [(5, { cfg := { pages := 1, max := 32 } })] }

/-- One cell of 32 words, each of them 1. -/
def onesCell : List QWord := List.replicate 32 1

theorem unitOk_onesCell : unitOk depotFlipArmed (5 : Queue) onesCell = true := by decide +kernel

theorem roomFor_onesCell :
    let x := txQueue depotFlipArmed (5 : Queue)
    roomFor depotFlipArmed x.cfg (txStore x) (onesCell.foldl (pushWord x.cfg (spills depotFlipArmed x.cfg)) (txStore x)) = true := by
  decide +kernel

/-- The queue was empty, and after the arrival its first word is 0, not the 1 that arrived: two wrong bits make a word uncorrectable
(R419). -/
theorem arriveUnit_onesCell_all :
    (txStore (txQueue depotFlipArmed (5 : Queue))).all = [] ∧
    (txStore (txQueue (arriveUnit (5 : Queue) onesCell depotFlipArmed) (5 : Queue))).all = 0 :: List.replicate 31 1 := by
  decide +kernel

/-- Refutes O15: with a flip armed on the depot, the first word of a unit that has room enters the queue as zero data. -/
theorem not_secondsBinsAndQueueWords : ¬ Obligations.SecondsBinsAndQueueWords := by
  intro h
  obtain ⟨-, -, -, -, -, -, -, hArrival, -⟩ := h { pending := [], dev := depotFlipArmed }
  obtain ⟨hEnters, -⟩ := hArrival 5 onesCell
  obtain ⟨t, hrun, -, -, -, hRoom⟩ := hEnters unitOk_onesCell rfl
  obtain ⟨hall, -, -⟩ := hRoom roomFor_onesCell
  have ht : t = { pending := [], dev := arriveUnit (5 : Queue) onesCell depotFlipArmed } := by
    rw [exec_queueWordArrival_of_unitOk unitOk_onesCell rfl] at hrun
    injection hrun with hrun
    exact hrun.symm
  subst ht
  obtain ⟨hbefore, hafter⟩ := arriveUnit_onesCell_all
  dsimp only at hall
  rw [hafter, hbefore] at hall
  exact absurd hall (by decide)

end Sys2Proof.Machine
end

section
/-! O51, `Obligations.SlotAndQueueCommandsComplete`, fails in its clause on SLOT_WRITE. The clause says of every device that an accepted
SLOT_WRITE leaves each entry of the request in the standby page. A flip armed on region 4, connection memory and the receive map (R421,
R430), makes the first word written be stored XOR the mask, and R424 has an uncorrectable entry used as IDLE: the page then holds another
entry than the one requested. SLOT_COPY stores through the same `hitEntries`. -/

open Sys2Proof

namespace Sys2Proof.Machine

/-- A command leaves one device: whatever devices `Completes` names for it have the same slots, queues and pages. -/
theorem slots_eq_of_completes {i : Instr} {mb mb' : Mailbox} {body body' : List Byte} {e e' : Dev} {s : State}
    (h : Completes i mb body e s) (h' : Completes i mb' body' e' s) : e.slots = e'.slots := by
  obtain ⟨t, hrun, -, -, -, -, -, hdev⟩ := h
  obtain ⟨t', hrun', -, -, -, -, -, hdev'⟩ := h'
  obtain rfl : t = t' := Host.Outcome.next.inj (hrun.symm.trans hrun')
  have hslots : t.dev.slots = e.slots := by rw [hdev]
  have hslots' : t.dev.slots = e'.slots := by rw [hdev']
  exact hslots.symm.trans hslots'

/-- The pages are part of the slots. -/
theorem pageOf_congr {d e : Dev} (b : List Byte) (p : Bool) (h : d.slots = e.slots) : pageOf d b p = pageOf e b p := by
  simp only [pageOf, txPage, rxPage, h]

/-- The device after the effect of an accepted SLOT_WRITE with body `b`, an armed flip taken into account (R243, R430). -/
def slotWritten (b : List Byte) (d : Dev) : Dev :=
  useFlip 4 (setPageOf b (standby1 d b)
    (putEntries (pageOf d b (standby1 d b)) (pageBase b (u16 b 2) + u16 b 4) (hitEntries (flipMaskFor 4 d) (entriesIn b))) d)

/-- An accepted SLOT_WRITE answers OK at once and leaves the device `slotWritten`. -/
theorem slotWrite_completes {mb : Mailbox} {b : List Byte} {s : State} (hasked : Asked mb 0x0403 b s.dev)
    (hpower : firstDown s.dev (pageTargets b) = none) (hfreeze : freezeOn s.dev = false) (hrange : rangeOk b = true)
    (hentries : (entriesIn b).all (entryOk (u8 b 0 == 1)) = true) (harmed : pageArmed s.dev b = false) :
    Completes (.slotWrite mb) mb (zeros 4) (slotWritten b s.dev) s := by
  have hchecks : firstOf (slotWriteService.checks s.dev b) = none := by
    simp [slotWriteService, firstOf, hrange, hentries, harmed]
  exact completes_of rfl hasked (judge_none hpower hchecks fun _ => hfreeze) rfl

/-- The body of a SLOT_WRITE of one transmit entry: page of engine 0, FIRST 0, COUNT 1, QUEUE entry of tributary 5 with ordinal 0. -/
def oneEntryBody : List Byte := le 1 0 ++ zeros 1 ++ le 2 0 ++ le 2 0 ++ le 2 1 ++ le 4 21

/-- A device in TEST, firmware running, with that SLOT_WRITE pending in mailbox 0; a mask of two data bits is armed on region 4. -/
def entryFlipArmed : Dev :=
  { Dev.reset with
    fw.state := .running
    fw.stage := 5
    fw.mailboxReady := true
    pins.testmode := true
    mem.everRan := true
    mem.flipTarget := 4
    mem.flipArmed := true
    mem.flipMask := 3
    mail.order := [0]
    mail.boxes := [(0, {
      cells := cellsFrom 0 ([3, 0] ++ le 2 0x0403 ++ le 4 7 ++ le 2 oneEntryBody.length ++ zeros 6 ++ oneEntryBody)
      state := .pending
      negMajor := 3 })] }

theorem asked_entryFlipArmed : Asked 0 0x0403 oneEntryBody entryFlipArmed := ⟨by decide +kernel, by decide +kernel⟩

/-- No check refuses the request: power, freeze, range, entries, armed swap. -/
theorem slotWrite_unrefused_entryFlipArmed :
    firstDown entryFlipArmed (pageTargets oneEntryBody) = none ∧ freezeOn entryFlipArmed = false ∧ rangeOk oneEntryBody = true ∧
    (entriesIn oneEntryBody).all (entryOk (u8 oneEntryBody 0 == 1)) = true ∧ pageArmed entryFlipArmed oneEntryBody = false := by
  decide +kernel

/-- The entry requested is not 0, and the entry stored is IDLE: two wrong bits make a word uncorrectable (R419). -/
theorem slotWritten_entryFlipArmed :
    (entriesIn oneEntryBody)[0]? = some 21 ∧
    tabGet (fun _ => (0 : Word)) (pageOf (slotWritten oneEntryBody entryFlipArmed) oneEntryBody (standby1 entryFlipArmed oneEntryBody))
      (pageBase oneEntryBody (u16 oneEntryBody 2) + u16 oneEntryBody 4 + 0) = 0 := by
  decide +kernel

/-- Refutes O51: with a flip armed on connection memory, an accepted SLOT_WRITE of a QUEUE entry leaves IDLE in the standby page. -/
theorem not_slotAndQueueCommandsComplete : ¬ Obligations.SlotAndQueueCommandsComplete := by
  intro h
  obtain ⟨-, -, hWrite, -⟩ := h 0 oneEntryBody { pending := [], dev := entryFlipArmed }
  obtain ⟨hpower, hfreeze, hrange, hentries, harmed⟩ := slotWrite_unrefused_entryFlipArmed
  obtain ⟨e, hcompletes, hstored⟩ := hWrite asked_entryFlipArmed hpower hfreeze hrange hentries harmed
  have hslots := slots_eq_of_completes hcompletes (slotWrite_completes asked_entryFlipArmed hpower hfreeze hrange hentries harmed)
  obtain ⟨hrequested, hidle⟩ := slotWritten_entryFlipArmed
  have hread := hstored 0 21 hrequested
  rw [pageOf_congr _ _ hslots, hidle] at hread
  exact absurd hread (by decide)

end Sys2Proof.Machine
end

section
/-! O53, `Obligations.CipherCommandsComplete`: each clause is a lemma of its own, from `completes_of` or `starts_of` with what the command's
checks say (R445) and what its effect leaves. All five name the hub alone as their block. -/

open Sys2Proof

namespace Sys2Proof.Machine

/-! ## What the checks and the shared operations do -/

/-- No check refuses exactly where the condition of every one is false. -/
theorem firstOf_eq_none_iff {α : Type} (l : List (Bool × α)) : firstOf l = none ↔ ∀ e ∈ l, e.1 = false := by
  induction l with
  | nil => simp [firstOf]
  | cons e t ih =>
    obtain ⟨p, v⟩ := e
    cases p <;> simp [firstOf, ih]

theorem within_of_le {lo hi v : Nat} (hlo : lo ≤ v) (hhi : v ≤ hi) : within lo hi v = true := by simp [within, hlo, hhi]

theorem firstDown_single_eq_none {d : Dev} {n : Nat} (h : blockDown d n = false) : firstDown d [n] = none := by simp [firstDown, h]

@[simp] theorem useFlip_cipher (region : Nat) (d : Dev) : (useFlip region d).cipher = d.cipher := by
  unfold useFlip
  split <;> simp

@[simp] theorem cipherTx_useFlip (region c : Nat) (d : Dev) : cipherTx (useFlip region d) c = cipherTx d c := by simp [cipherTx]

@[simp] theorem cipherRx_useFlip (region c : Nat) (d : Dev) : cipherRx (useFlip region d) c = cipherRx d c := by simp [cipherRx]

/-- A write to a coach's transmit side leaves every receive side. -/
@[simp] theorem cipherRx_setCipherTx (c i : Nat) (x : CipherTx) (d : Dev) : cipherRx (setCipherTx c x d) i = cipherRx d i := by
  simp [cipherRx]

/-- A write to a coach's receive side leaves every transmit side. -/
@[simp] theorem cipherTx_setCipherRx (c i : Nat) (x : CipherRx) (d : Dev) : cipherTx (setCipherRx c x d) i = cipherTx d i := by
  simp [cipherTx]

/-- The jobs in the engine at the start of a part are those there before: it takes an invocation or a serial alone (R300, R304). -/
theorem openJob_jobs (b : List Byte) (i : Nat) (d : Dev) : (openJob b i d).2.cipher.jobs = d.cipher.jobs := by
  unfold openJob
  split
  · dsimp only
    split
    · simp [useKey]
    · rfl
  · rfl

/-- The end of a part changes no job in the engine. -/
theorem closeJob_jobs (b : List Byte) (s : Nat) (x : JobContext) (d : Dev) : (closeJob b s x d).1.cipher.jobs = d.cipher.jobs := by
  unfold closeJob
  split
  · rfl
  · split <;> rfl

/-- An accepted CIPHER_JOB leaves its job last in the engine's queue (R301). -/
theorem runJob_jobs (mb : Nat) (b : List Byte) (d : Dev) :
    ∃ j, (runJob mb b d).1.cipher.jobs = d.cipher.jobs ++ [j] ∧ j.mailbox = some mb ∧ j.priority = u8 b 2 := by
  simp only [runJob, useFlip_cipher, addJob, putContext, closeJob_jobs, openJob_jobs]
  exact ⟨_, rfl, rfl, rfl⟩

/-! ## The five commands -/

/-- A CIPHER_CONFIG with its fields in range, its limit at most the ceiling and no brake against it passes every check (R308, R335). -/
theorem cipherConfig_checks_eq_none {b : List Byte} {d : Dev} (hcoach : u16 b 0 ≤ 255) (hdir : u8 b 2 ≤ 1) (hmode : u8 b 3 ≤ 1)
    (hlow : 2 ^ 20 ≤ u64 b 4) (hhigh : u64 b 4 ≤ 2 ^ 32) (hwarnLow : 50 ≤ u8 b 12) (hwarnHigh : u8 b 12 ≤ 99)
    (hmismatch : u8 b 2 = 1 → 1 ≤ u16 b 14 ∧ u16 b 14 ≤ 1024) (hceiling : u64 b 4 ≤ ceiling d)
    (hbrake : u8 b 3 = 0 → cipherBrake d (u16 b 0) (u8 b 2) = false) : firstOf (cipherConfigService.checks d b) = none := by
  have hframes : (u8 b 2 == 0 || within 1 1024 (u16 b 14)) = true := by
    rcases Nat.le_one_iff_eq_zero_or_eq_one.1 hdir with htx | hrx
    · simp [htx]
    · obtain ⟨hfew, hmany⟩ := hmismatch hrx
      rw [within_of_le hfew hmany, Bool.or_true]
  rw [firstOf_eq_none_iff]
  simp only [cipherConfigService, List.forall_mem_cons]
  refine ⟨?_, ?_, ?_, by simp⟩
  · rw [within_of_le (Nat.zero_le _) hcoach, within_of_le (Nat.zero_le _) hdir, within_of_le (Nat.zero_le _) hmode,
      within_of_le hlow hhigh, within_of_le hwarnLow hwarnHigh, hframes]
    rfl
  · simpa using hceiling
  · simpa using hbrake

/-- CIPHER_CONFIG (R308). -/
theorem cipherConfig_completes {mb : Mailbox} {b : List Byte} {s : State} (hasked : Asked mb 0x0601 b s.dev)
    (hpower : blockDown s.dev 1 = false) (hfreeze : freezeOn s.dev = false)
    (hchecks : firstOf (cipherConfigService.checks s.dev b) = none) :
    ∃ e, Completes (.cipherConfig mb) mb (zeros 4) e s ∧
      let t := cipherTx e (u16 b 0); let r := cipherRx e (u16 b 0)
      (u8 b 2 = 0 → t.modeNext = (u8 b 3 == 1) ∧ t.limit = u64 b 4 ∧ t.warn = u8 b 12 ∧ r = cipherRx s.dev (u16 b 0)) ∧
      (u8 b 2 = 1 → r.modeNext = (u8 b 3 == 1) ∧ r.limit = u64 b 4 ∧ r.warn = u8 b 12 ∧ r.mismatch = u16 b 14 ∧
        t = cipherTx s.dev (u16 b 0)) := by
  refine ⟨_, completes_of rfl hasked (judge_none (firstDown_single_eq_none hpower) hchecks fun _ => hfreeze) rfl, ?_, ?_⟩
  · intro htx
    simp [htx]
  · intro hrx
    simp [hrx]

/-- CIPHER_KEY_LOAD (R287, R309, R430): the vault key goes to its slot as an armed flip lets it stand. -/
theorem cipherKeyLoad_completes {mb : Mailbox} {b : List Byte} {s : State} (hasked : Asked mb 0x0602 b s.dev)
    (hpower : blockDown s.dev 1 = false) (hfreeze : freezeOn s.dev = false)
    (hchecks : firstOf (cipherKeyLoadService.checks s.dev b) = none) :
    ∃ i e, hostKey s.dev (u64 b 8) 2 = some i ∧ Completes (.cipherKeyLoad mb) mb (zeros 4) e s ∧ let x := vaultEntry s.dev i
      (u8 b 2 = 0 → cipherTx e (u16 b 0) =
        putTxSlot (loadSlot s.dev b) (hitKey (flipMaskFor 5 s.dev) (keySlotOf x (u64 b 16) (cipherTx s.dev (u16 b 0)).limit))
          (cipherTx s.dev (u16 b 0))) ∧
      (u8 b 2 = 1 → cipherRx e (u16 b 0) =
        putRxSlot (u8 b 3) (hitKey (flipMaskFor 5 s.dev) (keySlotOf x (u64 b 16) (cipherRx s.dev (u16 b 0)).limit))
          (cipherRx s.dev (u16 b 0))) := by
  have hkey : (hostKey s.dev (u64 b 8) 2).isNone = false :=
    (firstOf_eq_none_iff _).1 hchecks (_, badArg 30) (.tail _ (.tail _ (.head _)))
  obtain ⟨i, hi⟩ := Option.isSome_iff_exists.1 (Option.isNone_eq_false_iff.1 hkey)
  refine ⟨i, _, hi, completes_of rfl hasked (judge_none (firstDown_single_eq_none hpower) hchecks fun _ => hfreeze) rfl, ?_, ?_⟩
  · intro htx
    simp [htx, hi]
  · intro hrx
    simp [hrx, hi]

/-- CIPHER_STATUS (R310). -/
theorem cipherStatus_completes {mb : Mailbox} {b : List Byte} {s : State} (hasked : Asked mb 0x0603 b s.dev)
    (hpower : blockDown s.dev 1 = false) (hcoach : u16 b 0 ≤ 255) :
    Completes (.cipherStatus mb) mb (cipherStatusBody (u16 b 0) s.dev)
      (clearCause (.cipherCoach (u16 b 0)) (flag b 2 0) s.dev) s := by
  have hchecks : firstOf (cipherStatusService.checks s.dev b) = none := by simp [cipherStatusService, firstOf, within, hcoach]
  exact completes_of rfl hasked (judge_none (firstDown_single_eq_none hpower) hchecks nofun) rfl

/-- CIPHER_JOB (R311). -/
theorem cipherJob_starts {mb : Mailbox} {b : List Byte} {s : State} (hasked : Asked mb 0x0604 b s.dev)
    (hpower : blockDown s.dev 1 = false) (hchecks : firstOf (jobChecks s.dev b) = none) :
    ∃ e j, Starts (.cipherJob mb) mb e s ∧ e.cipher.jobs = s.dev.cipher.jobs ++ [j] ∧ j.mailbox = some mb.val ∧ j.priority = u8 b 2 := by
  obtain ⟨j, hjobs, hmailbox, hpriority⟩ := runJob_jobs mb b s.dev
  exact ⟨_, j, starts_of rfl hasked (judge_none (firstDown_single_eq_none hpower) hchecks nofun) rfl, hjobs, hmailbox, hpriority⟩

/-- CIPHER_CTX that frees a slot which the host holds (R302, R312). -/
theorem cipherCtx_frees_slot {mb : Mailbox} {b : List Byte} {s : State} (hasked : Asked mb 0x0605 b s.dev)
    (hpower : blockDown s.dev 1 = false) (haction : u8 b 0 = 0) (hslot : u8 b 1 ≤ 7) (hheld : (heldIdle s.dev (u8 b 1)).isSome = true) :
    Completes (.cipherCtx mb) mb (zeros 4) (putContext (u8 b 1) none s.dev) s := by
  have hchecks : firstOf (cipherCtxService.checks s.dev b) = none := by
    simp [cipherCtxService, firstOf, within, haction, hslot, Option.isSome_iff_ne_none.1 hheld]
  exact completes_of rfl hasked (judge_none (firstDown_single_eq_none hpower) hchecks nofun) (by simp [cipherCtxService, haction, okay, done])

/-- CIPHER_CTX that forgets an outstanding serial (R304, R312). -/
theorem cipherCtx_forgets_serial {mb : Mailbox} {b : List Byte} {s : State} (hasked : Asked mb 0x0605 b s.dev)
    (hpower : blockDown s.dev 1 = false) (haction : u8 b 0 = 1) (hserial : u64 b 4 ∈ s.dev.cipher.serials) :
    Completes (.cipherCtx mb) mb (zeros 4)
      { s.dev with cipher := { s.dev.cipher with serials := s.dev.cipher.serials.erase (u64 b 4) } } s := by
  have hchecks : firstOf (cipherCtxService.checks s.dev b) = none := by
    simp [cipherCtxService, firstOf, within, haction, hserial]
  exact completes_of rfl hasked (judge_none (firstDown_single_eq_none hpower) hchecks nofun) (by simp [cipherCtxService, haction, okay, done])

/-- Settles O53, a lemma for each clause. -/
theorem cipherCommandsComplete : Obligations.CipherCommandsComplete := by
  intro mb b s
  refine ⟨?config, cipherKeyLoad_completes, cipherStatus_completes, cipherJob_starts, cipherCtx_frees_slot, cipherCtx_forgets_serial⟩
  case config =>
    intro hasked hpower hfreeze hcoach hdir hmode hlow hhigh hwarnLow hwarnHigh hmismatch hceiling hbrake
    exact cipherConfig_completes hasked hpower hfreeze
      (cipherConfig_checks_eq_none hcoach hdir hmode hlow hhigh hwarnLow hwarnHigh hmismatch hceiling hbrake)

end Sys2Proof.Machine
end
